-- ==== Sys2Proof/Word.lean ====
section
/-! DEFINITION. The plainest types of the model: octets and wider fields as the host link and the radio
carry them, and a list of fixed length (the 52 parameters, the 32 restriction slots). -/

namespace Sys2Proof

/-- One octet of a request, a telegram or the stored image. -/
abbrev Byte := BitVec 8

/-- A field of two octets, high octet first on the wire (R184, R195). -/
abbrev Half := BitVec 16

/-- A field of four octets, high octet first on the wire (R184, R195). -/
abbrev Word := BitVec 32

/-- A list whose length is fixed by its type. -/
structure Table (α : Type) (n : Nat) where
  list : List α
  len  : list.length = n
deriving DecidableEq, Repr

/-- The entry at place `i`, absent outside the table. -/
def Table.get? {α : Type} {n : Nat} (t : Table α n) (i : Nat) : Option α := t.list[i]?

/-- The table with the entry at place `i` replaced; unchanged outside the table. -/
def Table.set {α : Type} {n : Nat} (t : Table α n) (i : Nat) (a : α) : Table α n :=
  ⟨t.list.set i a, by simp [t.len]⟩

/-- Every entry mapped on its own. -/
def Table.map {α β : Type} {n : Nat} (f : α → β) (t : Table α n) : Table β n :=
  ⟨t.list.map f, by simp [t.len]⟩

/-- The table holding `a` at every place. -/
def Table.replicate {α : Type} (n : Nat) (a : α) : Table α n := ⟨List.replicate n a, by simp⟩

end Sys2Proof
end

