-- ==== Sys2Proof/Config.lean ====
section
/-! DEFINITION. What the manual fixes once for every car, and the values it leaves open. -/

namespace Sys2Proof.Config

/-- The part address that opens every host transaction (R194). -/
def partAddress : Byte := 0xA5

/-- The sync word of a radio frame (R164). -/
def syncWord : Half := 0xB42D

/-- The signature of a stored settings image (R200). -/
def imageSignature : Byte := 0xC3

/-- The format octet of a stored settings image (R200). -/
def imageFormat : Byte := 0x01

/-- The line length in use while the profile is not VALID, in millimetres (R39). -/
def longestLine : Nat := 40000000

/-- FREE VALUE (assumption log 1): the request code that the response slot shows when a transaction ended
before its request code was clocked in. R194 makes the response REFUSED_FORMAT and states no code. -/
opaque codeOfTruncatedFrame : Byte

end Sys2Proof.Config
end

