-- ==== Sys2Proof/Syntax.lean ====
section
/-! DEFINITION. The commands of the part: one constructor of `Instr` for each row of spec/opcode_table.json,
with the operands the row's rule gives it. Octets that the host or dispatch sends are raw (R195: a code that
names no value is handed to the owner, which refuses it); pins and pulse pairs are named. -/

namespace Sys2Proof

/-- The two pulse pairs (R15). -/
inductive Pair where
  | tooth
  | wheel
deriving DecidableEq, Repr

/-- A direction along the line: of a count, of travel, of a computation (section 1.6.2). -/
inductive Way where
  | up
  | down
deriving DecidableEq, Repr

/-- The four door drive sets (chapter 9). -/
inductive Drive where
  | d1
  | d2
  | d3
  | d4
deriving DecidableEq, Repr

/-- One value for each door drive. -/
structure PerDrive (α : Type) where
  d1 : α
  d2 : α
  d3 : α
  d4 : α
deriving DecidableEq, Repr

/-- The three brake channels (R112). -/
inductive Channel where
  | service
  | holding
  | emergency
deriving DecidableEq, Repr

/-- A change of one of BRC's feedback inputs, with its new value (R112). -/
inductive Feedback where
  | servicePressure (perMille : Nat)
  | holdingPressure (perMille : Nat)
  | bandSwitch (closed : Bool)
deriving DecidableEq, Repr

/-- The two lines by which a door drive reports an obstruction (R154). -/
inductive ObstructionLine where
  | edge
  | force
deriving DecidableEq, Repr

/-- The input lines of one door drive (chapter 9, section 9.1). -/
structure DoorInputs where
  openSw   : Bool
  closedSw : Bool
  lockSw   : Bool
  edge     : Bool
  force    : Bool
  ovc      : Bool
  btn      : Bool
deriving DecidableEq, Repr

/-- What the part reads on its input pins at power-on: the straps (R199), the emergency loop (R125), the
brake feedback (R120), the channel-busy line and the door drives' lines (R144). -/
structure PowerOnPins where
  cfg0       : Bool
  cfg1       : Bool
  cfg2       : Bool
  loopClosed : Bool
  servicePressure : Nat
  holdingPressure : Nat
  bandClosed : Bool
  chBusy     : Bool
  doors      : PerDrive DoorInputs
deriving DecidableEq, Repr

/-- The 15 octets of a segment record, as sent (R195). -/
structure SegmentRecord where
  start          : Word
  kind           : Byte
  gradient       : Half
  limitUp        : Half
  limitDown      : Half
  stationPresent : Byte
  stationId      : Byte
  sides          : Byte
  releaseOrigin  : Byte
deriving DecidableEq, Repr

/-- The body of ADD_RESTRICTION and AMEND_RESTRICTION (R195). -/
structure RestrictionRequest where
  origin    : Byte
  id        : Half
  appliesTo : Byte
  zoneStart : Word
  zoneEnd   : Word
  limit     : Half
  lifeFlag  : Byte
  life      : Half
deriving DecidableEq, Repr

/-- The body of a RESTRICT telegram (R184). -/
structure RestrictFields where
  id        : Half
  sequence  : Byte
  zoneStart : Word
  zoneEnd   : Word
  appliesTo : Byte
  limit     : Half
  lifeFlag  : Byte
  life      : Half
deriving DecidableEq, Repr

/-- The body of a BEACON telegram (R184). -/
structure BeaconFields where
  zone       : Byte
  slotCount  : Byte
  slotLength : Half
  interval   : Byte
deriving DecidableEq, Repr

/-- The octets of a frame that every downlink telegram carries beside its kind and body (R164). -/
structure Header where
  destination  : Byte
  source       : Byte
  linkSequence : Byte
deriving DecidableEq, Repr

/-- A frame that has passed its CRC, from the destination through the last body octet (R164). -/
structure Frame where
  destination  : Byte
  source       : Byte
  kind         : Byte
  linkSequence : Byte
  body         : List Byte
deriving DecidableEq, Repr

/-- What arrives on the radio, with CHBUSY as it stands at the event: a window that starts at the event reads it then
(R172, R174). -/
structure Arrival (α : Type) where
  what : α
  busy : Bool
deriving DecidableEq, Repr

/-- The commands. Each constructor's docstring names the row and its rule. -/
inductive Instr where
  /-- POWER_ON (R14, R199): supply applied or NRST released, with the pins as read then. -/
  | powerOn (pins : PowerOnPins)
  /-- SETTINGS_LOAD_END (R201): the start-up read has completed; the octets read, from memory address 0 on. -/
  | settingsLoadEnd (image : List Byte)
  /-- SAVE_END (R202): the write has completed; what was read back from address 0 on before the signature
  was written, and the signature octet read back last. -/
  | saveEnd (readBack : List Byte) (signature : Byte)
  /-- HOST_FRAME_REJECTED (R194): a host transaction ends; the octets clocked in on SDI. -/
  | hostFrameRejected (octets : List Byte)
  /-- READ_RESPONSE (R196). -/
  | readResponse
  /-- READ_ATTENTION (R198). -/
  | readAttention
  /-- SET_ATTENTION_MASK (R198). -/
  | setAttentionMask (mask : Half)
  /-- READ_STATUS (R203). -/
  | readStatus
  /-- READ_POSITION (R33). -/
  | readPosition
  /-- READ_RESTRICTION (R73). -/
  | readRestriction (slot : Byte)
  /-- FIND_RESTRICTION (R73). -/
  | findRestriction (origin : Byte) (id : Half)
  /-- LOOKUP_LIMIT (R74). -/
  | lookupLimit (position : Word) (direction : Byte)
  /-- READ_DOORS (R162). -/
  | readDoors
  /-- READ_NOTICE (R181). -/
  | readNotice
  /-- READ_TEST_RESULT (R140). -/
  | readTestResult
  /-- READ_RADIO (R182). -/
  | readRadio
  /-- READ_PARAMETER (R12). -/
  | readParameter (number : Byte)
  /-- SET_MODE (R6). -/
  | setMode (mode : Byte)
  /-- SET_DIRECTION (R9). -/
  | setDirection (direction : Byte)
  /-- SET_PARAMETER (R11). -/
  | setParameter (number : Byte) (value : Word)
  /-- SET_POSITION (R20). -/
  | setPosition (position : Word) (uncertainty : Word)
  /-- LINE_RESET (R13): CMC takes the request. -/
  | lineReset
  /-- ODO_LINE_RESET (R35). -/
  | odoLineReset
  /-- RTB_LINE_RESET (R76). -/
  | rtbLineReset
  /-- SSV_LINE_RESET (R111). -/
  | ssvLineReset
  /-- BRC_LINE_RESET (R130). -/
  | brcLineReset
  /-- DRC_LINE_RESET (R163). -/
  | drcLineReset
  /-- VRL_LINE_RESET (R193, R183). -/
  | vrlLineReset
  /-- ADD_RESTRICTION (R68). -/
  | addRestriction (request : RestrictionRequest)
  /-- AMEND_RESTRICTION (R69). -/
  | amendRestriction (request : RestrictionRequest)
  /-- REVOKE_RESTRICTION (R70). -/
  | revokeRestriction (origin : Byte) (id : Half)
  /-- ACK_INTERVENTION (R104). -/
  | ackIntervention
  /-- RESET_EMERGENCY (R126). -/
  | resetEmergency
  /-- TRIGGER_EMERGENCY (R125). -/
  | triggerEmergency
  /-- DRIVER_BRAKE (R118). -/
  | driverBrake (level : Half)
  /-- HOLD_REQUEST (R121). -/
  | holdRequest (value : Byte)
  /-- DOOR_COMMAND_RELEASE (R148). -/
  | doorCommandRelease (side : Byte)
  /-- DOOR_COMMAND_WITHDRAW (R148); the argument octet is ignored (R195). -/
  | doorCommandWithdraw (argument : Byte)
  /-- OPEN_SIDE (R151). -/
  | openSide (side : Byte)
  /-- CLOSE_SIDE (R152). -/
  | closeSide (side : Byte)
  /-- FORCE_CLOSE (R155). -/
  | forceClose (drive : Byte)
  /-- ISOLATE (R157). -/
  | isolate (drive : Byte)
  /-- RESTORE (R158). -/
  | restore (drive : Byte)
  /-- START_BRAKE_TEST (R132). -/
  | startBrakeTest
  /-- ABORT_BRAKE_TEST (R139). -/
  | abortBrakeTest
  /-- PROFILE_BEGIN (R41). -/
  | profileBegin (count : Half) (length : Word)
  /-- PROFILE_SEGMENT (R42). -/
  | profileSegment (index : Half) (segment : SegmentRecord)
  /-- PROFILE_END (R43). -/
  | profileEnd
  /-- SAVE_SETTINGS (R202). -/
  | saveSettings
  /-- CLEAR_RADIO_ERRORS (R170). -/
  | clearRadioErrors
  /-- PULSE_COUNT (R15): a full quadrature cycle on a pair. -/
  | pulseCount (pair : Pair) (way : Way)
  /-- ILLEGAL_STEP (R15): both phases of a pair change together. -/
  | illegalStep (pair : Pair)
  /-- STANDSTILL_EXPIRY (R27). -/
  | standstillExpiry
  /-- SPEED_UPDATE (R29); `rtbFirst` says whether RTB or SSV takes the update first (R60). -/
  | speedUpdate (rtbFirst : Bool)
  /-- SECOND_TICK (R59). -/
  | secondTick
  /-- RESTRICTION_EXPIRY (R59): the life of the record in this slot reaches 0. -/
  | restrictionExpiry (slot : Fin 32)
  /-- LOOP_CHANGE (R125): ELOOP's new state. -/
  | loopChange (closed : Bool)
  /-- FEEDBACK_CHANGE (R114). -/
  | feedbackChange (feedback : Feedback)
  /-- CHECK_TIMER_EXPIRY (R116). -/
  | checkTimerExpiry (channel : Channel)
  /-- STEP_TIMER_EXPIRY (R134). -/
  | stepTimerExpiry
  /-- OPEN_SWITCH (R151): OPENSW of a drive is made or lost. -/
  | openSwitch (drive : Drive) (made : Bool)
  /-- CLOSED_SWITCH (R153): CLSDSW of a drive is made or lost. -/
  | closedSwitch (drive : Drive) (made : Bool)
  /-- LOCK_SWITCH (R153, R159): LOCKSW of a drive confirms or stops confirming. -/
  | lockSwitch (drive : Drive) (confirms : Bool)
  /-- OBSTRUCTION (R154): EDGE or FORCE of a drive goes active (or inactive again). -/
  | obstruction (drive : Drive) (line : ObstructionLine) (active : Bool)
  /-- OVERCURRENT (R157): OVC of a drive goes active (or inactive again). -/
  | overcurrent (drive : Drive) (active : Bool)
  /-- DOOR_BUTTON (R151): BTN of a drive goes active (or inactive again). -/
  | doorButton (drive : Drive) (active : Bool)
  /-- OPEN_TIMEOUT (R151). -/
  | openTimeout (drive : Drive)
  /-- TRAVEL_LIMIT (R153). -/
  | travelLimit (drive : Drive)
  /-- LOCK_TIMEOUT (R153). -/
  | lockTimeout (drive : Drive)
  /-- AUTO_CLOSE_DWELL (R151). -/
  | autoCloseDwell (drive : Drive)
  /-- REVERSE_TIME (R154). -/
  | reverseTime (drive : Drive)
  /-- REOPEN_DWELL (R154). -/
  | reopenDwell (drive : Drive)
  /-- HOLD_RETRY_INTERVAL (R155). -/
  | holdRetryInterval (drive : Drive)
  /-- FRAMING (R165): a length octet outside 4 to 68 completes. -/
  | framing
  /-- CHECK (R166): a completed frame fails its CRC. -/
  | check
  /-- FRAME_DROPPED (R168): a frame that passes its CRC completes and is judged. -/
  | frameDropped (frame : Arrival Frame)
  /-- BEACON (R172); `busy` is CHBUSY at the event, for a window that starts at it (slot 0). -/
  | beacon (header : Header) (fields : BeaconFields) (busy : Bool)
  /-- RESTRICT (R64); `listFirst` says whether, at a NAK FULL, the new list or the reply is taken first (R189). -/
  | restrict (header : Header) (fields : RestrictFields) (listFirst : Bool)
  /-- REVOKE (R66). -/
  | revoke (header : Header) (id : Half) (sequence : Byte)
  /-- SYNC_DONE (R190). -/
  | syncDone (header : Header) (answered : Byte)
  /-- DOOR_RELEASE (R146). -/
  | doorRelease (header : Header) (station : Byte) (side : Byte)
  /-- DOOR_WITHDRAW (R147). -/
  | doorWithdraw (header : Header) (station : Byte)
  /-- POLL (R169). -/
  | poll (header : Header)
  /-- NOTICE (R180). -/
  | notice (header : Header) (number : Byte) (text : List Byte)
  /-- ACK (R179). -/
  | ack (header : Header) (sequence : Byte)
  /-- SILENCE_EXPIRY (R171). -/
  | silenceExpiry
  /-- WINDOW_START (R174), with CHBUSY as it stands then. -/
  | windowStart (busy : Bool)
  /-- TRANSMISSION_END (R175). -/
  | transmissionEnd
  /-- RECEIVED_BIT (R165). -/
  | receivedBit (bit : Arrival Bool)
  /-- UNKNOWN_DOOR_COMMAND (R148): a DOOR_COMMAND whose command octet names none of the seven. -/
  | unknownDoorCommand (command : Byte) (argument : Byte)
deriving DecidableEq, Repr

end Sys2Proof
end

