-- ==== Sys2Proof/Machine/State.lean ====
section
/-! DEFINITION. The state of the part, block by block (section 1.3), as plain data, and the state right after
power-on. Distances inside ODO are micrometres, every other distance millimetres (section 1.6.1).
A `Timer` is absent while the timer does not run and holds the milliseconds left while it runs. -/

namespace Sys2Proof.Machine

/-- Milliseconds a running timer has left; absent while it does not run. -/
abbrev Timer := Option Nat

/-! ### CMC, chapter 1 -/

/-- The car mode (R1). -/
inductive Mode where
  | stabled
  | preparation
  | service
  | shunt
deriving DecidableEq, Repr

/-- The selected direction (R1). -/
inductive Selected where
  | up
  | down
  | neutral
deriving DecidableEq, Repr

/-- Which owners still have to take their part of a LINE_RESET (R13). -/
structure ResetParts where
  odo : Bool
  rtb : Bool
  ssv : Bool
  brc : Bool
  drc : Bool
  vrl : Bool
deriving DecidableEq, Repr

/-- Car Mode Control: mode, direction, the active parameters 1 … 52 (entry n − 1 is parameter n), the pending
set of the deferred parameters 1 … 31 (R11), and the owners' outstanding parts of a LINE_RESET. -/
structure CarModes where
  mode       : Mode
  selected   : Selected
  params     : Table Nat 52
  pendingSet : Table (Option Nat) 31
  resetParts : ResetParts
deriving DecidableEq, Repr

/-! ### ODO, chapter 2 -/

/-- The position status (R19). -/
inductive PositionStatus where
  | unknown
  | valid
  | degraded
deriving DecidableEq, Repr

/-- Why the status is DEGRADED (R19). -/
inductive DegradedReason where
  | cap
  | conflict
deriving DecidableEq, Repr

/-- The position estimate N and U, in micrometres (R18, R19). -/
structure Estimate where
  nominal     : Nat
  uncertainty : Nat
deriving DecidableEq, Repr

/-- Whether the pinion is meshed with the rack (R22). -/
inductive Engagement where
  | engaged
  | free
deriving DecidableEq, Repr

/-- The missed-entry watch; ARMED and MISSED name a RACK_ENTRY start in millimetres (R25). -/
inductive Watch where
  | idle
  | armed (start : Nat)
  | missed (start : Nat)
deriving DecidableEq, Repr

/-- The standstill state (R27). -/
inductive Motion where
  | standstill
  | moving
deriving DecidableEq, Repr

/-- The travel direction ODO measures (R29). -/
inductive Travel where
  | none
  | up
  | down
deriving DecidableEq, Repr

/-- The values of the most recent speed update, which VRL puts into POSITION telegrams (R30); the nominal
position and the uncertainty in millimetres, 0 when the status was UNKNOWN. -/
structure Report where
  status      : PositionStatus
  nominal     : Nat
  uncertainty : Nat
  speed       : Nat
  travel      : Travel
deriving DecidableEq, Repr

/-- The Odometry Unit. -/
structure Odometry where
  toothTotal      : BitVec 32
  wheelTotal      : BitVec 32
  toothIllegal    : Nat
  wheelIllegal    : Nat
  estimate        : Option Estimate
  status          : PositionStatus
  degradedReason  : Option DegradedReason
  engagement      : Engagement
  wheelTravel     : Nat
  watch           : Watch
  motion          : Motion
  standstillTimer : Timer
  speed           : Nat
  travel          : Travel
  windowSum       : Int
  windowLength    : Nat
  windowLeft      : Nat
  reverse         : Nat
  report          : Report
deriving DecidableEq, Repr

/-! ### LPS, chapter 3 -/

/-- The profile status (R38). -/
inductive ProfileStatus where
  | empty
  | loading
  | valid
  | invalid
deriving DecidableEq, Repr

/-- Why a profile load failed (R44). -/
inductive ProfileFault where
  | fieldRange
  | firstStart
  | startOrder
  | startBeyond
  | rackSequence
  | entrySequence
  | stationDuplicate
  | incomplete
  | header
deriving DecidableEq, Repr

/-- The Line Profile Store: the segments held, the status and the load record (R38). -/
structure LineProfile where
  status          : ProfileStatus
  segments        : List SegmentRecord
  announcedCount  : Nat
  receivedCount   : Nat
  announcedLength : Nat
  failure         : Option (Nat × ProfileFault)
deriving DecidableEq, Repr

/-! ### RTB, chapter 4 -/

/-- Who issued a restriction (R52). -/
inductive Origin where
  | dispatch
  | cab
deriving DecidableEq, Repr

/-- The directions a part applies to (R52). -/
inductive AppliesTo where
  | up
  | down
  | both
deriving DecidableEq, Repr

/-- The in-force part of a record: zone start included, zone end excluded (R52). -/
structure InForcePart where
  zoneStart : Nat
  zoneEnd   : Nat
  limit     : Nat
deriving DecidableEq, Repr

/-- The trailing part of a record, with its own applies-to (R52). -/
structure TrailingPart where
  zoneStart : Nat
  zoneEnd   : Nat
  limit     : Nat
  appliesTo : AppliesTo
deriving DecidableEq, Repr

/-- A restriction record (R52). -/
structure Restriction where
  origin    : Origin
  id        : Nat
  sequence  : Option Byte
  appliesTo : AppliesTo
  inForce   : Option InForcePart
  trailing  : Option TrailingPart
  life      : Option Nat
deriving DecidableEq, Repr

/-- The Restriction Table: 32 slots and the header of R51 (the held count is `heldCount`, counted from the
slots), and the milliseconds to the next tick of the second counter (R59). -/
structure RestrictionTable where
  slots         : Table (Option Restriction) 32
  overflow      : Bool
  overflowCount : Nat
  changeCount   : Half
  secondLeft    : Nat
deriving DecidableEq, Repr

/-! ### SSV, chapters 5 and 6 -/

/-- The blanket causes (R96). -/
inductive Blanket where
  | linkSilence
  | tableOverflow
  | position
  | brake
  | noProfile
deriving DecidableEq, Repr

/-- The active blanket set (R96). -/
structure BlanketSet where
  linkSilence   : Bool
  tableOverflow : Bool
  position      : Bool
  brake         : Bool
  noProfile     : Bool
deriving DecidableEq, Repr

/-- The intervention state (R100). -/
inductive Intervention where
  | normal
  | warning
  | service
  | emergency
deriving DecidableEq, Repr

/-- How the last update was evaluated (R94). -/
inductive Evaluation where
  | idle
  | full
  | noPosition
  | shunt
deriving DecidableEq, Repr

/-- A place in RTB: a record's slot and which of its parts (R94). -/
structure PartName where
  slot    : Nat
  origin  : Origin
  id      : Nat
  inForce : Bool
deriving DecidableEq, Repr

/-- What set V_perm (R94). -/
inductive Governing where
  | lineMaximum
  | blanket (cause : Blanket)
  | segment (index : Nat)
  | part (name : PartName)
  | lineEnd
deriving DecidableEq, Repr

/-- The deceleration kind used for a target (R94). -/
inductive DecelerationKind where
  | rackService
  | rackEmergency
  | adhesionService
  | adhesionEmergency
deriving DecidableEq, Repr

/-- What the record holds of a governing target (R94). -/
structure TargetRecord where
  position   : Nat
  targetSpeed : Nat
  distance   : Nat
  effectiveDistance : Nat
  worstGradient : Int
  gravity    : Nat
  kind       : DecelerationKind
  effectiveDeceleration : Int
  floorApplied : Bool
deriving DecidableEq, Repr

/-- The supervision record (R94). -/
structure SupervisionRecord where
  evaluation : Evaluation
  direction  : Way
  localLimit : Nat
  permitted  : Nat
  speed      : Nat
  governing  : Option Governing
  target     : Option TargetRecord
  targets    : Nat
deriving DecidableEq, Repr

/-- The Speed Supervisor. `resetView` is the model's own field: the blanket set as it stood before a LINE_RESET
in progress, which a speed update goes on seeing until ODO, RTB, SSV and VRL have taken their parts (R97). -/
structure Supervisor where
  blankets     : BlanketSet
  permitted    : Nat
  state        : Intervention
  acknowledged : Bool
  released     : Bool
  overspeed    : Bool
  record       : SupervisionRecord
  resetView    : Option BlanketSet
deriving DecidableEq, Repr

/-! ### BRC, chapters 7 and 8 -/

/-- The health of a channel (R113). -/
inductive Health where
  | untested
  | ok
  | degraded
  | failed
deriving DecidableEq, Repr

/-- The supervision state of a channel; CHECKING holds its check timer (R114). -/
inductive Supervision where
  | idle
  | checking (left : Nat)
  | settled
deriving DecidableEq, Repr

/-- The last failure record: output value and feedback value at the failure (R116). -/
inductive FailureRecord where
  | service (setpoint : Nat) (pressure : Nat)
  | holding (energized : Bool) (pressure : Nat)
  | emergency (energized : Bool) (bandClosed : Bool)
deriving DecidableEq, Repr

/-- What BRC holds for each channel (R113, R114, R116). -/
structure ChannelState where
  health      : Health
  supervision : Supervision
  failures    : Nat
  lastFailure : Option FailureRecord
deriving DecidableEq, Repr

/-- The demand set: the level of each source's demand, absent when it has none (R117). -/
structure Demands where
  driver       : Option Nat
  intervention : Option Nat
  doorHold     : Option Nat
  test         : Option Nat
  emergency    : Option Nat
deriving DecidableEq, Repr

/-- The holding demands present (R119). -/
structure HoldingDemands where
  mode  : Bool
  door  : Bool
  latch : Bool
  host  : Bool
  auto  : Bool
deriving DecidableEq, Repr

/-- The host hold request (R121). -/
inductive HoldRequest where
  | apply
  | release
deriving DecidableEq, Repr

/-- The causes of the emergency latch (R123). -/
inductive LatchCause where
  | powerOn
  | overspeed
  | rollback
  | rackMissed
  | stabledMotion
  | doorMotion
  | loopOpen
  | hostRequest
  | testMotion
deriving DecidableEq, Repr

/-- The cause set of the emergency latch (R123). -/
structure LatchSet where
  powerOn       : Bool
  overspeed     : Bool
  rollback      : Bool
  rackMissed    : Bool
  stabledMotion : Bool
  doorMotion    : Bool
  loopOpen      : Bool
  hostRequest   : Bool
  testMotion    : Bool
deriving DecidableEq, Repr

/-- The steps of the brake test (R135). -/
inductive TestStep where
  | s1
  | s2
  | s3
  | s4
  | s5
  | s6
deriving DecidableEq, Repr

/-- A RUNNING brake test: the step, its timer, and the parameter values the test took at its start (R131). -/
structure TestContext where
  step             : TestStep
  left             : Nat
  tolerance        : Nat
  holdingThreshold : Nat
  releaseThreshold : Nat
  stepTimeout      : Nat
deriving DecidableEq, Repr

/-- The overall outcome of the last test (R131). -/
inductive Overall where
  | none
  | inProgress
  | passed
  | failed
  | aborted
deriving DecidableEq, Repr

/-- The outcome of a step, with its time for a step that has ended (R131). -/
inductive StepOutcome where
  | notRun
  | pass (time : Nat)
  | fail (time : Nat)
deriving DecidableEq, Repr

/-- Why a test was aborted (R138). -/
inductive AbortReason where
  | motion
  | request
  | lineReset
  | latch
  | door
deriving DecidableEq, Repr

/-- The six step outcomes (R131). -/
structure StepOutcomes where
  s1 : StepOutcome
  s2 : StepOutcome
  s3 : StepOutcome
  s4 : StepOutcome
  s5 : StepOutcome
  s6 : StepOutcome
deriving DecidableEq, Repr

/-- The result record of the last test (R131). -/
structure TestResult where
  overall : Overall
  steps   : StepOutcomes
  abort   : Option (AbortReason × TestStep)
deriving DecidableEq, Repr

/-- The Brake Controller. The valves are `true` when ENERGIZED (R112). -/
structure Brakes where
  service     : ChannelState
  holding     : ChannelState
  emergency   : ChannelState
  setpoint    : Nat
  releaseValve : Bool
  dumpValve   : Bool
  servicePressure : Nat
  holdingPressure : Nat
  bandClosed  : Bool
  loopClosed  : Bool
  demands     : Demands
  driverLevel : Nat
  hold        : HoldingDemands
  hostHold    : HoldRequest
  confirmed   : Bool
  permit      : Bool
  latch       : LatchSet
  test        : Option TestContext
  result      : TestResult
deriving DecidableEq, Repr

/-! ### DRC, chapter 9 -/

/-- A side of the car or of a platform, as seen facing UP (section 1.6.2). -/
inductive Side where
  | left
  | right
deriving DecidableEq, Repr

/-- The place of a leaf on its side (R141). -/
inductive LeafIndex where
  | valley
  | mountain
deriving DecidableEq, Repr

/-- The phase of a leaf in REVERSING or HELD (R143). -/
inductive Phase where
  | drive
  | dwell
deriving DecidableEq, Repr

/-- Why a leaf is ISOLATED (R143). -/
inductive IsolationCause where
  | overcurrent
  | timeout
  | host
deriving DecidableEq, Repr

/-- The state of a leaf (R143). -/
inductive LeafState where
  | locked
  | unlocked
  | opening
  | opened
  | closing
  | reversing (phase : Phase)
  | locking
  | held (phase : Phase)
  | isolated (cause : IsolationCause)
deriving DecidableEq, Repr

/-- A leaf record (R143), with the side and index of its mapping entry (R142). -/
structure Leaf where
  side     : Side
  index    : LeafIndex
  state    : LeafState
  profile  : Nat
  timer    : Timer
  lockLost : Bool
deriving DecidableEq, Repr

/-- Who gave a release (R145). -/
inductive ReleaseOrigin where
  | radio
  | cab
deriving DecidableEq, Repr

/-- The side release record (R145). -/
structure Release where
  side    : Side
  origin  : ReleaseOrigin
  station : Option Byte
deriving DecidableEq, Repr

/-- Why DRC refused a radio release (R146). -/
inductive RefusedReason where
  | mode
  | noPlatform
  | side
  | origin
  | otherRelease
deriving DecidableEq, Repr

/-- The last refused release (R145); the side octet as the telegram carried it (R185). -/
structure RefusedRelease where
  station : Byte
  side    : Byte
  reason  : RefusedReason
deriving DecidableEq, Repr

/-- The gang context of a ganged side (R156). -/
structure Gang where
  index   : Nat
  members : PerDrive Bool
deriving DecidableEq, Repr

/-- The Door Controller. `inForce` is the side whose release is in force (R149). `reportDue` is the model's own
field: a DOOR_STATE is still to be handed to VRL within the present event; it is clear between events. -/
structure Doors where
  inputs      : PerDrive DoorInputs
  leaves      : PerDrive (Option Leaf)
  conflict    : Bool
  release     : Option Release
  inForce     : Option Side
  lastRefused : Option RefusedRelease
  gangLeft    : Option Gang
  gangRight   : Option Gang
  doorHold    : Bool
  reportDue   : Bool
deriving DecidableEq, Repr

/-! ### VRL, chapters 10 and 11 -/

/-- The receiver (R165, R166). In SEARCH the last 16 bits (an empty history is all zeros, which cannot complete a
sync word by itself); in the other states the octets taken so far, and the bits of the octet in progress. -/
inductive Receiver where
  | search (history : Half)
  | length (count : Nat) (octet : Byte)
  | body (length : Byte) (octets : List Byte) (count : Nat) (octet : Byte)
  | check (length : Byte) (octets : List Byte) (crc : List Byte) (count : Nat) (octet : Byte)
deriving DecidableEq, Repr

/-- The latched radio errors (R170). -/
inductive RadioError where
  | framing
  | check
  | overrun
deriving DecidableEq, Repr

/-- The latched error set and the count of each error (R170). -/
structure RadioErrors where
  framing      : Bool
  check        : Bool
  overrun      : Bool
  framingCount : Nat
  checkCount   : Nat
  overrunCount : Nat
deriving DecidableEq, Repr

/-- The dialogue state (R186). -/
inductive Dialogue where
  | unjoined
  | reporting
  | joined
deriving DecidableEq, Repr

/-- The beacon context, with the car's slot as VRL computed it at the beacon (R172). -/
structure BeaconContext where
  zone       : Byte
  slotCount  : Nat
  slotLength : Nat
  interval   : Nat
  slot       : Nat
deriving DecidableEq, Repr

/-- The kinds a queued telegram can have (R176). -/
inductive UplinkKind where
  | restrictReply
  | restrictList
  | doorState
  | alarm
deriving DecidableEq, Repr

/-- An entry of the uplink queue (R176). -/
structure UplinkEntry where
  kind     : UplinkKind
  sequence : Byte
  attempts : Nat
  body     : List Byte
deriving DecidableEq, Repr

/-- The kinds a sent telegram can have (R168, uplink rows). -/
inductive SentKind where
  | position
  | queued (kind : UplinkKind)
deriving DecidableEq, Repr

/-- The outcome of a window (R173). -/
inductive WindowOutcome where
  | used (kind : SentKind) (sequence : Byte)
  | missed
  | unused
deriving DecidableEq, Repr

/-- A transmission in progress: the octets on TXD and the rate it started with (R167, R175). -/
structure Transmission where
  octets : List Byte
  rate   : Nat
deriving DecidableEq, Repr

/-- A notice (R180). -/
structure Notice where
  number      : Byte
  text        : List Byte
  source      : Byte
  overwritten : Bool
deriving DecidableEq, Repr

/-- The Valley Radio Link. TXEN is asserted while `transmission` is present. -/
structure RadioLink where
  receiver       : Receiver
  errors         : RadioErrors
  validCount     : Nat
  foreignCount   : Nat
  malformedCount : Nat
  gateCount      : Nat
  missedCount    : Nat
  lastSource     : Option Byte
  lastSequence   : Option Byte
  silenceTimer   : Timer
  dialogue       : Dialogue
  listCounter    : Byte
  currentList    : Option Byte
  beacon         : Option BeaconContext
  windowTimer    : Timer
  windowCount    : Nat
  lastWindow     : Option WindowOutcome
  pollMark       : Bool
  uplinkCounter  : Byte
  queue          : List UplinkEntry
  notices        : List Notice
  lastNotice     : Option Byte
  transmission   : Option Transmission
  chBusy         : Bool
deriving DecidableEq, Repr

/-! ### HLP and SLD, chapter 12 -/

/-- The response codes (R197). -/
inductive ResponseCode where
  | done
  | doneClamped
  | accepted
  | inProgress
  | refusedFormat
  | refusedMode
  | refusedMotion
  | refusedBusy
  | refusedFull
  | refusedNotFound
  | refusedNotOwner
  | refusedRange
  | refusedCondition
deriving DecidableEq, Repr

/-- A response (R196). -/
structure Response where
  request : Byte
  code    : ResponseCode
  detail  : Byte
  lost    : Bool
  body    : List Byte
deriving DecidableEq, Repr

/-- The response slot (R196). PENDING holds the LOST flag judged when the LINE_RESET was taken. -/
inductive Slot where
  | empty
  | pending (lost : Bool)
  | unread (response : Response)
  | read (response : Response)
deriving DecidableEq, Repr

/-- The attention causes (R198). -/
inductive Attention where
  | supervision
  | emergency
  | brakeHealth
  | testDone
  | door
  | dialogue
  | radio
  | notice
  | restriction
  | settings
deriving DecidableEq, Repr

/-- A set of attention causes (R198). -/
structure AttentionSet where
  supervision : Bool
  emergency   : Bool
  brakeHealth : Bool
  testDone    : Bool
  door        : Bool
  dialogue    : Bool
  radio       : Bool
  notice      : Bool
  restriction : Bool
  settings    : Bool
deriving DecidableEq, Repr

/-- The Host Link Port. `sdo` is the response frame that the part sent in the last transaction, empty when that was no
READ_RESPONSE: every octet outside it was 00h (R194, R196). -/
structure HostLink where
  slot      : Slot
  attention : AttentionSet
  mask      : AttentionSet
  sdo       : List Byte
deriving DecidableEq, Repr

/-- The settings status (R201). -/
inductive SettingsStatus where
  | loading
  | loaded
  | absent
  | corrupt
  | saving
  | saved
  | writeFailed
deriving DecidableEq, Repr

/-- The Settings Loader. `saveImage` is present while SAVING: the image SLD means to write, with 00h at offset
0 until the signature is written (R202). `writes` are SLD's writes to the memory in the last save, oldest first. -/
structure Settings where
  straps    : Nat
  status    : SettingsStatus
  clampMark : Bool
  saveImage : Option (List Byte)
  writes    : List Host.Cell
deriving DecidableEq, Repr

/-! ### The part -/

/-- The whole state of the part, and the queue of the commands that are waiting, first in, first out. -/
structure State where
  cmc     : CarModes
  odo     : Odometry
  lps     : LineProfile
  rtb     : RestrictionTable
  ssv     : Supervisor
  brc     : Brakes
  drc     : Doors
  vrl     : RadioLink
  hlp     : HostLink
  sld     : Settings
  pending : List Instr
deriving DecidableEq, Repr

/-- The faults of the machine: none. The manual stops the part for no command and no data; every command's
meaning answers a next state (NOTES.md, Stops). -/
inductive Fault where
deriving DecidableEq, Repr

/-- The refusals of the machine. -/
inductive Refusal where
  /-- Raised by `exec` alone, for a command that has no meaning yet. Safe: the model stops where the part
  goes on. -/
  | notModelled (mnemonic : String)
deriving DecidableEq, Repr

/-! ### Reset -/

/-- The active parameters after power-on with all straps low: the defaults of the chapters and strap set 0
(R199), parameter 1 first. -/
def resetParams : Table Nat 52 :=
  ⟨[6900, 2600, 3500, 1000, 1300, 70, 1500, 250, 1500000,
    300, 800, 200, 600,
    2800, 2800, 1400, 2800, 1400,
    80, 800, 150, 700, 300, 1,
    3000,
    4000, 1000, 800, 2000, 0, 0,
    100, 2400, 64, 10, 20000, 6000, 1500, 250, 300,
    20000, 1,
    1, 5, 3, 7, 0, 0, 0,
    9600,
    20, 3], rfl⟩

/-- A door drive that stands shut and bolted, with every other line inactive (assumption log 2). -/
def resetDoorInputs : DoorInputs :=
  { openSw := false, closedSw := true, lockSw := true, edge := false, force := false, ovc := false, btn := false }

/-- The pins at the power-on that `State.reset` shows (assumption log 2): straps low, loop closed, no
pressure, band applied, channel free, every leaf shut and bolted. -/
def resetPins : PowerOnPins :=
  { cfg0 := false, cfg1 := false, cfg2 := false, loopClosed := true, servicePressure := 0, holdingPressure := 0,
    bandClosed := true, chBusy := false,
    doors := ⟨resetDoorInputs, resetDoorInputs, resetDoorInputs, resetDoorInputs⟩ }

/-- A channel at power-on (R129). -/
def resetChannel : ChannelState :=
  { health := .untested, supervision := .idle, failures := 0, lastFailure := none }

/-- A leaf at power-on whose lock switch confirms (R144). -/
def resetLeaf (side : Side) (index : LeafIndex) : Leaf :=
  { side := side, index := index, state := .locked, profile := 1, timer := none, lockLost := false }

/-- The test result record at power-on (R131). -/
def noResult : TestResult :=
  { overall := .none, steps := ⟨.notRun, .notRun, .notRun, .notRun, .notRun, .notRun⟩, abort := none }

/-- The supervision record while evaluation is IDLE (R94). -/
def idleRecord : SupervisionRecord :=
  { evaluation := .idle, direction := .up, localLimit := 0, permitted := 0, speed := 0, governing := none,
    target := none, targets := 0 }

/-- No attention cause. -/
def noAttention : AttentionSet :=
  ⟨false, false, false, false, false, false, false, false, false, false⟩

/-- No outstanding part of a LINE_RESET. -/
def noParts : ResetParts := ⟨false, false, false, false, false, false⟩

/-- The part right after power-on with the pins of `resetPins`: R14, R34, R38, R75, R95, R111, R129, R131, R144,
R183, R186, R196, R198, R199 and R201. The uplink queue holds the ALARM with POWER_ON (sequence 1) and the
DOOR_STATE (sequence 2) that BRC and DRC hand over once the queue has started empty. -/
def State.reset : State where
  cmc :=
    { mode := .stabled, selected := .neutral, params := resetParams, pendingSet := Table.replicate 31 none,
      resetParts := noParts }
  odo :=
    { toothTotal := 0, wheelTotal := 0, toothIllegal := 0, wheelIllegal := 0, estimate := none,
      status := .unknown, degradedReason := none, engagement := .free, wheelTravel := 200000, watch := .idle,
      motion := .standstill, standstillTimer := none, speed := 0, travel := .none, windowSum := 0,
      windowLength := 250, windowLeft := 250, reverse := 0,
      report := { status := .unknown, nominal := 0, uncertainty := 0, speed := 0, travel := .none } }
  lps :=
    { status := .empty, segments := [], announcedCount := 0, receivedCount := 0, announcedLength := 0,
      failure := none }
  rtb :=
    { slots := Table.replicate 32 none, overflow := false, overflowCount := 0, changeCount := 0,
      secondLeft := 1000 }
  ssv :=
    { blankets := { linkSilence := true, tableOverflow := false, position := true, brake := false, noProfile := false },
      permitted := 0, state := .normal, acknowledged := false, released := false, overspeed := false,
      record := idleRecord, resetView := none }
  brc :=
    { service := resetChannel, holding := resetChannel, emergency := resetChannel, setpoint := 1000,
      releaseValve := false, dumpValve := false, servicePressure := 0, holdingPressure := 0, bandClosed := true,
      loopClosed := true,
      demands := { driver := none, intervention := none, doorHold := none, test := none, emergency := some 1000 },
      driverLevel := 0, hold := { mode := true, door := false, latch := true, host := true, auto := true },
      hostHold := .apply, confirmed := true, permit := false,
      latch := ⟨true, false, false, false, false, false, false, false, false⟩, test := none, result := noResult }
  drc :=
    { inputs := ⟨resetDoorInputs, resetDoorInputs, resetDoorInputs, resetDoorInputs⟩,
      leaves := ⟨some (resetLeaf .left .valley), some (resetLeaf .left .mountain), some (resetLeaf .right .valley),
        some (resetLeaf .right .mountain)⟩,
      conflict := false, release := none, inForce := none, lastRefused := none, gangLeft := none,
      gangRight := none, doorHold := false, reportDue := false }
  vrl :=
    { receiver := .search 0, errors := ⟨false, false, false, 0, 0, 0⟩, validCount := 0, foreignCount := 0,
      malformedCount := 0, gateCount := 0, missedCount := 0, lastSource := none, lastSequence := none,
      silenceTimer := some 20000, dialogue := .unjoined, listCounter := 0, currentList := none, beacon := none,
      windowTimer := none, windowCount := 255, lastWindow := none, pollMark := false, uplinkCounter := 2,
      queue :=
        [{ kind := .alarm, sequence := 1, attempts := 0, body := [0x00, 0x01] },
         { kind := .doorState, sequence := 2, attempts := 0,
           body :=
            [0x01, 0x01, 0x01, 0x01, 0x01, 0x00, 0x00,  0x01, 0x01, 0x02, 0x01, 0x01, 0x00, 0x00,
             0x01, 0x02, 0x01, 0x01, 0x01, 0x00, 0x00,  0x01, 0x02, 0x02, 0x01, 0x01, 0x00, 0x00,
             0x00, 0x00, 0x00, 0x00, 0x00,  0x00, 0x00, 0x00, 0x00] }],
      notices := [], lastNotice := none, transmission := none, chBusy := false }
  hlp :=
    { slot := .empty, attention := { noAttention with emergency := true },
      mask := ⟨true, true, true, true, true, true, true, true, true, true⟩, sdo := [] }
  sld := { straps := 0, status := .loading, clampMark := false, saveImage := none, writes := [] }
  pending := []

end Sys2Proof.Machine
end

