-- ==== Sys2Proof/Machine/Operands.lean ====
section
/-! DEFINITION. The octet codes of the operands (R185, R195) and of the fields of responses and uplink telegrams
(R185, R197), and the way multi-octet fields are laid out: high octet first. -/

namespace Sys2Proof.Machine

/-! ### Multi-octet fields, high octet first (R184, R195) -/

def octets1 (n : Nat) : List Byte := [BitVec.ofNat 8 n]

def octets2 (n : Nat) : List Byte := [BitVec.ofNat 8 (n / 256), BitVec.ofNat 8 n]

def octets4 (n : Nat) : List Byte :=
  [BitVec.ofNat 8 (n / 16777216), BitVec.ofNat 8 (n / 65536), BitVec.ofNat 8 (n / 256), BitVec.ofNat 8 n]

/-- A signed field of two octets, two's complement (R195, R197). -/
def octets2Signed (z : Int) : List Byte := octets2 (BitVec.ofInt 16 z).toNat

def halfOctets (h : Half) : List Byte := octets2 h.toNat

def wordOctets (w : Word) : List Byte := octets4 w.toNat

/-- The field of two octets `hi lo`. -/
def half (hi lo : Byte) : Half := hi ++ lo

/-- The field of four octets, high octet first. -/
def word (a b c d : Byte) : Word := a ++ b ++ c ++ d

/-- A flag as an octet: 00h no, 01h yes (section 11.1). -/
def flag (b : Bool) : Byte := if b then 1 else 0

/-! ### Operand codes (R185, R195) -/

def Mode.ofCode (c : Byte) : Option Mode :=
  if c = 1 then some .stabled else if c = 2 then some .preparation
  else if c = 3 then some .service else if c = 4 then some .shunt else none

def Selected.ofCode (c : Byte) : Option Selected :=
  if c = 0 then some .neutral else if c = 1 then some .up else if c = 2 then some .down else none

def AppliesTo.ofCode (c : Byte) : Option AppliesTo :=
  if c = 1 then some .up else if c = 2 then some .down else if c = 3 then some .both else none

def Origin.ofCode (c : Byte) : Option Origin :=
  if c = 1 then some .dispatch else if c = 2 then some .cab else none

def Side.ofCode (c : Byte) : Option Side :=
  if c = 1 then some .left else if c = 2 then some .right else none

def HoldRequest.ofCode (c : Byte) : Option HoldRequest :=
  if c = 1 then some .apply else if c = 2 then some .release else none

/-- The life an optional-life field carries: none with flag 00h, the value of the octets otherwise (R184). -/
def lifeOf (lifeFlag : Byte) (life : Half) : Option Nat := if lifeFlag = 0 then none else some life.toNat

end Sys2Proof.Machine

namespace Sys2Proof

/-! ### Segment record fields (R36, R37, R195) -/

/-- The kind of track of a segment (R36). -/
inductive TrackKind where
  | adhesion
  | rack
  | rackEntry
deriving DecidableEq, Repr

def TrackKind.ofCode (c : Byte) : Option TrackKind :=
  if c = 1 then some .adhesion else if c = 2 then some .rack else if c = 3 then some .rackEntry else none

def SegmentRecord.track (r : SegmentRecord) : Option TrackKind := TrackKind.ofCode r.kind

def SegmentRecord.slope (r : SegmentRecord) : Int := r.gradient.toInt

/-- The base limit for travel in a direction (R36). -/
def SegmentRecord.limit (r : SegmentRecord) : Way → Nat
  | .up => r.limitUp.toNat
  | .down => r.limitDown.toNat

/-- Whether the segment is a platform (R37). -/
def SegmentRecord.isPlatform (r : SegmentRecord) : Bool := r.stationPresent == 1

/-- Whether a platform lies on a side; BOTH includes both (R37, R146). -/
def SegmentRecord.hasSide (r : SegmentRecord) : Machine.Side → Bool
  | .left => r.sides == 1 || r.sides == 3
  | .right => r.sides == 2 || r.sides == 3

def Way.code : Way → Byte
  | .up => 1 | .down => 2

def Pair.sourceCode : Pair → Byte
  | .tooth => 1 | .wheel => 2

/-- The drive a door command names: 1 … 4 for D1 … D4 (R195). -/
def Drive.ofNumber (c : Byte) : Option Drive :=
  if c = 1 then some .d1 else if c = 2 then some .d2 else if c = 3 then some .d3
  else if c = 4 then some .d4 else none

def Way.ofCode (c : Byte) : Option Way :=
  if c = 1 then some .up else if c = 2 then some .down else none

/-- The value of a drive. -/
def PerDrive.get {α : Type} (p : PerDrive α) : Drive → α
  | .d1 => p.d1
  | .d2 => p.d2
  | .d3 => p.d3
  | .d4 => p.d4

/-- The values with that of one drive replaced. -/
def PerDrive.set {α : Type} (p : PerDrive α) (d : Drive) (a : α) : PerDrive α :=
  match d with
  | .d1 => { p with d1 := a }
  | .d2 => { p with d2 := a }
  | .d3 => { p with d3 := a }
  | .d4 => { p with d4 := a }

/-- The value each drive has under `f`. -/
def PerDrive.of {α : Type} (f : Drive → α) : PerDrive α := ⟨f .d1, f .d2, f .d3, f .d4⟩

/-- The drives D1 … D4 in order. -/
def Drive.all : List Drive := [.d1, .d2, .d3, .d4]

end Sys2Proof

namespace Sys2Proof.Machine

/-! ### Codes of the fields named in the table of section 11.1 -/

def Mode.code : Mode → Byte
  | .stabled => 1 | .preparation => 2 | .service => 3 | .shunt => 4

def AppliesTo.code : AppliesTo → Byte
  | .up => 1 | .down => 2 | .both => 3

def Side.code : Side → Byte
  | .left => 1 | .right => 2

def LeafIndex.code : LeafIndex → Byte
  | .valley => 1 | .mountain => 2

def ReleaseOrigin.code : ReleaseOrigin → Byte
  | .radio => 1 | .cab => 2

def PositionStatus.code : PositionStatus → Byte
  | .unknown => 0 | .valid => 1 | .degraded => 2

def Travel.code : Travel → Byte
  | .none => 0 | .up => 1 | .down => 2

def Intervention.code : Intervention → Byte
  | .normal => 0 | .warning => 1 | .service => 2 | .emergency => 3

def LeafState.code : LeafState → Byte
  | .locked => 1 | .unlocked => 2 | .opening => 3 | .opened => 4 | .closing => 5 | .reversing _ => 6
  | .locking => 7 | .held _ => 8 | .isolated _ => 9

def IsolationCause.code : IsolationCause → Byte
  | .overcurrent => 1 | .timeout => 2 | .host => 3

/-- The isolation cause octet of a leaf: 00h when it is not ISOLATED. -/
def LeafState.causeCode : LeafState → Byte
  | .isolated c => c.code
  | _ => 0

def RefusedReason.code : RefusedReason → Byte
  | .mode => 1 | .noPlatform => 2 | .side => 3 | .origin => 4 | .otherRelease => 5

/-! ### Codes by the value's place in the manual's list, from 01h (R197) -/

def Origin.code : Origin → Byte
  | .dispatch => 1 | .cab => 2

/-- The selected direction in a response: its place in R1's list UP, DOWN, NEUTRAL (assumption log 3). -/
def Selected.responseCode : Selected → Byte
  | .up => 1 | .down => 2 | .neutral => 3

def ProfileStatus.code : ProfileStatus → Byte
  | .empty => 1 | .loading => 2 | .valid => 3 | .invalid => 4

def ProfileFault.code : ProfileFault → Byte
  | .fieldRange => 1 | .firstStart => 2 | .startOrder => 3 | .startBeyond => 4 | .rackSequence => 5
  | .entrySequence => 6 | .stationDuplicate => 7 | .incomplete => 8 | .header => 9

def DegradedReason.code : DegradedReason → Byte
  | .cap => 1 | .conflict => 2

def Engagement.code : Engagement → Byte
  | .engaged => 1 | .free => 2

def Watch.code : Watch → Byte
  | .idle => 1 | .armed _ => 2 | .missed _ => 3

def Motion.code : Motion → Byte
  | .standstill => 1 | .moving => 2

def Evaluation.code : Evaluation → Byte
  | .idle => 1 | .full => 2 | .noPosition => 3 | .shunt => 4

def Blanket.code : Blanket → Byte
  | .linkSilence => 1 | .tableOverflow => 2 | .position => 3 | .brake => 4 | .noProfile => 5

def DecelerationKind.code : DecelerationKind → Byte
  | .rackService => 1 | .rackEmergency => 2 | .adhesionService => 3 | .adhesionEmergency => 4

def Health.code : Health → Byte
  | .untested => 1 | .ok => 2 | .degraded => 3 | .failed => 4

def Supervision.code : Supervision → Byte
  | .idle => 1 | .checking _ => 2 | .settled => 3

def HoldRequest.code : HoldRequest → Byte
  | .apply => 1 | .release => 2

def Overall.code : Overall → Byte
  | .none => 1 | .inProgress => 2 | .passed => 3 | .failed => 4 | .aborted => 5

def StepOutcome.code : StepOutcome → Byte
  | .pass _ => 1 | .fail _ => 2 | .notRun => 3

def AbortReason.code : AbortReason → Byte
  | .motion => 1 | .request => 2 | .lineReset => 3 | .latch => 4 | .door => 5

def TestStep.number : TestStep → Nat
  | .s1 => 1 | .s2 => 2 | .s3 => 3 | .s4 => 4 | .s5 => 5 | .s6 => 6

def Phase.code : Phase → Byte
  | .drive => 1 | .dwell => 2

def Dialogue.code : Dialogue → Byte
  | .unjoined => 1 | .reporting => 2 | .joined => 3

def Receiver.code : Receiver → Byte
  | .search _ => 1 | .length .. => 2 | .body .. => 3 | .check .. => 4

def WindowOutcome.code : WindowOutcome → Byte
  | .used .. => 1 | .missed => 2 | .unused => 3

def SettingsStatus.code : SettingsStatus → Byte
  | .loading => 1 | .loaded => 2 | .absent => 3 | .corrupt => 4 | .saving => 5 | .saved => 6 | .writeFailed => 7

/-- A value that its rule lists as CLEAR or SET, by its place in that list (R51, R197, R201). -/
def markCode (isSet : Bool) : Byte := if isSet then 2 else 1

/-- A value that its rule lists as SET or CLEAR, by its place in that list (R142, R169, R180, R197). -/
def setCode (isSet : Bool) : Byte := if isSet then 1 else 2

/-- YES or NO, by its place in that list (R141, R197). -/
def yesNoCode (yes : Bool) : Byte := if yes then 1 else 2

/-- The kind code of a queued telegram (R168). -/
def UplinkKind.kindCode : UplinkKind → Byte
  | .restrictReply => 0x82 | .restrictList => 0x83 | .doorState => 0x84 | .alarm => 0x85

/-- The kind code of a sent telegram (R168). -/
def SentKind.kindCode : SentKind → Byte
  | .position => 0x81
  | .queued k => k.kindCode

def ResponseCode.code : ResponseCode → Byte
  | .done => 0x00 | .doneClamped => 0x01 | .accepted => 0x02 | .inProgress => 0x03
  | .refusedFormat => 0x80 | .refusedMode => 0x81 | .refusedMotion => 0x82 | .refusedBusy => 0x83
  | .refusedFull => 0x84 | .refusedNotFound => 0x85 | .refusedNotOwner => 0x86 | .refusedRange => 0x87
  | .refusedCondition => 0x88

/-! ### Detail codes of REFUSED_CONDITION (R197) -/

def leavesNotLocked : Byte := 0x01
def profileNotValid : Byte := 0x02
def positionUnknown : Byte := 0x03
def noDirection : Byte := 0x04
def brakesNotReady : Byte := 0x05
def emergencyNotOk : Byte := 0x06
def latchSet : Byte := 0x07
def notLoading : Byte := 0x08
def loopNotClosed : Byte := 0x09
def overspeedPresent : Byte := 0x0A
def rackMissedPresent : Byte := 0x0B
def driverDemand : Byte := 0x0C
def notAtCabPlatform : Byte := 0x0D
def sideNotAtPlatform : Byte := 0x0E
def otherSideReleased : Byte := 0x0F
def leafLockedDetail : Byte := 0x10
def releaseNotInForce : Byte := 0x11
def leafNotHeld : Byte := 0x12
def leafNotIsolated : Byte := 0x13

end Sys2Proof.Machine
end

