-- ==== Sys2Proof/Decode.lean ====
section
/-! DEFINITION. The commands as words and as octets. No row of spec/opcode_table.json gives bits, so no word spells a
command (`decodeTableWord`). The host's transactions do have octets (R194, R195): they are read here, and written by
`transactionOf` from the same table. -/

namespace Sys2Proof

open Machine (half word octets2 halfOctets wordOctets)

/-- The command that a word of the table's bits spells: none, since no row of the table gives bits. -/
def decodeTableWord (_nbits _w : Nat) : Option Instr := none

/-! ### Host transactions (R194, R195) -/

/-- The body length of a request code, absent for a code that is not in the table of section 12.2. -/
def requestLength (code : Byte) : Option Nat :=
  match code.toNat with
  | 0x01 => some 0 | 0x02 => some 0 | 0x03 => some 2 | 0x04 => some 0 | 0x05 => some 0 | 0x06 => some 1
  | 0x07 => some 3 | 0x08 => some 5 | 0x09 => some 0 | 0x0A => some 0 | 0x0B => some 0 | 0x0C => some 0
  | 0x0D => some 1 | 0x10 => some 1 | 0x11 => some 1 | 0x12 => some 8 | 0x13 => some 17 | 0x14 => some 17
  | 0x15 => some 3 | 0x16 => some 0 | 0x17 => some 0 | 0x18 => some 0 | 0x19 => some 2 | 0x1A => some 1
  | 0x1B => some 2 | 0x1C => some 0 | 0x1D => some 0 | 0x20 => some 6 | 0x21 => some 17 | 0x22 => some 0
  | 0x23 => some 5 | 0x24 => some 0 | 0x25 => some 0 | 0x26 => some 0
  | _ => none

/-- The command a DOOR_COMMAND body names (R195, R148). -/
def doorCommand (command argument : Byte) : Instr :=
  match command.toNat with
  | 1 => .doorCommandRelease argument
  | 2 => .doorCommandWithdraw argument
  | 3 => .openSide argument
  | 4 => .closeSide argument
  | 5 => .forceClose argument
  | 6 => .isolate argument
  | 7 => .restore argument
  | _ => .unknownDoorCommand command argument

/-- The restriction fields of ADD_RESTRICTION and AMEND_RESTRICTION (R195). -/
def restrictionRequest : List Byte → Option RestrictionRequest
  | [o, i1, i0, t, a3, a2, a1, a0, b3, b2, b1, b0, v1, v0, f, l1, l0] =>
    some
      { origin := o, id := half i1 i0, appliesTo := t, zoneStart := word a3 a2 a1 a0, zoneEnd := word b3 b2 b1 b0,
        limit := half v1 v0, lifeFlag := f, life := half l1 l0 }
  | _ => none

/-- The index and the segment record of PROFILE_SEGMENT (R195). -/
def segmentRequest : List Byte → Option Instr
  | [x1, x0, s3, s2, s1, s0, k, g1, g0, u1, u0, d1, d0, p, i, sd, o] =>
    some
      (.profileSegment (half x1 x0)
        { start := word s3 s2 s1 s0, kind := k, gradient := half g1 g0, limitUp := half u1 u0,
          limitDown := half d1 d0, stationPresent := p, stationId := i, sides := sd, releaseOrigin := o })
  | _ => none

/-- The request that a code and a body spell, absent when the body has not the length of the code (R195). -/
def requestOf (code : Byte) (body : List Byte) : Option Instr :=
  match code.toNat, body with
  | 0x01, [] => some .readResponse
  | 0x02, [] => some .readAttention
  | 0x03, [m1, m0] => some (.setAttentionMask (half m1 m0))
  | 0x04, [] => some .readStatus
  | 0x05, [] => some .readPosition
  | 0x06, [n] => some (.readRestriction n)
  | 0x07, [o, i1, i0] => some (.findRestriction o (half i1 i0))
  | 0x08, [p3, p2, p1, p0, d] => some (.lookupLimit (word p3 p2 p1 p0) d)
  | 0x09, [] => some .readDoors
  | 0x0A, [] => some .readNotice
  | 0x0B, [] => some .readTestResult
  | 0x0C, [] => some .readRadio
  | 0x0D, [n] => some (.readParameter n)
  | 0x10, [m] => some (.setMode m)
  | 0x11, [d] => some (.setDirection d)
  | 0x12, [p3, p2, p1, p0, u3, u2, u1, u0] => some (.setPosition (word p3 p2 p1 p0) (word u3 u2 u1 u0))
  | 0x13, body => (restrictionRequest body).map .addRestriction
  | 0x14, body => (restrictionRequest body).map .amendRestriction
  | 0x15, [o, i1, i0] => some (.revokeRestriction o (half i1 i0))
  | 0x16, [] => some .ackIntervention
  | 0x17, [] => some .resetEmergency
  | 0x18, [] => some .triggerEmergency
  | 0x19, [l1, l0] => some (.driverBrake (half l1 l0))
  | 0x1A, [v] => some (.holdRequest v)
  | 0x1B, [c, a] => some (doorCommand c a)
  | 0x1C, [] => some .startBrakeTest
  | 0x1D, [] => some .abortBrakeTest
  | 0x20, [c1, c0, l3, l2, l1, l0] => some (.profileBegin (half c1 c0) (word l3 l2 l1 l0))
  | 0x21, body => segmentRequest body
  | 0x22, [] => some .profileEnd
  | 0x23, [n, v3, v2, v1, v0] => some (.setParameter n (word v3 v2 v1 v0))
  | 0x24, [] => some .saveSettings
  | 0x25, [] => some .clearRadioErrors
  | 0x26, [] => some .lineReset
  | _, _ => none

/-- What HLP judges of a transaction when NCS is released (R194). -/
inductive Transaction where
  | ignored
  | formatError (code : Option Byte)
  | request (command : Instr)
deriving DecidableEq, Repr

/-- The judgement of the octets clocked in (R194): a wrong or missing address is ignored; the code may be absent when
the transaction ended before it. Octets after the announced body are ignored. -/
def judgeTransaction : List Byte → Transaction
  | [] => .ignored
  | a :: rest =>
    if a ≠ Config.partAddress then .ignored
    else
      match rest with
      | [] => .formatError none
      | [code] => .formatError (some code)
      | code :: len :: rest =>
        if requestLength code = some len.toNat ∧ len.toNat ≤ rest.length then
          match requestOf code (rest.take len.toNat) with
          | some c => .request c
          | none => .formatError (some code)
        else .formatError (some code)

/-! ### The octets of a request (R195) -/

/-- The fields of ADD_RESTRICTION and AMEND_RESTRICTION as octets. -/
def restrictionOctets (q : RestrictionRequest) : List Byte :=
  [q.origin] ++ halfOctets q.id ++ [q.appliesTo] ++ wordOctets q.zoneStart ++ wordOctets q.zoneEnd ++
  halfOctets q.limit ++ [q.lifeFlag] ++ halfOctets q.life

/-- The fields of PROFILE_SEGMENT as octets. -/
def segmentRequestOctets (index : Half) (r : SegmentRecord) : List Byte :=
  halfOctets index ++ wordOctets r.start ++ [r.kind] ++ halfOctets r.gradient ++ halfOctets r.limitUp ++
  halfOctets r.limitDown ++ [r.stationPresent, r.stationId, r.sides, r.releaseOrigin]

/-- The code and the body of a request; absent for a command that is no host request (R195). -/
def requestParts : Instr → Option (Byte × List Byte)
  | .readResponse => some (0x01, [])
  | .readAttention => some (0x02, [])
  | .setAttentionMask m => some (0x03, halfOctets m)
  | .readStatus => some (0x04, [])
  | .readPosition => some (0x05, [])
  | .readRestriction n => some (0x06, [n])
  | .findRestriction o i => some (0x07, [o] ++ halfOctets i)
  | .lookupLimit p d => some (0x08, wordOctets p ++ [d])
  | .readDoors => some (0x09, [])
  | .readNotice => some (0x0A, [])
  | .readTestResult => some (0x0B, [])
  | .readRadio => some (0x0C, [])
  | .readParameter n => some (0x0D, [n])
  | .setMode m => some (0x10, [m])
  | .setDirection d => some (0x11, [d])
  | .setPosition p u => some (0x12, wordOctets p ++ wordOctets u)
  | .addRestriction q => some (0x13, restrictionOctets q)
  | .amendRestriction q => some (0x14, restrictionOctets q)
  | .revokeRestriction o i => some (0x15, [o] ++ halfOctets i)
  | .ackIntervention => some (0x16, [])
  | .resetEmergency => some (0x17, [])
  | .triggerEmergency => some (0x18, [])
  | .driverBrake l => some (0x19, halfOctets l)
  | .holdRequest v => some (0x1A, [v])
  | .doorCommandRelease s => some (0x1B, [1, s])
  | .doorCommandWithdraw a => some (0x1B, [2, a])
  | .openSide s => some (0x1B, [3, s])
  | .closeSide s => some (0x1B, [4, s])
  | .forceClose d => some (0x1B, [5, d])
  | .isolate d => some (0x1B, [6, d])
  | .restore d => some (0x1B, [7, d])
  | .unknownDoorCommand c a => some (0x1B, [c, a])
  | .startBrakeTest => some (0x1C, [])
  | .abortBrakeTest => some (0x1D, [])
  | .profileBegin c l => some (0x20, halfOctets c ++ wordOctets l)
  | .profileSegment i r => some (0x21, segmentRequestOctets i r)
  | .profileEnd => some (0x22, [])
  | .setParameter n v => some (0x23, [n] ++ wordOctets v)
  | .saveSettings => some (0x24, [])
  | .clearRadioErrors => some (0x25, [])
  | .lineReset => some (0x26, [])
  | _ => none

/-- The octets of the transaction that sends a request (R194, R195). -/
def transactionOf (c : Instr) : Option (List Byte) :=
  (requestParts c).map fun r => [Config.partAddress, r.1, BitVec.ofNat 8 r.2.length] ++ r.2

end Sys2Proof
end

