-- ==== Sys2Proof/Machine/Flags.lean ====
section
/-! DEFINITION. The cause sets of the part: membership, adding and removing, the order in which the manual lists
the causes, and the two octets a set takes in a response (R197). A set holds no cause twice by its type. -/

namespace Sys2Proof.Machine

/-- The number with the given bits, the first one lowest. -/
def bitsValue : List Bool → Nat
  | [] => 0
  | b :: rest => (if b then 1 else 0) + 2 * bitsValue rest

/-! ### The active blanket set (R96) -/

def BlanketSet.has (set : BlanketSet) : Blanket → Bool
  | .linkSilence => set.linkSilence
  | .tableOverflow => set.tableOverflow
  | .position => set.position
  | .brake => set.brake
  | .noProfile => set.noProfile

/-- The set with the cause in it when `present`, out of it otherwise. -/
def BlanketSet.put (set : BlanketSet) (present : Bool) : Blanket → BlanketSet
  | .linkSilence => { set with linkSilence := present }
  | .tableOverflow => { set with tableOverflow := present }
  | .position => { set with position := present }
  | .brake => { set with brake := present }
  | .noProfile => { set with noProfile := present }

/-- The blanket causes in the order of R94 and R96. -/
def Blanket.all : List Blanket := [.linkSilence, .tableOverflow, .position, .brake, .noProfile]

def BlanketSet.bits (set : BlanketSet) : Half := BitVec.ofNat 16 (bitsValue (Blanket.all.map set.has))

/-! ### The emergency latch (R123) -/

def LatchSet.has (set : LatchSet) : LatchCause → Bool
  | .powerOn => set.powerOn
  | .overspeed => set.overspeed
  | .rollback => set.rollback
  | .rackMissed => set.rackMissed
  | .stabledMotion => set.stabledMotion
  | .doorMotion => set.doorMotion
  | .loopOpen => set.loopOpen
  | .hostRequest => set.hostRequest
  | .testMotion => set.testMotion

def LatchSet.add (set : LatchSet) : LatchCause → LatchSet
  | .powerOn => { set with powerOn := true }
  | .overspeed => { set with overspeed := true }
  | .rollback => { set with rollback := true }
  | .rackMissed => { set with rackMissed := true }
  | .stabledMotion => { set with stabledMotion := true }
  | .doorMotion => { set with doorMotion := true }
  | .loopOpen => { set with loopOpen := true }
  | .hostRequest => { set with hostRequest := true }
  | .testMotion => { set with testMotion := true }

/-- The latch causes in the order of R123. -/
def LatchCause.all : List LatchCause :=
  [.powerOn, .overspeed, .rollback, .rackMissed, .stabledMotion, .doorMotion, .loopOpen, .hostRequest, .testMotion]

def LatchSet.empty : LatchSet := ⟨false, false, false, false, false, false, false, false, false⟩

/-- Whether the latch is set: the set holds any cause (R123). -/
def LatchSet.any (set : LatchSet) : Bool := LatchCause.all.any set.has

def LatchSet.bits (set : LatchSet) : Half := BitVec.ofNat 16 (bitsValue (LatchCause.all.map set.has))

/-! ### Attention (R198) -/

def AttentionSet.has (set : AttentionSet) : Attention → Bool
  | .supervision => set.supervision
  | .emergency => set.emergency
  | .brakeHealth => set.brakeHealth
  | .testDone => set.testDone
  | .door => set.door
  | .dialogue => set.dialogue
  | .radio => set.radio
  | .notice => set.notice
  | .restriction => set.restriction
  | .settings => set.settings

def AttentionSet.add (set : AttentionSet) : Attention → AttentionSet
  | .supervision => { set with supervision := true }
  | .emergency => { set with emergency := true }
  | .brakeHealth => { set with brakeHealth := true }
  | .testDone => { set with testDone := true }
  | .door => { set with door := true }
  | .dialogue => { set with dialogue := true }
  | .radio => { set with radio := true }
  | .notice => { set with notice := true }
  | .restriction => { set with restriction := true }
  | .settings => { set with settings := true }

/-- The attention causes in the order of R198, bit 0 first. -/
def Attention.all : List Attention :=
  [.supervision, .emergency, .brakeHealth, .testDone, .door, .dialogue, .radio, .notice, .restriction, .settings]

def AttentionSet.bits (set : AttentionSet) : Half := BitVec.ofNat 16 (bitsValue (Attention.all.map set.has))

/-- The set whose causes are the bits 0 … 9 of a mask; bits 10 … 15 are ignored (R198). -/
def AttentionSet.ofBits (m : Half) : AttentionSet :=
  ⟨m.getLsbD 0, m.getLsbD 1, m.getLsbD 2, m.getLsbD 3, m.getLsbD 4, m.getLsbD 5, m.getLsbD 6, m.getLsbD 7,
   m.getLsbD 8, m.getLsbD 9⟩

/-- Whether the part drives ATTN low: the pending set holds a cause that the mask enables (R198). -/
def attnLow (hlp : HostLink) : Bool := Attention.all.any fun c => hlp.attention.has c && hlp.mask.has c

/-! ### Alarm causes (R177, R185) -/

/-- The causes an ALARM telegram can carry: a latch cause, or one of the three others (R177). -/
inductive AlarmCause where
  | latch (cause : LatchCause)
  | brakeFault
  | positionConflict
  | doorFault
deriving DecidableEq, Repr

/-- The bit of a latch cause in the ALARM body (R185). -/
def LatchCause.alarmBit : LatchCause → Half
  | .powerOn => 0x0001
  | .overspeed => 0x0002
  | .rollback => 0x0004
  | .rackMissed => 0x0008
  | .stabledMotion => 0x0010
  | .doorMotion => 0x0020
  | .loopOpen => 0x0040
  | .hostRequest => 0x0080
  | .testMotion => 0x0100

/-- The bit of an alarm cause in the ALARM body (R185). -/
def AlarmCause.bit : AlarmCause → Half
  | .latch c => c.alarmBit
  | .brakeFault => 0x0200
  | .positionConflict => 0x0400
  | .doorFault => 0x0800

/-! ### Radio errors (R170) -/

def RadioErrors.bits (e : RadioErrors) : Half := BitVec.ofNat 16 (bitsValue [e.framing, e.check, e.overrun])

/-- A 16-bit count raised by 1 that stops at 65,535. -/
def countUp (n : Nat) : Nat := min (n + 1) 65535

/-- An 8-bit count raised by 1 that stops at 255. -/
def countUp8 (n : Nat) : Nat := min (n + 1) 255

/-- The errors after a cause latches: it enters the set and its count rises (R170). -/
def RadioErrors.latch (e : RadioErrors) : RadioError → RadioErrors
  | .framing => { e with framing := true, framingCount := countUp e.framingCount }
  | .check => { e with check := true, checkCount := countUp e.checkCount }
  | .overrun => { e with overrun := true, overrunCount := countUp e.overrunCount }

def noErrors : RadioErrors := ⟨false, false, false, 0, 0, 0⟩

end Sys2Proof.Machine
end

