-- ==== Sys2Proof/Machine/Params.lean ====
section
/-! DEFINITION. The 52 parameters: numbers, classes, ranges, defaults and strap sets (R10, R16, R78, R96, R100,
R112, R131, R141, R165, R171, R180, R199), and the clamp of R11. -/

namespace Sys2Proof.Machine

/-- The value of parameter `n`, 1 … 52. -/
def paramValue (p : Table Nat 52) (n : Nat) : Nat := (p.get? (n - 1)).getD 0

/-- The parameters with parameter `n` set to `v`. -/
def setParam (p : Table Nat 52) (n v : Nat) : Table Nat 52 := p.set (n - 1) v

/-- The pending value of parameter `n`, absent when none is held (R11). -/
def pendingValue (q : Table (Option Nat) 31) (n : Nat) : Option Nat := (q.get? (n - 1)).join

/-- The classes of R10. -/
inductive ParamClass where
  | deferred
  | setup
  | free
deriving DecidableEq, Repr

/-- The class of parameter `n` (R10). -/
def paramClass (n : Nat) : ParamClass := if n ≤ 31 then .deferred else if n ≤ 50 then .setup else .free

/-- The range of parameter `n`, 1 … 52 but for the two margins and the radio bit rate, whose ranges are
not fixed intervals (R11, R165). -/
def paramRange : Nat → Nat × Nat
  | 1 => (1000, 12500)
  | 2 => (500, 4000)
  | 3 => (500, 4000)
  | 4 => (500, 4000)
  | 5 => (500, 4000)
  | 6 => (40, 100)
  | 7 => (500, 3000)
  | 8 => (100, 1000)
  | 9 => (500000, 3000000)
  | 12 => (0, 1000)
  | 13 => (200, 1000)
  | 14 => (200, 12500)
  | 15 => (200, 12500)
  | 16 => (200, 12500)
  | 17 => (200, 12500)
  | 18 => (200, 12500)
  | 19 => (20, 150)
  | 20 => (300, 2000)
  | 21 => (50, 350)
  | 22 => (400, 950)
  | 23 => (100, 1000)
  | 24 => (0, 1)
  | 25 => (1000, 5000)
  | 26 => (1000, 10000)
  | 27 => (200, 5000)
  | 28 => (200, 3000)
  | 29 => (500, 10000)
  | 30 => (0, 120)
  | 31 => (0, 60)
  | 32 => (50, 200)
  | 33 => (1500, 3500)
  | 34 => (8, 256)
  | 35 => (1, 50)
  | 36 => (5000, 50000)
  | 37 => (2000, 20000)
  | 38 => (300, 5000)
  | 39 => (100, 1000)
  | 40 => (100, 2000)
  | 41 => (8000, 30000)
  | 42 => (1, 250)
  | 43 => (0, 7)
  | 44 => (0, 7)
  | 45 => (0, 7)
  | 46 => (0, 7)
  | 47 => (0, 1)
  | 48 => (0, 1)
  | 49 => (0, 1)
  | 51 => (5, 120)
  | 52 => (1, 4)
  | _ => (0, 0)

/-- A value held within an interval. -/
def clampTo (range : Nat × Nat) (v : Nat) : Nat := max range.1 (min v range.2)

/-- The radio bit rate a written value is clamped to: the nearest lower allowed rate, and 1,200 below that (R165). -/
def clampRate (v : Nat) : Nat :=
  if v < 2400 then 1200 else if v < 4800 then 2400 else if v < 9600 then 4800
  else if v < 19200 then 9600 else 19200

/-- The range of the service margin beside an emergency margin (R11). -/
def serviceMarginRange (emergencyMargin : Nat) : Nat × Nat := (100, min 1500 (emergencyMargin - 1))

/-- The range of the emergency margin beside a service margin (R11). -/
def emergencyMarginRange (serviceMargin : Nat) : Nat × Nat := (serviceMargin + 1, 2000)

/-- A value clamped to the range of parameter `n`; `partner` is the value of the other margin (R11). -/
def clampParam (n partner v : Nat) : Nat :=
  if n = 10 then clampTo (serviceMarginRange partner) v
  else if n = 11 then clampTo (emergencyMarginRange partner) v
  else if n = 50 then clampRate v
  else clampTo (paramRange n) v

/-! ### Names of the parameters the blocks read -/

def lineMaximum (p : Table Nat 52) : Nat := paramValue p 1
def rackService (p : Table Nat 52) : Nat := paramValue p 2
def rackEmergency (p : Table Nat 52) : Nat := paramValue p 3
def adhesionService (p : Table Nat 52) : Nat := paramValue p 4
def adhesionEmergency (p : Table Nat 52) : Nat := paramValue p 5
def degradedFactor (p : Table Nat 52) : Nat := paramValue p 6
def reactionTime (p : Table Nat 52) : Nat := paramValue p 7
def decelerationFloor (p : Table Nat 52) : Nat := paramValue p 8
def lookahead (p : Table Nat 52) : Nat := paramValue p 9
def serviceMargin (p : Table Nat 52) : Nat := paramValue p 10
def emergencyMargin (p : Table Nat 52) : Nat := paramValue p 11
def releaseHysteresis (p : Table Nat 52) : Nat := paramValue p 12
def interventionDemand (p : Table Nat 52) : Nat := paramValue p 13
def toleranceBand (p : Table Nat 52) : Nat := paramValue p 19
def responseTime (p : Table Nat 52) : Nat := paramValue p 20
def holdingThreshold (p : Table Nat 52) : Nat := paramValue p 21
def releaseThreshold (p : Table Nat 52) : Nat := paramValue p 22
def doorHoldLevel (p : Table Nat 52) : Nat := paramValue p 23
def autoHold (p : Table Nat 52) : Bool := paramValue p 24 == 1
def stepTimeout (p : Table Nat 52) : Nat := paramValue p 25
def openTimeout (p : Table Nat 52) : Nat := paramValue p 26
def lockTimeout (p : Table Nat 52) : Nat := paramValue p 27
def reverseTime (p : Table Nat 52) : Nat := paramValue p 28
def reopenDwell (p : Table Nat 52) : Nat := paramValue p 29
def autoCloseDwell (p : Table Nat 52) : Nat := paramValue p 30
def holdRetryInterval (p : Table Nat 52) : Nat := paramValue p 31
def toothPitch (p : Table Nat 52) : Nat := paramValue p 32
def wheelCircumference (p : Table Nat 52) : Nat := paramValue p 33
def wheelPulses (p : Table Nat 52) : Nat := paramValue p 34
def growthRate (p : Table Nat 52) : Nat := paramValue p 35
def uncertaintyCap (p : Table Nat 52) : Nat := paramValue p 36
def entryWindow (p : Table Nat 52) : Nat := paramValue p 37
def standstillWindow (p : Table Nat 52) : Nat := paramValue p 38
def speedWindow (p : Table Nat 52) : Nat := paramValue p 39
def rollbackAllowance (p : Table Nat 52) : Nat := paramValue p 40
def carLength (p : Table Nat 52) : Nat := paramValue p 41
def carNumber (p : Table Nat 52) : Nat := paramValue p 42
def shortSequence (p : Table Nat 52) : Bool := paramValue p 47 == 1
def bitRate (p : Table Nat 52) : Nat := paramValue p 50
def silenceTimeout (p : Table Nat 52) : Nat := paramValue p 51
def noticeThreshold (p : Table Nat 52) : Nat := paramValue p 52

/-- The limit of a blanket cause, parameters 14 … 18 (R96). -/
def blanketLimit (p : Table Nat 52) : Blanket → Nat
  | .linkSilence => paramValue p 14
  | .tableOverflow => paramValue p 15
  | .position => paramValue p 16
  | .brake => paramValue p 17
  | .noProfile => paramValue p 18

/-- The mapping entry of a drive, parameters 43 … 46 (R141). -/
def mappingValue (p : Table Nat 52) : Drive → Nat
  | .d1 => paramValue p 43
  | .d2 => paramValue p 44
  | .d3 => paramValue p 45
  | .d4 => paramValue p 46

/-- Whether a side is ganged, parameters 48 and 49 (R141). -/
def ganged (p : Table Nat 52) : Side → Bool
  | .left => paramValue p 48 == 1
  | .right => paramValue p 49 == 1

/-! ### Strap sets (R199) -/

/-- The strap selection: CFG0 + 2 × CFG1 + 4 × CFG2, a high strap as 1 (R199). -/
def strapSelection (pins : PowerOnPins) : Nat :=
  (if pins.cfg0 then 1 else 0) + (if pins.cfg1 then 2 else 0) + (if pins.cfg2 then 4 else 0)

/-- A row of the table of R199: parameters 2, 3, 4, 5, 33, 34 and 50. -/
structure StrapSet where
  rackService       : Nat
  rackEmergency     : Nat
  adhesionService   : Nat
  adhesionEmergency : Nat
  circumference     : Nat
  pulses            : Nat
  rate              : Nat
deriving DecidableEq, Repr

def strapSet : Nat → StrapSet
  | 0 => ⟨2600, 3500, 1000, 1300, 2400, 64, 9600⟩
  | 1 => ⟨2400, 3300, 950, 1250, 2400, 64, 4800⟩
  | 2 => ⟨2800, 3700, 1100, 1400, 2600, 96, 9600⟩
  | 3 => ⟨2200, 3000, 900, 1200, 2200, 64, 2400⟩
  | 4 => ⟨3000, 3800, 1200, 1500, 2800, 128, 9600⟩
  | 5 => ⟨2000, 2800, 800, 1100, 2000, 48, 1200⟩
  | 6 => ⟨2600, 3500, 1000, 1300, 2450, 96, 19200⟩
  | _ => ⟨1800, 2600, 700, 1000, 1800, 32, 4800⟩

/-- The parameters that a strap selection makes active at power-on (R199). -/
def strapParams (selection : Nat) : Table Nat 52 :=
  let t := strapSet selection
  setParam (setParam (setParam (setParam (setParam (setParam (setParam resetParams
    2 t.rackService) 3 t.rackEmergency) 4 t.adhesionService) 5 t.adhesionEmergency)
    33 t.circumference) 34 t.pulses) 50 t.rate

/-! ### The pending set (R11, R12) -/

/-- The active values after every pending value has become active (R12). -/
def applyPending (p : Table Nat 52) (q : Table (Option Nat) 31) : Table Nat 52 :=
  ⟨List.zipWith (fun v w => w.getD v) p.list (q.list ++ List.replicate 21 none), by simp [p.len, q.len]⟩

def emptyPending : Table (Option Nat) 31 := Table.replicate 31 none

/-- How many values the pending set holds (R203). -/
def pendingCount (q : Table (Option Nat) 31) : Nat := (q.list.filter Option.isSome).length

end Sys2Proof.Machine
end

