-- ==== Sys2Proof/Machine/Ops.lean ====
section
/-! DEFINITION. The named operations that every block shares: raising an attention cause, the active blanket set,
access by drive, side and channel, the CRC, and the response slot (chapters 6, 9, 10 and 12). -/

namespace Sys2Proof.Machine

/-! ### Small access functions -/

def Brakes.channel (b : Brakes) : Channel → ChannelState
  | .service => b.service
  | .holding => b.holding
  | .emergency => b.emergency

def Brakes.setChannel (b : Brakes) (c : Channel) (x : ChannelState) : Brakes :=
  match c with
  | .service => { b with service := x }
  | .holding => { b with holding := x }
  | .emergency => { b with emergency := x }

/-! ### Conditions that several blocks read -/

/-- SLD has not finished the start-up load of stored settings (R14). -/
def State.loading (s : State) : Bool := s.sld.status == .loading

/-- A SAVE_SETTINGS write is in progress (R202). -/
def State.saving (s : State) : Bool := s.sld.status == .saving

/-- ODO reports STANDSTILL (R27). -/
def State.standing (s : State) : Bool := s.odo.motion == .standstill

/-- The mode is SERVICE or SHUNT, the modes of supervised movement (R4, R5). -/
def Mode.supervised : Mode → Bool
  | .stabled => false
  | .preparation => false
  | .service => true
  | .shunt => true

/-- A brake test is running (R131). -/
def State.testing (s : State) : Bool := s.brc.test.isSome

/-- The profile status is VALID (R38). -/
def State.profileValid (s : State) : Bool := s.lps.status == .valid

/-- TXEN is asserted: VRL takes no received bits (R167). -/
def State.transmitting (s : State) : Bool := s.vrl.transmission.isSome

/-- A LINE_RESET is in progress: the response slot is PENDING (R196). -/
def State.resetting (s : State) : Bool :=
  match s.hlp.slot with
  | .pending _ => true
  | _ => false

/-! ### Attention and blankets -/

/-- A block raises an attention cause (R198). -/
def raise (c : Attention) (s : State) : State := { s with hlp.attention := s.hlp.attention.add c }

/-- An owner adds a cause to SSV's active blanket set (`present`), or removes it (R96). -/
def putBlanket (present : Bool) (b : Blanket) (s : State) : State :=
  { s with ssv.blankets := s.ssv.blankets.put present b }

/-- The blanket set as a speed update sees it: while a LINE_RESET that changes the set is in progress, the radio
causes and POSITION are still those from before the reset (R97, assumption log 4). -/
def seenBlankets (s : State) : BlanketSet :=
  match s.ssv.resetView with
  | none => s.ssv.blankets
  | some old =>
    { s.ssv.blankets with
      linkSilence := old.linkSilence, tableOverflow := old.tableOverflow, position := old.position }

/-! ### The CRC of the radio link and of the stored image (R164, R200) -/

/-- The CRC register after one bit, most significant first. -/
def crcBit (r : Half) (bit : Bool) : Half := if r.msb == bit then r <<< 1 else (r <<< 1) ^^^ 0x1021

/-- The CRC register after one octet. -/
def crcOctet (r : Half) (o : Byte) : Half :=
  [7, 6, 5, 4, 3, 2, 1, 0].foldl (fun r i => crcBit r (o.getLsbD i)) r

/-- CRC-16, polynomial 1021h, register starting at FFFFh, no final inversion (R164). -/
def crc16 (octets : List Byte) : Half := octets.foldl crcOctet 0xFFFF

/-! ### Responses -/

/-- What an owner returns to HLP: the response code, the detail octet and the body (R197). -/
structure Reply where
  code   : ResponseCode
  detail : Byte := 0
  body   : List Byte := []
deriving DecidableEq, Repr

/-- A refusal with no detail (R197). -/
def refuse (code : ResponseCode) : Reply := { code := code }

/-- REFUSED_CONDITION with its detail code (R197). -/
def refuseDetail (detail : Byte) : Reply := { code := .refusedCondition, detail := detail }

/-- DONE, or DONE_CLAMPED when a value was clamped. -/
def doneOrClamped (clamped : Bool) (body : List Byte) : Reply :=
  { code := if clamped then .doneClamped else .done, body := body }

/-- The slot is UNREAD: the next response placed carries a SET LOST flag (R196). -/
def Slot.isUnread : Slot → Bool
  | .unread _ => true
  | _ => false

/-- HLP places a response in the slot as UNREAD (R196). -/
def place (request : Byte) (lost : Bool) (r : Reply) (s : State) : State :=
  { s with hlp.slot := .unread { request := request, code := r.code, detail := r.detail, lost := lost, body := r.body } }

/-- In a transaction that is no READ_RESPONSE the part sends 00h for each octet clocked (R194). -/
def quietSdo (s : State) : State := { s with hlp.sdo := [] }

/-- A request of the host: HLP hands it to its owner and places the owner's reply, with the LOST flag judged at
the event at which HLP took the request; while a LINE_RESET is in progress the request is ignored (R194, R196). -/
def request (code : Byte) (owner : State → Reply × State) (s : State) : State :=
  quietSdo (if s.resetting then s else place code s.hlp.slot.isUnread (owner s).1 (owner s).2)

/-- A refused request changes nothing of the owner's state. -/
def refused (r : Reply) (s : State) : Reply × State := (r, s)

end Sys2Proof.Machine
end

