-- ==== Sys2Proof/Machine/Uplink.lean ====
section
/-! DEFINITION. The uplink queue of VRL: its entries, the bodies of the queued telegrams, and the placing and
refreshing of each kind (R176, R177, R185). -/

namespace Sys2Proof.Machine

/-! ### Bodies (R185) -/

/-- The seven octets of a drive in DOOR_STATE (R185). -/
def leafOctets : Option Leaf → List Byte
  | none => [0, 0, 0, 0, 0, 0, 0]
  | some l =>
    [1, l.side.code, l.index.code, l.state.code, BitVec.ofNat 8 l.profile, l.state.causeCode, flag l.lockLost]

/-- The release record in DOOR_STATE (R185). -/
def releaseOctets (inForce : Bool) : Option Release → List Byte
  | none => [0, 0, 0, 0, 0]
  | some r => [1, r.side.code, r.origin.code, r.station.getD 0, flag inForce]

/-- The last refused release in DOOR_STATE (R185). -/
def refusedOctets : Option RefusedRelease → List Byte
  | none => [0, 0, 0, 0]
  | some r => [1, r.station, r.side, r.reason.code]

/-- The body of DOOR_STATE: DRC's state (R162, R185). -/
def doorStateBody (drc : Doors) : List Byte :=
  leafOctets drc.leaves.d1 ++ leafOctets drc.leaves.d2 ++ leafOctets drc.leaves.d3 ++ leafOctets drc.leaves.d4 ++
  releaseOctets drc.inForce.isSome drc.release ++ refusedOctets drc.lastRefused

/-! ### The queue (R176, R177) -/

/-- A telegram joins at the tail with the next uplink sequence and attempt count 0 (R176, R177). -/
def enqueueTail (kind : UplinkKind) (body : List Byte) (s : State) : State :=
  { s with
    vrl.uplinkCounter := s.vrl.uplinkCounter + 1,
    vrl.queue := s.vrl.queue ++ [⟨kind, s.vrl.uplinkCounter + 1, 0, body⟩] }

/-- Whether a telegram of a kind is queued. -/
def queuedKind (kind : UplinkKind) (q : List UplinkEntry) : Bool := q.any fun e => e.kind == kind

/-- How many telegrams of a kind are queued (R176). -/
def countKind (kind : UplinkKind) (q : List UplinkEntry) : Nat := (q.filter fun e => e.kind == kind).length

/-- A refresh of the queued entry of a kind: new body, new sequence, attempt count 0, same place (R177). -/
def refreshEntry (kind : UplinkKind) (sequence : Byte) (body : List Byte → List Byte) (e : UplinkEntry) : UplinkEntry :=
  if e.kind = kind then { e with sequence := sequence, attempts := 0, body := body e.body } else e

/-- The queue refreshed at the entries of a kind, and the counter's next value taken (R176, R177). -/
def refreshKind (kind : UplinkKind) (body : List Byte → List Byte) (s : State) : State :=
  { s with
    vrl.uplinkCounter := s.vrl.uplinkCounter + 1,
    vrl.queue := s.vrl.queue.map (refreshEntry kind (s.vrl.uplinkCounter + 1) body) }

/-- DRC hands VRL its state: the queued DOOR_STATE is refreshed, or a new one joins at the tail (R177). -/
def handDoorState (s : State) : State :=
  if queuedKind .doorState s.vrl.queue then refreshKind .doorState (fun _ => doorStateBody s.drc) s
  else enqueueTail .doorState (doorStateBody s.drc) s

/-- The body of an ALARM with one cause (R185). -/
def alarmBody (c : AlarmCause) : List Byte := halfOctets c.bit

/-- The union of a queued ALARM's cause set and one cause (R177). -/
def alarmUnion (c : AlarmCause) (body : List Byte) : List Byte := List.zipWith (· ||| ·) body (alarmBody c)

/-- Where a new ALARM goes: to the head when the queue is empty or the head's attempt count is 0, directly
behind the head otherwise (R177). -/
def placeAlarm (e : UplinkEntry) : List UplinkEntry → List UplinkEntry
  | [] => [e]
  | h :: rest => if h.attempts = 0 then e :: h :: rest else h :: e :: rest

/-- A block hands VRL an alarm cause: the queued ALARM is refreshed with the union, or a new one is placed (R177). -/
def handAlarm (c : AlarmCause) (s : State) : State :=
  if queuedKind .alarm s.vrl.queue then refreshKind .alarm (alarmUnion c) s
  else
    { s with
      vrl.uplinkCounter := s.vrl.uplinkCounter + 1,
      vrl.queue := placeAlarm ⟨.alarm, s.vrl.uplinkCounter + 1, 0, alarmBody c⟩ s.vrl.queue }

/-- Every RESTRICT_LIST page leaves the queue, the head included (R177, R186). -/
def dropPages (s : State) : State :=
  { s with vrl.queue := s.vrl.queue.filter fun e => e.kind != .restrictList }

end Sys2Proof.Machine
end

