-- ==== Sys2Proof/Machine/Brakes.lean ====
section
/-! DEFINITION. The Brake Controller: the demand set and the service setpoint, the holding brake, the traction
permit, channel supervision, the emergency latch and the abort of a brake test (chapters 7 and 8). -/

namespace Sys2Proof.Machine

/-! ### The brake test's outputs (R135) -/

/-- The level of the TEST demand in a step (R135). -/
def TestStep.testDemand : TestStep → Nat
  | .s2 => 0
  | _ => 1000

/-- Whether a step energizes HRLS (R135). -/
def TestStep.releaseValve : TestStep → Bool
  | .s3 => true
  | _ => false

/-- Whether a step energizes DUMP (R135). -/
def TestStep.dumpValve : TestStep → Bool
  | .s5 => true
  | _ => false

/-- The channel whose feedback a step watches (R135). -/
def TestStep.channel : TestStep → Channel
  | .s1 => .service
  | .s2 => .service
  | .s3 => .holding
  | .s4 => .holding
  | .s5 => .emergency
  | .s6 => .emergency

/-! ### Channel supervision (R114, R115) -/

/-- Whether a channel's feedback agrees with its output (R115). -/
def agrees (s : State) : Channel → Bool
  | .service =>
    s.brc.setpoint ≤ s.brc.servicePressure + toleranceBand s.cmc.params &&
    s.brc.servicePressure ≤ s.brc.setpoint + toleranceBand s.cmc.params
  | .holding =>
    if s.brc.releaseValve then releaseThreshold s.cmc.params < s.brc.holdingPressure
    else s.brc.holdingPressure < holdingThreshold s.cmc.params
  | .emergency => if s.brc.dumpValve then !s.brc.bandClosed else s.brc.bandClosed

/-- The supervision state of a channel replaced. -/
def setSupervision (c : Channel) (x : Supervision) (s : State) : State :=
  { s with brc := s.brc.setChannel c { s.brc.channel c with supervision := x } }

/-- The channel's output has changed: CHECKING with a started timer, and SETTLED at once when the feedback
already agrees; while a brake test runs the channel stays IDLE (R114). -/
def outputChanged (c : Channel) (s : State) : State :=
  if s.testing then s
  else setSupervision c (if agrees s c then .settled else .checking (responseTime s.cmc.params)) s

/-! ### Demands, permit and outputs (R117, R119, R122) -/

/-- The largest level present in the demand set, and 0 when none is present (R117). -/
def largestDemand (d : Demands) : Nat :=
  max (d.driver.getD 0) (max (d.intervention.getD 0) (max (d.doorHold.getD 0) (max (d.test.getD 0) (d.emergency.getD 0))))

/-- Whether any holding demand is present (R119). -/
def HoldingDemands.any (h : HoldingDemands) : Bool := h.mode || h.door || h.latch || h.host || h.auto

/-- The condition of the traction permit (R122). -/
def permitCondition (s : State) : Bool :=
  s.cmc.mode.supervised && s.cmc.selected != .neutral && !s.brc.latch.any && !s.drc.doorHold &&
  !s.testing && s.brc.hostHold == .release

/-- The demands that follow from their sources; INTERVENTION stays as SSV placed it (R105, R117, R118, R135). -/
def formedDemands (s : State) : Demands :=
  { driver := if 0 < s.brc.driverLevel then some s.brc.driverLevel else none,
    intervention := s.brc.demands.intervention,
    doorHold := if s.drc.doorHold then some (doorHoldLevel s.cmc.params) else none,
    test := s.brc.test.map fun t => t.step.testDemand,
    emergency := if s.brc.latch.any then some 1000 else none }

/-- The holding demands that follow from their sources (R119). -/
def formedHolding (s : State) : HoldingDemands :=
  { mode := s.cmc.mode == .stabled,
    door := s.drc.doorHold,
    latch := s.brc.latch.any,
    host := s.brc.hostHold == .apply,
    auto := autoHold s.cmc.params && s.standing && !permitCondition s }

/-- Whether HRLS is to be ENERGIZED: by the running test's step, or when no holding demand is present (R119, R133). -/
def formedReleaseValve (s : State) : Bool :=
  match s.brc.test with
  | some t => t.step.releaseValve
  | none => !(formedHolding s).any

/-- Whether DUMP is to be ENERGIZED: by the running test's step, or while the latch is empty (R112, R133). -/
def formedDumpValve (s : State) : Bool :=
  match s.brc.test with
  | some t => t.step.dumpValve
  | none => !s.brc.latch.any

/-- SVSET takes the setpoint, and the SERVICE channel restarts its check when it changed (R117). -/
def driveSetpoint (v : Nat) (s : State) : State :=
  if s.brc.setpoint = v then s else outputChanged .service { s with brc.setpoint := v }

/-- HRLS takes its value, and the HOLDING channel restarts its check when it changed (R119). -/
def driveReleaseValve (v : Bool) (s : State) : State :=
  if s.brc.releaseValve = v then s else outputChanged .holding { s with brc.releaseValve := v }

/-- DUMP takes its value, and the EMERGENCY channel restarts its check when it changed (R112). -/
def driveDumpValve (v : Bool) (s : State) : State :=
  if s.brc.dumpValve = v then s else outputChanged .emergency { s with brc.dumpValve := v }

/-- BRC forms its demands, its holding demands and the permit again, without touching the outputs. -/
def formDemands (s : State) : State :=
  { s with brc.demands := formedDemands s, brc.hold := formedHolding s, brc.permit := permitCondition s }

/-- BRC evaluates its demands, the traction permit and AUTO again and sets its three outputs, at an event that
changes one of their inputs (R117, R119, R122). -/
def settle (s : State) : State :=
  driveDumpValve (formedDumpValve s)
    (driveReleaseValve (formedReleaseValve s)
      (driveSetpoint (largestDemand (formedDemands s)) (formDemands s)))

/-! ### Health (R113, R116, R136) -/

/-- A channel's health becomes `h`: a change raises BRAKE_HEALTH, and for the SERVICE channel adds or removes the
BRAKE blanket (R99, R113). -/
def changeHealth (c : Channel) (h : Health) (s : State) : State :=
  if (s.brc.channel c).health = h then s
  else
    let s1 := raise .brakeHealth { s with brc := s.brc.setChannel c { s.brc.channel c with health := h } }
    match c with
    | .service => putBlanket (h == .degraded || h == .failed) .brake s1
    | .holding => s1
    | .emergency => s1

/-- One step toward FAILED (R113). -/
def Health.worse : Health → Health
  | .untested => .failed
  | .ok => .degraded
  | .degraded => .failed
  | .failed => .failed

/-- The output and feedback values a failure records (R116). -/
def failureRecord (s : State) : Channel → FailureRecord
  | .service => .service s.brc.setpoint s.brc.servicePressure
  | .holding => .holding s.brc.releaseValve s.brc.holdingPressure
  | .emergency => .emergency s.brc.dumpValve s.brc.bandClosed

/-- The alarm of a health that has become DEGRADED or FAILED (R116, R136). -/
def faultAlarm (c : Channel) (before : Health) (s : State) : State :=
  let now := (s.brc.channel c).health
  if now ≠ before ∧ (now = .degraded ∨ now = .failed) then handAlarm .brakeFault s else s

/-- A check failure on a channel (R116): the channel goes IDLE, its health one step worse, its count up and its
last failure record set. -/
def checkFailure (c : Channel) (s : State) : State :=
  let before := (s.brc.channel c).health
  let s1 := faultAlarm c before (changeHealth c before.worse (setSupervision c .idle s))
  { s1 with
    brc := s1.brc.setChannel c
      { s1.brc.channel c with
        failures := countUp8 (s.brc.channel c).failures, lastFailure := some (failureRecord s c) } }

/-! ### The end of a brake test (R137, R138) -/

/-- The supervision of all three channels resumes, as if each output had just changed (R137). -/
def resumeSupervision (s : State) : State :=
  outputChanged .emergency (outputChanged .holding (outputChanged .service s))

/-- A running test is over: the TEST demand goes, HRLS and DUMP are given back, supervision resumes, the permit is
evaluated and TEST_DONE raised (R137, R138). -/
def testOver (result : TestResult) (s : State) : State :=
  raise .testDone (resumeSupervision (settle { s with brc.test := none, brc.result := result }))

/-- A running test is aborted (R138); with none running nothing happens. -/
def abortTest (reason : AbortReason) (s : State) : State :=
  match s.brc.test with
  | none => s
  | some t => testOver { s.brc.result with overall := .aborted, abort := some (reason, t.step) } s

/-! ### The emergency latch (R123, R124, R127) -/

/-- The host hold request after a cause is added: APPLY when the latch goes from empty to set (R121, R123). -/
def holdAfterLatch (s : State) : HoldRequest := if s.brc.latch.any then s.brc.hostHold else .apply

/-- A block adds a cause to the emergency latch (R123). A cause already held changes nothing. A new one raises
EMERGENCY, hands VRL the alarm, aborts a running test with reason LATCH (R138) and brings the latch effects of R124. -/
def addLatchCause (c : LatchCause) (s : State) : State :=
  if s.brc.latch.has c then s
  else
    settle (abortTest .latch
      (handAlarm (.latch c)
        (raise .emergency { s with brc.latch := s.brc.latch.add c, brc.hostHold := holdAfterLatch s })))

/-- A block adds a cause when a condition holds. -/
def addLatchIf (cond : Bool) (c : LatchCause) (s : State) : State := if cond then addLatchCause c s else s

/-- Motion during a brake test: the test is aborted first, and TEST_MOTION added afterwards (R138). -/
def testMotion (s : State) : State :=
  if s.testing then addLatchCause .testMotion (abortTest .motion s) else s

end Sys2Proof.Machine
end

