-- ==== Sys2Proof/Machine/Profile.lean ====
section
/-! DEFINITION. The Line Profile Store: extents, lookups and validation (chapter 3). -/

namespace Sys2Proof.Machine

/-- A segment with its index and its derived extent; the last one includes its end (R36). -/
structure Located where
  index  : Nat
  record : SegmentRecord
  start  : Nat
  finish : Nat
  last   : Bool
deriving DecidableEq, Repr

/-- The segments of a profile with their extents, from index `i` on (R36). -/
def locate (lineLength : Nat) : Nat → List SegmentRecord → List Located
  | _, [] => []
  | i, [r] => [⟨i, r, r.start.toNat, lineLength, true⟩]
  | i, r :: r' :: rest =>
    ⟨i, r, r.start.toNat, r'.start.toNat, false⟩ :: locate lineLength (i + 1) (r' :: rest)

/-- The line length in use, in millimetres (R39). -/
def lineLength (s : State) : Nat := if s.profileValid then s.lps.announcedLength else Config.longestLine

/-- The segments the other blocks may use: those of a VALID profile (R45, R46). -/
def segments (s : State) : List Located :=
  if s.profileValid then locate s.lps.announcedLength 0 s.lps.segments else []

/-- The containing-segment lookup (R46); absent means "no profile". -/
def containing (s : State) (position : Nat) : Option Located :=
  ((segments s).filter fun g => g.start ≤ min position (lineLength s)).getLast?

/-- The overlapping-segments lookup, both bounds included (R47). -/
def overlapping (s : State) (low high : Nat) : List Located :=
  if low ≤ high then
    (segments s).filter fun g =>
      g.start ≤ min high (lineLength s) && (g.last || min low (lineLength s) < g.finish)
  else []

/-- The platform-of-a-station lookup (R48). -/
def platformOf (s : State) (station : Byte) : Option Located :=
  (segments s).find? fun g => g.record.isPlatform && g.record.stationId == station

/-- Whether a span lies within a segment taken as a platform (R48). -/
def spanWithin (g : Located) (low high : Nat) : Bool := g.start ≤ low && high ≤ g.finish

/-- The RACK_ENTRY starts of the profile, ascending, in millimetres (R23, R25). -/
def entryStarts (s : State) : List Nat :=
  ((segments s).filter fun g => g.record.track == some .rackEntry).map Located.start

/-! ### Validation (R44) -/

/-- FIELD_RANGE: a field of the record lies outside its range (R36, R37, R44). -/
def fieldOutOfRange (r : SegmentRecord) : Bool :=
  r.track.isNone || r.slope < -300 || 300 < r.slope || 12500 < r.limitUp.toNat || 12500 < r.limitDown.toNat ||
  !(r.stationPresent == 0 || r.stationPresent == 1) ||
  (r.stationPresent == 1 &&
    (r.stationId == 0 || 250 < r.stationId.toNat ||
     !(r.sides == 1 || r.sides == 2 || r.sides == 3) || !(r.releaseOrigin == 1 || r.releaseOrigin == 2)))

/-- The first check of R44 that a segment fails, given the announced length, the segment before it and the
segments at lower indexes. -/
def segmentFault (announced : Nat) (before : List SegmentRecord) (r : SegmentRecord) : Option ProfileFault :=
  let previous := before.getLast?
  if fieldOutOfRange r then some .fieldRange
  else if previous.isNone && r.start != 0 then some .firstStart
  else if previous.any fun p => r.start ≤ p.start then some .startOrder
  else if announced ≤ r.start.toNat then some .startBeyond
  else if r.track == some .rack && previous.all (fun p => p.track == some .adhesion) then some .rackSequence
  else if r.track == some .rackEntry && previous.all (fun p => p.track != some .adhesion) then
    some .entrySequence
  else if r.isPlatform && before.any (fun p => p.isPlatform && p.stationId == r.stationId) then
    some .stationDuplicate
  else none

/-- The index and reason of the first failing segment, in ascending index order (R44). -/
def firstFault (announced : Nat) : List SegmentRecord → List SegmentRecord → Option (Nat × ProfileFault)
  | _, [] => none
  | before, r :: rest =>
    match segmentFault announced before r with
    | some f => some (before.length, f)
    | none => firstFault announced (before ++ [r]) rest

/-- The outcome of validating a load: absent when every check passes (R43, R44). -/
def validate (p : LineProfile) : Option (Nat × ProfileFault) :=
  match firstFault p.announcedLength [] p.segments with
  | some f => some f
  | none => if p.receivedCount < p.announcedCount then some (p.receivedCount, .incomplete) else none

/-- The load ends: VALID, or INVALID with the failing index and reason (R43). -/
def endLoad (p : LineProfile) : LineProfile :=
  match validate p with
  | none => { p with status := .valid, failure := none }
  | some f => { p with status := .invalid, failure := some f }

end Sys2Proof.Machine
end

