-- ==== Sys2Proof/Machine/Doors.lean ====
section
/-! DEFINITION. The Door Controller: the leaf set, the leaf state machine, gangs, release in force, door hold and
DOOR_MOTION (chapter 9). Each event that DRC takes runs inside `drcEvent`, which afterwards recomputes door hold,
adds DOOR_MOTION where R161 calls for it, and hands VRL one DOOR_STATE when the event calls for one (assumption log 5). -/

namespace Sys2Proof.Machine

/-! ### The car span as the other blocks read it (section 1.6.3, R19) -/

/-- The minimum position in micrometres (R18). -/
def minimumUm (e : Estimate) : Nat := e.nominal - e.uncertainty

/-- The maximum position in micrometres, clipped to the line (R18). -/
def maximumUm (s : State) (e : Estimate) : Nat := min (e.nominal + e.uncertainty) (lineLength s * 1000)

/-- The estimate as ODO hands it to other blocks: absent while the status is UNKNOWN (R19). -/
def handedEstimate (s : State) : Option Estimate :=
  match s.odo.status with
  | .unknown => none
  | .valid => s.odo.estimate
  | .degraded => s.odo.estimate

/-- The car span in millimetres, from the minimum position to the maximum position plus the car length (R55, R80). -/
def carSpan (s : State) : Option (Nat × Nat) :=
  (handedEstimate s).map fun e => (minimumUm e / 1000, maximumUm s e / 1000 + carLength s.cmc.params)

/-! ### The leaf set (R142) -/

/-- The mapping of a drive: its side and index when its entry says used (R141, R195). -/
def mappingEntry (v : Nat) : Option (Side × LeafIndex) :=
  if v % 2 = 1 then
    some (if v / 2 % 2 = 1 then .right else .left, if v / 4 % 2 = 1 then .mountain else .valley)
  else none

/-- The mapping entries of the four drives. -/
def mappingEntries (p : Table Nat 52) : PerDrive (Option (Side × LeafIndex)) :=
  PerDrive.of fun d => mappingEntry (mappingValue p d)

/-- An entry kept unless a lower-numbered used drive has the same side and index (R142). -/
def unlessTaken (e : Option (Side × LeafIndex)) (lower : List (Option (Side × LeafIndex))) :
    Option (Side × LeafIndex) :=
  if e.isSome && lower.contains e then none else e

/-- The leaves' side and index that the mapping gives, with the conflict rule of R142. -/
def leafPlaces (p : Table Nat 52) : PerDrive (Option (Side × LeafIndex)) :=
  let m := mappingEntries p
  ⟨m.d1, unlessTaken m.d2 [m.d1], unlessTaken m.d3 [m.d1, m.d2], unlessTaken m.d4 [m.d1, m.d2, m.d3]⟩

/-- The mapping conflict flag (R142). -/
def mappingConflict (p : Table Nat 52) : Bool := leafPlaces p != mappingEntries p

/-- A leaf's record as at power-on: LOCKED when its lock switch confirms, ISOLATED with cause TIMEOUT
otherwise (R144). -/
def freshLeaf (inputs : DoorInputs) (place : Side × LeafIndex) : Leaf :=
  { side := place.1, index := place.2,
    state := if inputs.lockSw then .locked else .isolated .timeout,
    profile := 1, timer := none, lockLost := false }

/-- A leaf counts as locked when it is LOCKED, or ISOLATED with its lock switch confirming (R7, R143). -/
def leafLocked (inputs : DoorInputs) (l : Leaf) : Bool :=
  match l.state with
  | .locked => true
  | .isolated _ => inputs.lockSw
  | _ => false

/-- A drive is a leaf that is not locked. -/
def driveUnlocked (drc : Doors) (d : Drive) : Bool :=
  (drc.leaves.get d).any fun l => !leafLocked (drc.inputs.get d) l

/-- Every used leaf is locked (R7, R132, R160). -/
def everyLeafLocked (drc : Doors) : Bool := Drive.all.all fun d => !driveUnlocked drc d

/-! ### Access to leaves and gangs -/

def Doors.gang (drc : Doors) : Side → Option Gang
  | .left => drc.gangLeft
  | .right => drc.gangRight

def setGang (side : Side) (g : Option Gang) (s : State) : State :=
  match side with
  | .left => { s with drc.gangLeft := g }
  | .right => { s with drc.gangRight := g }

/-- The leaf record of a drive replaced. -/
def setLeaf (d : Drive) (l : Leaf) (s : State) : State :=
  { s with drc.leaves := s.drc.leaves.set d (some l) }

/-- A DOOR_STATE is to be handed within the present event (R162). -/
def dueReport (s : State) : State := { s with drc.reportDue := true }

/-- A leaf takes a new state, profile index and timer (R143): a change of a leaf's state hands a DOOR_STATE (R162),
and a leaf that leaves LOCKED loses its lock-lost mark (R159). -/
def enterState (d : Drive) (state : LeafState) (profile : Nat) (timer : Timer) (s : State) : State :=
  match s.drc.leaves.get d with
  | none => s
  | some l =>
    dueReport (setLeaf d
      { l with state := state, profile := profile, timer := timer,
               lockLost := if state = .locked then l.lockLost else false } s)

/-- A drive is a member of its side's gang (R156). -/
def gangMember (s : State) (side : Side) (d : Drive) : Bool := (s.drc.gang side).any fun g => g.members.get d

/-- A drive's membership in its side's gang set; nothing when the side is not ganged (R156). -/
def setMember (side : Side) (d : Drive) (member : Bool) (s : State) : State :=
  setGang side ((s.drc.gang side).map fun g => { g with members := g.members.set d member }) s

/-- The gang index of a side set; nothing when the side is not ganged (R156). -/
def setGangIndex (side : Side) (k : Nat) (s : State) : State :=
  setGang side ((s.drc.gang side).map fun g => { g with index := k }) s

/-- The drives whose leaf satisfies a condition, D1 … D4. -/
def drivesWhere (s : State) (p : Drive → Leaf → Bool) : List Drive :=
  Drive.all.filter fun d => (s.drc.leaves.get d).any (p d)

/-- The last profile of the close sequence (R143). -/
def lastProfile : Nat := 3

/-- The profile that follows `k` in the configured sequence: FULL 1, 2, 3 and SHORT 1, 3 (R143). A leaf that stands
at 2 when the sequence is switched to SHORT goes on to 3 (assumption log 14). -/
def nextProfile (short : Bool) (k : Nat) : Nat := if short then lastProfile else min (k + 1) lastProfile

/-- The auto-close dwell or the hold retry interval as a timer: not running when 0 (R143). -/
def secondsTimer (seconds : Nat) : Timer := if seconds = 0 then none else some (seconds * 1000)

/-! ### Single transitions (R143, R151, R153, R154, R155, R157) -/

/-- The alarm of an isolation: DOOR_FAULT for cause OVERCURRENT or TIMEOUT (R157, R162). -/
def isolationAlarm : IsolationCause → State → State
  | .overcurrent, s => handAlarm .doorFault s
  | .timeout, s => handAlarm .doorFault s
  | .host, s => s

/-- A leaf goes ISOLATED: its outputs go off, its timer stops, it leaves its gang, and DOOR is raised (R156, R157). -/
def isolateLeaf (d : Drive) (cause : IsolationCause) (s : State) : State :=
  match s.drc.leaves.get d with
  | none => s
  | some l =>
    isolationAlarm cause (raise .door (setMember l.side d false (enterState d (.isolated cause) l.profile none s)))

/-- A leaf becomes LOCKED with profile index 1, and rejoins its gang (R153, R156). -/
def enterLocked (d : Drive) (s : State) : State :=
  match s.drc.leaves.get d with
  | none => s
  | some l => setMember l.side d true (enterState d .locked 1 none s)

/-- A leaf goes LOCKING, and LOCKED at once when its lock switch already confirms (R153). -/
def enterLocking (d : Drive) (s : State) : State :=
  match s.drc.leaves.get d with
  | none => s
  | some l =>
    let s1 := enterState d .locking l.profile (some (lockTimeout s.cmc.params)) s
    if (s.drc.inputs.get d).lockSw then enterLocked d s1 else s1

/-- A leaf becomes OPEN; its auto-close dwell runs when it is not 0 (R151). -/
def enterOpened (d : Drive) (s : State) : State :=
  match s.drc.leaves.get d with
  | none => s
  | some l => enterState d .opened l.profile (secondsTimer (autoCloseDwell s.cmc.params)) s

/-- A leaf goes OPENING, and OPEN at once when its open switch is already made (R151). -/
def enterOpening (d : Drive) (s : State) : State :=
  match s.drc.leaves.get d with
  | none => s
  | some l =>
    let s1 := enterState d .opening l.profile (some (openTimeout s.cmc.params)) s
    if (s.drc.inputs.get d).openSw then enterOpened d s1 else s1

/-- The change of phase in REVERSING or HELD hands no DOOR_STATE (R162). -/
def setPhase (d : Drive) (l : Leaf) (state : LeafState) (timer : Timer) (s : State) : State :=
  setLeaf d { l with state := state, timer := timer } s

/-- Phase DRIVE of REVERSING or HELD ends, by the reverse time or by the open switch (R154, R155). -/
def endDrive (d : Drive) (s : State) : State :=
  match s.drc.leaves.get d with
  | none => s
  | some l =>
    match l.state with
    | .reversing .drive => setPhase d l (.reversing .dwell) (some (reopenDwell s.cmc.params)) s
    | .held .drive => setPhase d l (.held .dwell) (secondsTimer (holdRetryInterval s.cmc.params)) s
    | _ => s

/-- A leaf goes REVERSING at a profile, in phase DRIVE, or DWELL when its open switch is already made (R154). -/
def enterReversing (d : Drive) (k : Nat) (s : State) : State :=
  let s1 := enterState d (.reversing .drive) k (some (reverseTime s.cmc.params)) s
  if (s.drc.inputs.get d).openSw then endDrive d s1 else s1

/-- A leaf goes HELD, in phase DRIVE, or DWELL when its open switch is already made; DOOR is raised (R155). -/
def enterHeld (d : Drive) (s : State) : State :=
  match s.drc.leaves.get d with
  | none => s
  | some l =>
    let s1 := raise .door (enterState d (.held .drive) l.profile (some (reverseTime s.cmc.params)) s)
    if (s.drc.inputs.get d).openSw then endDrive d s1 else s1

/-- The members of a gang in CLOSING or LOCKING (R156). -/
def closingMembers (s : State) (side : Side) : List Drive :=
  drivesWhere s fun d l =>
    l.side == side && gangMember s side d && (l.state == .closing || l.state == .locking)

/-- An obstruction on a leaf in CLOSING: it reverses at the next profile or goes HELD, and on a ganged side every
member in CLOSING or LOCKING with it (R154, R156). -/
def obstruct (d : Drive) (s : State) : State :=
  match s.drc.leaves.get d with
  | none => s
  | some l =>
    let short := shortSequence s.cmc.params
    if gangMember s l.side d then
      match s.drc.gang l.side with
      | none => s
      | some g =>
        if g.index = lastProfile then (closingMembers s l.side).foldl (fun s d => enterHeld d s) s
        else
          let k := nextProfile short g.index
          setGangIndex l.side k ((closingMembers s l.side).foldl (fun s d => enterReversing d k s) s)
    else if l.profile = lastProfile then enterHeld d s
    else enterReversing d (nextProfile short l.profile) s

/-- What a leaf finds on entering CLOSING: an active overcurrent line isolates it (R158), whatever the leaf was
isolated for before (assumption log 14), a closed switch already made takes it on to LOCKING (R153), an active
obstruction line reverses it (R154). -/
def closingEntry (d : Drive) (s : State) : State :=
  match s.drc.leaves.get d with
  | none => s
  | some l =>
    if l.state = .closing then
      let i := s.drc.inputs.get d
      if i.ovc then isolateLeaf d .overcurrent s
      else if i.closedSw then enterLocking d s
      else if i.edge || i.force then obstruct d s
      else s
    else s

/-- A leaf is put in CLOSING at a profile, with the open timeout as its travel limit (R143, R152). -/
def setClosing (d : Drive) (k : Nat) (s : State) : State :=
  enterState d .closing k (some (openTimeout s.cmc.params)) s

/-- Leaves are put in CLOSING together, and then each finds what stands on its lines, D1 first (R152 to R156,
assumption log 6). -/
def startClosing (ds : List Drive) (k : Nat) (s : State) : State :=
  ds.foldl (fun s d => closingEntry d s) (ds.foldl (fun s d => setClosing d k s) s)

/-- The leaf of a drive is in UNLOCKED, OPENING or OPEN (R152). -/
def openish (l : Leaf) : Bool := l.state == .unlocked || l.state == .opening || l.state == .opened

/-- The leaf of a drive is HELD, in either phase. -/
def Leaf.isHeld (l : Leaf) : Bool :=
  match l.state with
  | .held _ => true
  | _ => false

/-- The leaf is in a close sequence: CLOSING, LOCKING or REVERSING (R143). -/
def Leaf.inSequence (l : Leaf) : Bool :=
  match l.state with
  | .closing => true
  | .locking => true
  | .reversing _ => true
  | _ => false

/-- A close sequence starts at profile 1 for leaves of a side; on a ganged side the gang index becomes 1 when a
member starts (R152, R156). -/
def closeLeaves (side : Side) (ds : List Drive) (s : State) : State :=
  startClosing ds 1 (if ds.any (gangMember s side) then setGangIndex side 1 s else s)

/-- The close start that a leaf's own auto-close dwell gives: its gang's members in UNLOCKED, OPENING and OPEN
with it (R152, R156). -/
def closeWithGang (d : Drive) (s : State) : State :=
  match s.drc.leaves.get d with
  | none => s
  | some l =>
    if gangMember s l.side d then
      closeLeaves l.side (drivesWhere s fun e m => m.side == l.side && gangMember s l.side e && openish m) s
    else closeLeaves l.side [d] s

/-! ### Opening (R150, R151) -/

/-- A LOCKED leaf's lock is withdrawn: it goes to `next`, or ISOLATED with cause OVERCURRENT when its overcurrent
line is active (R150, R151, R157). -/
def unlockLeaf (d : Drive) (next : State → State) (s : State) : State :=
  if (s.drc.inputs.get d).ovc then isolateLeaf d .overcurrent s else next s

/-- A LOCKED leaf goes UNLOCKED (R150). -/
def enterUnlocked (d : Drive) (s : State) : State :=
  match s.drc.leaves.get d with
  | none => s
  | some l => enterState d .unlocked l.profile none s

/-- What a button or OPEN_SIDE does to one leaf while release is in force (R151). -/
def openLeaf (d : Drive) (s : State) : State :=
  match s.drc.leaves.get d with
  | none => s
  | some l =>
    match l.state with
    | .locked => unlockLeaf d (enterOpening d) s
    | .unlocked => enterOpening d s
    | .opened => setLeaf d { l with timer := secondsTimer (autoCloseDwell s.cmc.params) } s
    | _ => s

/-- The leaf is LOCKED, UNLOCKED or OPEN, the states a button acts in (R151). -/
def openable (l : Leaf) : Bool := l.state == .locked || l.state == .unlocked || l.state == .opened

/-! ### Release in force (R149, R150) -/

/-- Condition 6 of R149: the car span lies within the platform of the record's station, on one of its sides. -/
def atReleasedPlatform (s : State) (side : Side) (station : Byte) : Bool :=
  match platformOf s station, carSpan s with
  | some g, some (low, high) => g.record.hasSide side && spanWithin g low high
  | _, _ => false

/-- Release is in force for the record's side (R149). -/
def releaseCondition (s : State) : Option Side :=
  match s.drc.release with
  | none => none
  | some r =>
    if s.cmc.mode != .stabled && s.standing && s.brc.confirmed && s.brc.holding.health != .failed &&
      (match r.station with
       | some st => atReleasedPlatform s r.side st
       | none => s.cmc.mode == .preparation || s.cmc.mode == .shunt)
    then some r.side else none

/-- Release comes into force: every LOCKED leaf of the side is unlocked (R150). -/
def unlockSide (side : Side) (s : State) : State :=
  (drivesWhere s fun _ l => l.side == side && l.state == .locked).foldl
    (fun s d => unlockLeaf d (enterUnlocked d) s) s

/-- Release stops being in force: leaves in UNLOCKED, OPENING, OPEN or HELD start a close sequence (R150). -/
def closeOnLoss (side : Side) (s : State) : State :=
  closeLeaves side (drivesWhere s fun _ l => l.side == side && (openish l || l.isHeld)) s

/-- DRC judges release in force again (R149): the side that loses it closes, the side that gains it unlocks. -/
def judge (s : State) : State :=
  let now := releaseCondition s
  if now = s.drc.inForce then s
  else
    let s1 := { s with drc.inForce := now }
    let s2 := match s.drc.inForce with
      | some side => closeOnLoss side s1
      | none => s1
    match now with
    | some side => unlockSide side s2
    | none => s2

/-! ### Door hold, DOOR_MOTION and the DOOR_STATE of an event (R160, R161, R162) -/

/-- Door hold follows the leaves: at its assertion a running brake test is aborted with reason DOOR, and BRC
evaluates its demands (R138, R160). -/
def followDoorHold (s : State) : State :=
  let now := !everyLeafLocked s.drc
  if now = s.drc.doorHold then s
  else
    let s1 := { s with drc.doorHold := now }
    settle (if now then abortTest .door s1 else s1)

/-- A used leaf has stopped being locked, or has become a leaf with its lock open (R161). -/
def leafCameUnlocked (before after : Doors) : Bool :=
  Drive.all.any fun d => driveUnlocked after d && !driveUnlocked before d

/-- The DOOR_STATE that an event of DRC calls for is handed to VRL (R162). -/
def flushReport (s : State) : State :=
  if s.drc.reportDue then handDoorState { s with drc.reportDue := false } else s

/-- An event of DRC: what `f` does to the leaves and the records, then door hold (R160), DOOR_MOTION when a leaf
stops being locked while ODO reports MOVING (R161), and the DOOR_STATE (R162). -/
def drcEvent (f : State → State) (s : State) : State :=
  let s1 := f s
  flushReport (addLatchIf (!s.standing && leafCameUnlocked s.drc s1.drc) .doorMotion (followDoorHold s1))

/-- DRC takes a handed change that may alter release in force (R149). -/
def judgeRelease (s : State) : State := drcEvent judge s

/-- ODO's state goes from STANDSTILL to MOVING: DOOR_MOTION is added while a used leaf is not locked, and release
is judged (R28, R149, R161). -/
def doorsMoving (s : State) : State :=
  judgeRelease (addLatchIf (!everyLeafLocked s.drc) .doorMotion s)

/-! ### Forming the leaf set and the gangs again (R142, R156) -/

/-- The gang index when ganging is switched ON: the highest profile index among the side's leaves in a close
sequence, or 1 (R156). -/
def gangIndexOn (drc : Doors) (side : Side) : Nat :=
  Drive.all.foldl (fun k d =>
    match drc.leaves.get d with
    | some l => if l.side = side ∧ l.inSequence then max k l.profile else k
    | none => k) 1

/-- The leaf of a drive lies on a side and is not ISOLATED. -/
def onSideNotIsolated (drc : Doors) (side : Side) (d : Drive) : Bool :=
  match drc.leaves.get d with
  | none => false
  | some l =>
    l.side == side && (match l.state with | .isolated _ => false | _ => true)

/-- A new gang context of a side (R144, R156). -/
def newGang (drc : Doors) (side : Side) : Gang :=
  { index := gangIndexOn drc side, members := PerDrive.of (onSideNotIsolated drc side) }

/-- Ganging of a side is switched ON: the context is formed, and members in a close sequence take the gang index
(R156). -/
def gangOn (side : Side) (s : State) : State :=
  let g := newGang s.drc side
  let s1 := (drivesWhere s fun _ l => l.side == side && l.inSequence).foldl
    (fun s d => match s.drc.leaves.get d with
      | some l => setLeaf d { l with profile := g.index } s
      | none => s) s
  setGang side (some g) s1

/-- The leaf record of a drive after the set is formed again: kept when its side and index stay, a fresh record
when the drive becomes a leaf, none when it stops being one (R142). -/
def reformedLeaf (inputs : DoorInputs) (place : Option (Side × LeafIndex)) (old : Option Leaf) : Option Leaf :=
  match place, old with
  | none, _ => none
  | some p, some l => if (l.side, l.index) = p then some l else some (freshLeaf inputs p)
  | some p, none => some (freshLeaf inputs p)

/-- A gang context formed again from a new leaf set (R142, R156): a kept leaf keeps its membership, a fresh leaf is a
member unless it is ISOLATED, and the gang index stays (assumption log 14). -/
def reformedGang (before after : Doors) (side : Side) (g : Gang) : Gang :=
  { g with members := PerDrive.of fun d =>
      if after.leaves.get d = before.leaves.get d then onSideNotIsolated after side d && g.members.get d
      else onSideNotIsolated after side d }

/-- A fresh leaf that starts ISOLATED hands DOOR_FAULT (R142, R144), and its entry to ISOLATED raises DOOR, which R162
asks for and a power-on does not do (R198): assumption log 15. -/
def freshFaults (before : Doors) (s : State) : State :=
  Drive.all.foldl (fun s d =>
    if s.drc.leaves.get d ≠ before.leaves.get d ∧
      (s.drc.leaves.get d).any (fun l => l.state == .isolated .timeout)
    then handAlarm .doorFault (raise .door s) else s) s

/-- DRC forms the set of leaves again from the active mapping (R142); any change of the set hands a DOOR_STATE, although
R162 lists no such event (assumption log 15). -/
def formLeaves (s : State) : State :=
  let places := leafPlaces s.cmc.params
  let after : Doors :=
    { s.drc with
      leaves := PerDrive.of fun d => reformedLeaf (s.drc.inputs.get d) (places.get d) (s.drc.leaves.get d),
      conflict := mappingConflict s.cmc.params }
  if after.leaves = s.drc.leaves then { s with drc := after }
  else
    dueReport (freshFaults s.drc
      { s with drc :=
        { after with
          gangLeft := after.gangLeft.map (reformedGang s.drc after .left),
          gangRight := after.gangRight.map (reformedGang s.drc after .right) } })

/-- Ganging of a side follows its parameter: switched ON the context is formed, switched OFF it is dropped (R156). -/
def formGang (side : Side) (s : State) : State :=
  match ganged s.cmc.params side, s.drc.gang side with
  | true, none => gangOn side s
  | false, some _ => setGang side none s
  | _, _ => s

/-- DRC takes up newly active door parameters (R142, R156). -/
def formDoors (s : State) : State := drcEvent (fun s => formGang .right (formGang .left (formLeaves s))) s

/-! ### The output lines of a drive (R142, R143) -/

/-- The five output lines of a door drive; `profile` is what PSEL0 and PSEL1 give, 0 when both are low. -/
structure DoorOutputs where
  dopen   : Bool
  dclose  : Bool
  profile : Nat
  lockSol : Bool
deriving DecidableEq, Repr

/-- The output lines that a leaf's state drives; a drive that is not a leaf has them off (R142, R143). -/
def doorOutputs : Option Leaf → DoorOutputs
  | none => ⟨false, false, 0, false⟩
  | some l =>
    match l.state with
    | .locked => ⟨false, false, 0, false⟩
    | .unlocked => ⟨false, false, 0, true⟩
    | .opening => ⟨true, false, 0, true⟩
    | .opened => ⟨false, false, 0, true⟩
    | .closing => ⟨false, true, l.profile, true⟩
    | .locking => ⟨false, true, l.profile, false⟩
    | .reversing .drive => ⟨true, false, 0, true⟩
    | .reversing .dwell => ⟨false, false, 0, true⟩
    | .held .drive => ⟨true, false, 0, true⟩
    | .held .dwell => ⟨false, false, 0, true⟩
    | .isolated _ => ⟨false, false, 0, false⟩

end Sys2Proof.Machine
end

