-- ==== Sys2Proof/Machine/Parameters.lean ====
section
/-! DEFINITION. New active parameter values handed to their owners (R11, R12): BRC takes up the door-hold level and
auto-hold at once (R12), DRC the mapping and the ganging (R142, R156), VRL the radio bit rate (R167). Every other
value is read by its owner at its next evaluation or at the next start of a timer. -/

namespace Sys2Proof.Machine

/-- The receiver in SEARCH with an empty comparison history (R165). -/
def emptySearch : Receiver := .search 0

/-- The receiver restarts when the radio bit rate changes (R167). -/
def restartReceiver (before after : Table Nat 52) (s : State) : State :=
  if bitRate after = bitRate before then s else { s with vrl.receiver := emptySearch }

/-- New values become active and their owners take them up (R12, assumption log 12). -/
def activate (p : Table Nat 52) (s : State) : State :=
  formDoors (settle (restartReceiver s.cmc.params p { s with cmc.params := p }))

/-- CMC applies the pending set whole and empties it (R12); an empty set applied has no effect. -/
def applyPendingSet (s : State) : State :=
  if pendingCount s.cmc.pendingSet = 0 then s
  else activate (applyPending s.cmc.params s.cmc.pendingSet) { s with cmc.pendingSet := emptyPending }

end Sys2Proof.Machine
end

