-- ==== Sys2Proof/Machine/Position.lean ====
section
/-! DEFINITION. The Odometry Unit: pulse counts, the estimate, engagement, anchoring, the missed-entry watch,
standstill, rollback and SET_POSITION (chapter 2). Distances are in micrometres. -/

namespace Sys2Proof.Machine

/-! ### Distances and the source (R16, R17) -/

/-- What a count of a pair is worth (R16). -/
def countDistance (p : Table Nat 52) : Pair → Nat
  | .tooth => toothPitch p * 1000
  | .wheel => wheelCircumference p * 1000 / wheelPulses p

/-- Half a pitch (R16). -/
def halfPitch (p : Table Nat 52) : Nat := toothPitch p * 500

/-- Two pitches (R22). -/
def twoPitches (p : Table Nat 52) : Nat := toothPitch p * 2000

/-- The line length in use, in micrometres. -/
def lineUm (s : State) : Nat := lineLength s * 1000

/-- The segment containing a position in micrometres is a RACK or RACK_ENTRY segment. -/
def onRack (s : State) (positionUm : Nat) : Bool :=
  (containing s (positionUm / 1000)).any fun g =>
    g.record.track == some .rack || g.record.track == some .rackEntry

/-- The pulse source in use (R17). -/
def sourceInUse (s : State) : Pair :=
  if s.odo.engagement = .engaged ∧ (s.odo.estimate.all fun e => onRack s e.nominal) then .tooth else .wheel

/-! ### The position status (R19) -/

/-- The missed-entry watch after an event that returns an ARMED watch to IDLE and keeps a MISSED one (R25). -/
def Watch.disarm : Watch → Watch
  | .idle => .idle
  | .armed _ => .idle
  | .missed s => .missed s

/-- The status becomes `st`, and the POSITION blanket follows it (R19); at UNKNOWN an ARMED watch returns to
IDLE (R25). -/
def setStatus (st : PositionStatus) (reason : Option DegradedReason) (s : State) : State :=
  putBlanket (st != .valid) .position
    { s with
      odo.status := st, odo.degradedReason := reason,
      odo.watch := if st = .unknown then s.odo.watch.disarm else s.odo.watch }

/-- The estimate set (R18, R20, R23). -/
def setEstimate (nominal uncertainty : Nat) (s : State) : State :=
  { s with odo.estimate := some { nominal := nominal, uncertainty := uncertainty } }

/-- ODO discards the estimate (R21). -/
def discardEstimate (s : State) : State := setStatus .unknown none { s with odo.estimate := none }

/-! ### Steps of a count (R15) -/

/-- Step 1: the count total of the pair, wrapping (R15). -/
def addTotal (pair : Pair) (way : Way) (s : State) : State :=
  let step : BitVec 32 := match way with
    | .up => 1
    | .down => -1
  match pair with
  | .tooth => { s with odo.toothTotal := s.odo.toothTotal + step }
  | .wheel => { s with odo.wheelTotal := s.odo.wheelTotal + step }

/-- What step 3 does to the engagement state. -/
inductive Meshing where
  | none
  | engagement
  | disengagement
deriving DecidableEq, Repr

/-- Step 3: whether the count engages or disengages the pinion (R22). -/
def meshing (s : State) (pair : Pair) : Meshing :=
  match pair with
  | .wheel =>
    if s.odo.engagement = .engaged ∧
        twoPitches s.cmc.params ≤ s.odo.wheelTravel + countDistance s.cmc.params .wheel then .disengagement
    else .none
  | .tooth =>
    if s.odo.engagement = .free ∧ twoPitches s.cmc.params ≤ s.odo.wheelTravel then .engagement else .none

/-- Step 3: W and the engagement state (R22). -/
def changeEngagement (pair : Pair) (s : State) : State :=
  let state := match meshing s pair with
    | .none => s.odo.engagement
    | .engagement => .engaged
    | .disengagement => .free
  { s with
    odo.engagement := state,
    odo.wheelTravel := match pair with
      | .tooth => 0
      | .wheel => s.odo.wheelTravel + countDistance s.cmc.params .wheel }

/-- The growth of U at a count (R18). -/
def growth (p : Table Nat 52) : Pair → Nat
  | .tooth => 0
  | .wheel => (countDistance p .wheel * growthRate p + 999) / 1000

/-- N moved by a count, clipped to the line (R18). -/
def movedNominal (s : State) (pair : Pair) (n : Nat) : Way → Nat
  | .up => min (n + countDistance s.cmc.params pair) (lineUm s)
  | .down => min (n - countDistance s.cmc.params pair) (lineUm s)

/-- Step 4: a count from the selected source moves the estimate, and a VALID status whose U now exceeds the cap
becomes DEGRADED (R18). -/
def moveEstimate (pair : Pair) (way : Way) (s : State) : State :=
  match s.odo.estimate with
  | none => s
  | some e =>
    let u := min (e.uncertainty + growth s.cmc.params pair) (lineUm s)
    let s1 := setEstimate (movedNominal s pair e.nominal way) u s
    if s.odo.status = .valid ∧ uncertaintyCap s.cmc.params * 1000 < u then setStatus .degraded (some .cap) s1
    else s1

/-- The distance between two places. -/
def apart (a b : Nat) : Nat := (a - b) + (b - a)

/-- The RACK_ENTRY start nearest N within U + 2 pitches, the lower one at equal distance, in micrometres (R23). -/
def anchorStart (s : State) (e : Estimate) : Option Nat :=
  let reach := e.uncertainty + twoPitches s.cmc.params
  ((entryStarts s).map (· * 1000)).foldl (fun best x =>
    if apart x e.nominal ≤ reach then
      match best with
      | none => some x
      | some b =>
        if apart x e.nominal < apart b e.nominal ∨ (apart x e.nominal = apart b e.nominal ∧ x < b) then some x
        else some b
    else best) none

/-- ODO anchors the estimate (R23), or finds no RACK_ENTRY start (R24). -/
def anchor (s : State) : State :=
  match s.odo.estimate with
  | none => s
  | some e =>
    match anchorStart s e with
    | some start => setStatus .valid none (setEstimate start (halfPitch s.cmc.params) s)
    | none =>
      match s.odo.status with
      | .unknown => s
      | _ => handAlarm .positionConflict (setStatus .degraded (some .conflict) s)

/-- Step 5: an engagement UP or a disengagement DOWN anchors (R23). -/
def anchorAfter (m : Meshing) (way : Way) (s : State) : State :=
  match m, way with
  | .engagement, .up => anchor s
  | .disengagement, .down => anchor s
  | _, _ => s

/-- The lowest RACK_ENTRY start that the maximum position has newly reached (R25); bounds in micrometres. -/
def reachedStart (s : State) (before now : Nat) : Option Nat :=
  (entryStarts s).find? fun x => before < x * 1000 && x * 1000 ≤ now

/-- The missed-entry watch after a count, given the maximum position before the count (R25). -/
def watchAfter (m : Meshing) (before : Option Nat) (s : State) : Watch :=
  if m = .engagement then .idle
  else
    match s.odo.watch with
    | .missed x => .missed x
    | .armed x =>
      match handedEstimate s with
      | some e => if maximumUm s e < x * 1000 then .idle else .armed x
      | none => .idle
    | .idle =>
      if s.cmc.mode = .service ∧ s.odo.engagement = .free then
        match before, handedEstimate s with
        | some b, some e => (reachedStart s b (maximumUm s e)).elim .idle .armed
        | _, _ => .idle
      else .idle

/-- The check of R26 finds the entry passed. -/
def entryPassed (s : State) : Option Nat :=
  match s.odo.watch, handedEstimate s with
  | .armed x, some e =>
    if s.cmc.mode = .service ∧ (x + entryWindow s.cmc.params) * 1000 < minimumUm e then some x else none
  | _, _ => none

/-- Step 6: the watch changes by R25, and at a count from the selected source is checked by R26. -/
def changeWatch (m : Meshing) (before : Option Nat) (fromSource : Bool) (s : State) : State :=
  let s1 := { s with odo.watch := watchAfter m before s }
  match (if fromSource then entryPassed s1 else none) with
  | some x => addLatchCause .rackMissed { s1 with odo.watch := .missed x }
  | none => s1

/-- Whether a count runs against the selected direction (R31). -/
def againstSelected : Selected → Way → Bool
  | .up, .up => false
  | .up, .down => true
  | .down, .up => true
  | .down, .down => false
  | .neutral, _ => true

/-- Step 7: the speed sum, the reverse-travel accumulator and the rollback check (R29, R31, R32). The accumulator
stops at the line length in use at each count that adds to it (assumption log 14). -/
def accumulate (pair : Pair) (way : Way) (s : State) : State :=
  let d := countDistance s.cmc.params pair
  let s1 := { s with odo.windowSum := match way with
    | .up => s.odo.windowSum + d
    | .down => s.odo.windowSum - d }
  if againstSelected s.cmc.selected way then
    let r := min (s.odo.reverse + d) (lineUm s)
    addLatchIf (s.cmc.mode.supervised && rollbackAllowance s.cmc.params * 1000 < r) .rollback
      { s1 with odo.reverse := r }
  else { s1 with odo.reverse := s.odo.reverse - d }

/-- BRC takes a change of the standstill state: motion during a test, and AUTO again (R28, R119, R138). -/
def brakesMoving (s : State) : State := settle (testMotion s)

/-- Step 8: the standstill timer restarts and the state is MOVING; a change is handed to BRC and DRC (R27, R28). -/
def becomeMoving (s : State) : State :=
  let s1 := { s with odo.motion := .moving, odo.standstillTimer := some (standstillWindow s.cmc.params) }
  if s.standing then doorsMoving (brakesMoving s1) else s1

/-- The eight steps of a count within ODO, with the causes ODO adds on the way (R2, R15). -/
def countSteps (pair : Pair) (way : Way) (s : State) : State :=
  let s1 := addLatchIf (s.cmc.mode == .stabled) .stabledMotion (addTotal pair way s)
  let fromSource : Bool := sourceInUse s == pair
  let m := meshing s pair
  let before := (handedEstimate s).map (maximumUm s)
  let s3 := changeEngagement pair s1
  let s4 := if fromSource then moveEstimate pair way s3 else s3
  let s6 := changeWatch m before fromSource (anchorAfter m way s4)
  becomeMoving (if fromSource then accumulate pair way s6 else s6)

/-- PULSE_COUNT (R15); a changed position status is handed to DRC afterwards (R149, assumption log 12). -/
def execPulseCount (pair : Pair) (way : Way) (s : State) : Host.Outcome State Fault Refusal :=
  let s1 := countSteps pair way s
  .next (if s1.odo.status = s.odo.status then s1 else judgeRelease s1)

/-- ILLEGAL_STEP (R15). -/
def execIllegalStep (pair : Pair) (s : State) : Host.Outcome State Fault Refusal :=
  .next (match pair with
    | .tooth => { s with odo.toothIllegal := countUp s.odo.toothIllegal }
    | .wheel => { s with odo.wheelIllegal := countUp s.odo.wheelIllegal })

/-- CMC takes the standstill: the pending set is applied in SERVICE and SHUNT (R12). -/
def modesStanding (s : State) : State := if s.cmc.mode.supervised then applyPendingSet s else s

/-- STANDSTILL_EXPIRY (R27, R28): CMC, BRC and DRC take the change in this order. -/
def execStandstillExpiry (s : State) : Host.Outcome State Fault Refusal :=
  .next (match s.odo.standstillTimer with
    | none => s
    | some _ =>
      judgeRelease (settle (modesStanding { s with odo.motion := .standstill, odo.standstillTimer := none })))

/-! ### SET_POSITION (R20) -/

/-- The greatest uncertainty SET_POSITION takes, in millimetres (R20). -/
def longestUncertainty : Nat := 50000

/-- U as SET_POSITION stores it: raised to half a pitch on a RACK segment (R20). -/
def takenUncertainty (s : State) (position uncertainty : Nat) : Nat :=
  let u := uncertainty * 1000
  if ((containing s position).any fun g => g.record.track == some .rack) && u < halfPitch s.cmc.params then
    halfPitch s.cmc.params
  else u

/-- ODO takes a SET_POSITION with the values as clamped (R20). -/
def takePosition (position uncertainty : Nat) (s : State) : State :=
  let u := takenUncertainty s position uncertainty
  let s1 := setEstimate (position * 1000) u { s with odo.watch := .idle }
  if u ≤ uncertaintyCap s.cmc.params * 1000 then setStatus .valid none s1
  else setStatus .degraded (some .cap) s1

def judgeSetPosition (position uncertainty : Nat) (s : State) : Reply × State :=
  if !s.profileValid then refused (refuseDetail profileNotValid) s
  else if !s.standing then refused (refuse .refusedMotion) s
  else
    (doneOrClamped (lineLength s < position || longestUncertainty < uncertainty) [],
      judgeRelease (takePosition (min position (lineLength s)) (min uncertainty longestUncertainty) s))

/-- SET_POSITION (R20). -/
def execSetPosition (position uncertainty : Word) (s : State) : Host.Outcome State Fault Refusal :=
  .next (request 0x12 (judgeSetPosition position.toNat uncertainty.toNat) s)

/-! ### LINE_RESET (R35) -/

/-- ODO's part of a LINE_RESET, with the status change handed to DRC (R35, R149). -/
def resetPosition (s : State) : State := judgeRelease (setStatus .unknown none s)

end Sys2Proof.Machine
end

