-- ==== Sys2Proof/Machine/DoorCommands.lean ====
section
/-! DEFINITION. What DRC does at each of its events: the cab's door commands, the radio's release and withdrawal,
the switches and lines of the drives, and the attempt timers (chapter 9). -/

namespace Sys2Proof.Machine

/-! ### The release record (R145 to R148) -/

/-- A release record is stored, a DOOR_STATE is called for, and release in force is judged (R146, R148). -/
def storeRelease (r : Release) (s : State) : State := judge (dueReport { s with drc.release := some r })

/-- The release record that stands is removed (R147, R148). -/
def removeRelease (s : State) : State := judge (dueReport { s with drc.release := none })

/-- The car stands within a platform segment of origin CAB that contains the minimum position (R148, check 5). -/
def cabPlatform (s : State) : Option Located :=
  match handedEstimate s, carSpan s with
  | some e, some (low, high) =>
    match containing s (minimumUm e / 1000) with
    | none => none
    | some g =>
      if g.record.isPlatform && g.record.releaseOrigin == 2 && spanWithin g low high then some g else none
  | _, _ => none

/-- DOOR_COMMAND RELEASE (R148). -/
def judgeRelease148 (sideCode : Byte) (s : State) : Reply × State :=
  match Side.ofCode sideCode with
  | none => refused (refuse .refusedRange) s
  | some side =>
    if s.cmc.mode = .stabled then refused (refuse .refusedMode) s
    else
      match s.drc.release with
      | some r =>
        if r.side = side then refused { code := .done } s else refused (refuseDetail otherSideReleased) s
      | none =>
        if s.cmc.mode = .service then
          match cabPlatform s with
          | none => refused (refuseDetail notAtCabPlatform) s
          | some g =>
            if g.record.hasSide side then
              ({ code := .done }, drcEvent (storeRelease ⟨side, .cab, some g.record.stationId⟩) s)
            else refused (refuseDetail sideNotAtPlatform) s
        else if s.standing then ({ code := .done }, drcEvent (storeRelease ⟨side, .cab, none⟩) s)
        else refused (refuse .refusedMotion) s

def execDoorCommandRelease (side : Byte) (s : State) : Host.Outcome State Fault Refusal :=
  .next (request 0x1B (judgeRelease148 side) s)

/-- DOOR_COMMAND WITHDRAW (R148). -/
def judgeWithdraw (s : State) : Reply × State :=
  ({ code := .done }, if s.drc.release.isSome then drcEvent removeRelease s else s)

/-- DOOR_COMMAND_WITHDRAW; the argument octet is ignored (R195). -/
def execDoorCommandWithdraw (_argument : Byte) (s : State) : Host.Outcome State Fault Refusal :=
  .next (request 0x1B judgeWithdraw s)

/-- UNKNOWN_DOOR_COMMAND (R148): a command octet that names none of the seven commands is refused. -/
def execUnknownDoorCommand (_command _argument : Byte) (s : State) : Host.Outcome State Fault Refusal :=
  .next (request 0x1B (refused (refuse .refusedRange)) s)

/-- The first check of R146 that a radio release fails, absent when it passes. -/
def radioReleaseFault (s : State) (station sideCode : Byte) : Option RefusedReason :=
  if s.cmc.mode = .stabled then some .mode
  else
    match platformOf s station with
    | none => some .noPlatform
    | some g =>
      match Side.ofCode sideCode with
      | none => some .side
      | some side =>
        if !g.record.hasSide side then some .side
        else if g.record.releaseOrigin != 1 then some .origin
        else
          match s.drc.release with
          | none => none
          | some r => if r = ⟨side, .radio, some station⟩ then none else some .otherRelease

/-- DRC takes a DOOR_RELEASE telegram (R146). -/
def takeDoorRelease (station sideCode : Byte) (s : State) : State :=
  match radioReleaseFault s station sideCode, Side.ofCode sideCode with
  | none, some side => drcEvent (fun s => storeRelease ⟨side, .radio, some station⟩ (raise .door s)) s
  | some reason, _ =>
    drcEvent (fun s => dueReport (raise .door { s with drc.lastRefused := some ⟨station, sideCode, reason⟩ })) s
  | none, none => s

/-- DRC takes a DOOR_WITHDRAW telegram (R147). -/
def takeDoorWithdraw (station : Byte) (s : State) : State :=
  match s.drc.release with
  | some r =>
    if r.origin = .radio ∧ r.station = some station then drcEvent (fun s => removeRelease (raise .door s)) s else s
  | none => s

/-! ### Commands on a side or a leaf (R151, R152, R155, R157, R158) -/

/-- OPEN_SIDE (R151). -/
def judgeOpenSide (sideCode : Byte) (s : State) : Reply × State :=
  match Side.ofCode sideCode with
  | none => refused (refuse .refusedRange) s
  | some side =>
    if s.drc.inForce = some side then
      ({ code := .done },
        drcEvent (fun s => (drivesWhere s fun _ l => l.side == side).foldl (fun s d => openLeaf d s) s) s)
    else refused (refuseDetail releaseNotInForce) s

def execOpenSide (side : Byte) (s : State) : Host.Outcome State Fault Refusal :=
  .next (request 0x1B (judgeOpenSide side) s)

/-- CLOSE_SIDE (R152). -/
def judgeCloseSide (sideCode : Byte) (s : State) : Reply × State :=
  match Side.ofCode sideCode with
  | none => refused (refuse .refusedRange) s
  | some side =>
    ({ code := .done },
      drcEvent (fun s => closeLeaves side (drivesWhere s fun _ l => l.side == side && openish l) s) s)

def execCloseSide (side : Byte) (s : State) : Host.Outcome State Fault Refusal :=
  .next (request 0x1B (judgeCloseSide side) s)

/-- The drive and leaf a door command names; absent for a drive that is not a leaf (R155, R157, R158). -/
def namedLeaf (s : State) (drive : Byte) : Option (Drive × Leaf) :=
  match Drive.ofNumber drive with
  | none => none
  | some d => (s.drc.leaves.get d).map fun l => (d, l)

/-- A HELD leaf leaves HELD for CLOSING at a profile: on a ganged side every HELD member with it, and the gang
index takes the profile (R155, R156). -/
def leaveHeld (d : Drive) (k : Nat) (s : State) : State :=
  match s.drc.leaves.get d with
  | none => s
  | some l =>
    if gangMember s l.side d then
      startClosing (drivesWhere s fun e m => m.side == l.side && gangMember s l.side e && m.isHeld) k
        (setGangIndex l.side k s)
    else startClosing [d] k s

/-- FORCE_CLOSE (R155). -/
def judgeForceClose (drive : Byte) (s : State) : Reply × State :=
  match namedLeaf s drive with
  | none => refused (refuse .refusedRange) s
  | some (d, l) =>
    if l.isHeld then ({ code := .done }, drcEvent (leaveHeld d lastProfile) s)
    else refused (refuseDetail leafNotHeld) s

def execForceClose (drive : Byte) (s : State) : Host.Outcome State Fault Refusal :=
  .next (request 0x1B (judgeForceClose drive) s)

/-- ISOLATE (R157). -/
def judgeIsolate (drive : Byte) (s : State) : Reply × State :=
  match namedLeaf s drive with
  | none => refused (refuse .refusedRange) s
  | some (d, l) =>
    match l.state with
    | .isolated _ => refused { code := .done } s
    | .locked =>
      if s.drc.inForce = some l.side then ({ code := .done }, drcEvent (isolateLeaf d .host) s)
      else refused (refuseDetail leafLockedDetail) s
    | _ => ({ code := .done }, drcEvent (isolateLeaf d .host) s)

def execIsolate (drive : Byte) (s : State) : Host.Outcome State Fault Refusal :=
  .next (request 0x1B (judgeIsolate drive) s)

/-- An ISOLATED leaf is brought back: LOCKED when its lock switch confirms, otherwise CLOSING at profile 1 apart
from its gang (R158). -/
def restoreLeaf (d : Drive) (s : State) : State :=
  if (s.drc.inputs.get d).lockSw then enterLocked d s else startClosing [d] 1 s

/-- RESTORE (R158). -/
def judgeRestore (drive : Byte) (s : State) : Reply × State :=
  match namedLeaf s drive with
  | none => refused (refuse .refusedRange) s
  | some (d, l) =>
    match l.state with
    | .isolated _ =>
      if s.standing then ({ code := .done }, drcEvent (restoreLeaf d) s) else refused (refuse .refusedMotion) s
    | _ => refused (refuseDetail leafNotIsolated) s

def execRestore (drive : Byte) (s : State) : Host.Outcome State Fault Refusal :=
  .next (request 0x1B (judgeRestore drive) s)

/-! ### Input lines -/

/-- The input lines of a drive as stored, whether or not the drive is a leaf. -/
def setInputs (d : Drive) (f : DoorInputs → DoorInputs) (s : State) : State :=
  { s with drc.inputs := s.drc.inputs.set d (f (s.drc.inputs.get d)) }

/-- An input line of a drive takes its new level, and, when the drive is a leaf, DRC takes the event: what `f` does
to the leaf. A drive that is not a leaf has its lines stored and no event taken (R142). -/
def lineEvent (d : Drive) (level : DoorInputs → DoorInputs) (f : Leaf → State → State) (s : State) : State :=
  drcEvent (fun s =>
    let s1 := setInputs d level s
    match s1.drc.leaves.get d with
    | none => s1
    | some l => f l s1) s

/-- OPENSW made: OPENING ends in OPEN (R151), phase DRIVE ends in DWELL (R154, R155). -/
def openSwitchMade (d : Drive) (l : Leaf) (s : State) : State :=
  match l.state with
  | .opening => enterOpened d s
  | _ => endDrive d s

/-- OPEN_SWITCH (R151, R154, R155). -/
def execOpenSwitch (d : Drive) (made : Bool) (s : State) : Host.Outcome State Fault Refusal :=
  .next (lineEvent d (fun i => { i with openSw := made })
    (fun l s => if made then openSwitchMade d l s else s) s)

/-- CLSDSW changes: made in CLOSING it takes the leaf to LOCKING, lost in LOCKING back to CLOSING at the same
profile (R153). -/
def closedSwitchChanged (d : Drive) (made : Bool) (l : Leaf) (s : State) : State :=
  match l.state with
  | .closing => if made then enterLocking d s else s
  | .locking => if made then s else startClosing [d] l.profile s
  | _ => s

/-- CLOSED_SWITCH (R153). -/
def execClosedSwitch (d : Drive) (made : Bool) (s : State) : Host.Outcome State Fault Refusal :=
  .next (lineEvent d (fun i => { i with closedSw := made }) (closedSwitchChanged d made) s)

/-- A LOCKED leaf whose lock switch stops confirming: the lock-lost mark, DOOR and a DOOR_STATE; the mark goes when
it confirms again (R159). -/
def lockedSwitchChanged (d : Drive) (confirms : Bool) (l : Leaf) (s : State) : State :=
  if confirms then setLeaf d { l with lockLost := false } s
  else dueReport (raise .door (setLeaf d { l with lockLost := true } s))

/-- LOCKSW changes (R153, R159); in ISOLATED it enters door hold alone (R157, R160). -/
def lockSwitchChanged (d : Drive) (confirms : Bool) (l : Leaf) (s : State) : State :=
  match l.state with
  | .locking => if confirms then enterLocked d s else s
  | .locked => lockedSwitchChanged d confirms l s
  | _ => s

/-- LOCK_SWITCH (R153, R157, R159). -/
def execLockSwitch (d : Drive) (confirms : Bool) (s : State) : Host.Outcome State Fault Refusal :=
  .next (lineEvent d (fun i => { i with lockSw := confirms }) (lockSwitchChanged d confirms) s)

/-- The level of an obstruction line stored. -/
def setObstructionLine (line : ObstructionLine) (active : Bool) (i : DoorInputs) : DoorInputs :=
  match line with
  | .edge => { i with edge := active }
  | .force => { i with force := active }

/-- OBSTRUCTION (R154): it acts on a leaf in CLOSING. -/
def execObstruction (d : Drive) (line : ObstructionLine) (active : Bool) (s : State) :
    Host.Outcome State Fault Refusal :=
  .next (lineEvent d (setObstructionLine line active)
    (fun l s => if active && l.state == .closing then obstruct d s else s) s)

/-- Whether an overcurrent line isolates at once: in every state but LOCKED and ISOLATED (R157). -/
def LeafState.isolatesOnOvercurrent : LeafState → Bool
  | .locked => false
  | .isolated _ => false
  | _ => true

/-- OVERCURRENT (R157). -/
def execOvercurrent (d : Drive) (active : Bool) (s : State) : Host.Outcome State Fault Refusal :=
  .next (lineEvent d (fun i => { i with ovc := active })
    (fun l s => if active && l.state.isolatesOnOvercurrent then isolateLeaf d .overcurrent s else s) s)

/-- A button: with release in force for its side it opens its leaf, or every gang member in LOCKED, UNLOCKED and
OPEN when the leaf is a member in one of those states (R151, R156). -/
def pressButton (d : Drive) (l : Leaf) (s : State) : State :=
  if s.drc.inForce = some l.side ∧ openable l then
    if gangMember s l.side d then
      (drivesWhere s fun e m => m.side == l.side && gangMember s l.side e && openable m).foldl
        (fun s d => openLeaf d s) s
    else openLeaf d s
  else s

/-- DOOR_BUTTON (R151). -/
def execDoorButton (d : Drive) (active : Bool) (s : State) : Host.Outcome State Fault Refusal :=
  .next (lineEvent d (fun i => { i with btn := active }) (fun l s => if active then pressButton d l s else s) s)

/-! ### Attempt timers (R151, R153, R154, R155); an expiry that finds another timer running has no effect -/

/-- The attempt timer of a leaf expires: DRC takes `f` when the drive is a leaf whose timer runs. -/
def timerEvent (d : Drive) (f : Leaf → State → State) (s : State) : State :=
  match s.drc.leaves.get d with
  | none => s
  | some l => if l.timer.isSome then drcEvent (f l) s else s

/-- OPEN_TIMEOUT (R151). -/
def execOpenTimeout (d : Drive) (s : State) : Host.Outcome State Fault Refusal :=
  .next (timerEvent d (fun l s => if l.state = .opening then isolateLeaf d .timeout s else s) s)

/-- TRAVEL_LIMIT (R153). -/
def execTravelLimit (d : Drive) (s : State) : Host.Outcome State Fault Refusal :=
  .next (timerEvent d (fun l s => if l.state = .closing then isolateLeaf d .timeout s else s) s)

/-- LOCK_TIMEOUT (R153). -/
def execLockTimeout (d : Drive) (s : State) : Host.Outcome State Fault Refusal :=
  .next (timerEvent d (fun l s => if l.state = .locking then isolateLeaf d .timeout s else s) s)

/-- AUTO_CLOSE_DWELL (R151, R152). -/
def execAutoCloseDwell (d : Drive) (s : State) : Host.Outcome State Fault Refusal :=
  .next (timerEvent d (fun l s => if l.state = .opened then closeWithGang d s else s) s)

/-- REVERSE_TIME (R154, R155): phase DRIVE ends. -/
def execReverseTime (d : Drive) (s : State) : Host.Outcome State Fault Refusal :=
  .next (timerEvent d (fun _ s => endDrive d s) s)

/-- REOPEN_DWELL (R154): CLOSING at the leaf's new profile. -/
def execReopenDwell (d : Drive) (s : State) : Host.Outcome State Fault Refusal :=
  .next (timerEvent d (fun l s => if l.state = .reversing .dwell then startClosing [d] l.profile s else s) s)

/-- HOLD_RETRY_INTERVAL (R155, R156). -/
def execHoldRetryInterval (d : Drive) (s : State) : Host.Outcome State Fault Refusal :=
  .next (timerEvent d (fun l s => if l.state = .held .dwell then leaveHeld d 1 s else s) s)

/-! ### LINE_RESET (R163) -/

/-- Every leaf that is not LOCKED starts a close sequence at profile 1; the release record and the last refused
release go, and both gang indexes become 1 (R163, assumption log 12). -/
def resetDoors (s : State) : State :=
  let s1 := { s with drc.release := none, drc.inForce := none, drc.lastRefused := none }
  let s2 := dueReport (setGangIndex .left 1 (setGangIndex .right 1 s1))
  startClosing (drivesWhere s2 fun _ l => l.state != .locked) 1 s2

end Sys2Proof.Machine
end

