-- ==== Sys2Proof/Machine/Restrictions.lean ====
section
/-! DEFINITION. The Restriction Table: admission, amendment, revocation, expiry and clearance, the dispatch
telegrams and the cab's requests (chapter 4). -/

namespace Sys2Proof.Machine

/-! ### Records and slots (R51 to R53) -/

/-- The derived state of a record (R53). -/
inductive RecordState where
  | active
  | relaxing
  | clearing
deriving DecidableEq, Repr

def Restriction.state (r : Restriction) : RecordState :=
  match r.inForce, r.trailing with
  | some _, none => .active
  | some _, some _ => .relaxing
  | none, _ => .clearing

def RecordState.code : RecordState → Byte
  | .active => 1 | .relaxing => 2 | .clearing => 3

/-- Whether a part with this applies-to applies to a direction (R52). -/
def AppliesTo.includes : AppliesTo → Way → Bool
  | .up, .up => true
  | .up, .down => false
  | .down, .up => false
  | .down, .down => true
  | .both, _ => true

/-- The union of two applies-to values (R58). -/
def AppliesTo.union : AppliesTo → AppliesTo → AppliesTo
  | .up, .up => .up
  | .down, .down => .down
  | _, _ => .both

/-- The record in a slot. -/
def slotRecord (s : State) (slot : Nat) : Option Restriction := (s.rtb.slots.get? slot).join

/-- The slots that hold a record, in ascending slot order, from slot `i` on. -/
def heldFrom : Nat → List (Option Restriction) → List (Nat × Restriction)
  | _, [] => []
  | i, none :: rest => heldFrom (i + 1) rest
  | i, some r :: rest => (i, r) :: heldFrom (i + 1) rest

/-- The records held with their slots, in ascending slot order. -/
def heldRecords (s : State) : List (Nat × Restriction) := heldFrom 0 s.rtb.slots.list

/-- The held count (R51). -/
def heldCount (s : State) : Nat := (heldRecords s).length

/-- The record with a pair (origin, id), and its slot. -/
def findRecord (s : State) (origin : Origin) (id : Nat) : Option (Nat × Restriction) :=
  (heldRecords s).find? fun x => x.2.origin == origin && x.2.id == id

/-- The lowest free slot (R51, R56). -/
def freeSlot (s : State) : Option Nat := s.rtb.slots.list.findIdx? Option.isNone

/-- A slot's content replaced. -/
def putSlot (slot : Nat) (r : Option Restriction) (s : State) : State :=
  { s with rtb.slots := s.rtb.slots.set slot r }

/-- A change made to records: the change count rises by 1 (R51), and RESTRICTION is raised when a DISPATCH record
changed (R54). -/
def noteChange (dispatch : Bool) (s : State) : State :=
  let s1 := { s with rtb.changeCount := s.rtb.changeCount + 1 }
  if dispatch then raise .restriction s1 else s1

/-! ### Clearance (R55) -/

/-- The car span is clear of a zone; judged only while the position status is VALID (R55). -/
def clearOf (s : State) (zoneStart zoneEnd : Nat) : Bool :=
  s.odo.status == .valid && (carSpan s).any fun span => span.2 < zoneStart || zoneEnd ≤ span.1

/-! ### How a record changes (R56 to R59) -/

/-- The new part of an admission or an amendment, with the values as clipped and clamped. -/
structure NewPart where
  zoneStart : Nat
  zoneEnd   : Nat
  limit     : Nat
  appliesTo : AppliesTo
  life      : Option Nat
deriving DecidableEq, Repr

def NewPart.inForce (p : NewPart) : InForcePart := ⟨p.zoneStart, p.zoneEnd, p.limit⟩

/-- The record that an admission stores (R56). -/
def admitted (origin : Origin) (id : Nat) (sequence : Option Byte) (p : NewPart) : Restriction :=
  { origin := origin, id := id, sequence := sequence, appliesTo := p.appliesTo, inForce := some p.inForce,
    trailing := none, life := p.life }

/-- The in-force part of a record as a trailing part (R57, R59). -/
def asTrailing (a : AppliesTo) (p : InForcePart) : TrailingPart := ⟨p.zoneStart, p.zoneEnd, p.limit, a⟩

/-- Two trailing parts merged into one (R58). -/
def mergeTrailing (t : TrailingPart) : Option TrailingPart → TrailingPart
  | none => t
  | some u =>
    ⟨min t.zoneStart u.zoneStart, max t.zoneEnd u.zoneEnd, min t.limit u.limit, t.appliesTo.union u.appliesTo⟩

/-- The new part covers the old one (R57, case 2). -/
def NewPart.covers (p : NewPart) (a : AppliesTo) (old : InForcePart) : Bool :=
  p.zoneStart ≤ old.zoneStart && old.zoneEnd ≤ p.zoneEnd && p.limit ≤ old.limit &&
  (!a.includes .up || p.appliesTo.includes .up) && (!a.includes .down || p.appliesTo.includes .down)

/-- The trailing part after an amendment (R57). -/
def amendedTrailing (s : State) (r : Restriction) (p : NewPart) : Option TrailingPart :=
  match r.inForce with
  | none => r.trailing
  | some old =>
    if p.covers r.appliesTo old || clearOf s old.zoneStart old.zoneEnd then r.trailing
    else some (mergeTrailing (asTrailing r.appliesTo old) r.trailing)

/-- A record after an amendment (R57). -/
def amended (s : State) (r : Restriction) (sequence : Option Byte) (p : NewPart) : Restriction :=
  { r with
    sequence := sequence, appliesTo := p.appliesTo, inForce := some p.inForce,
    trailing := amendedTrailing s r p, life := p.life }

/-- A record after a revocation or expiry: absent when it is retired (R59). -/
def revoked (s : State) (r : Restriction) : Option Restriction :=
  match r.inForce with
  | none => some { r with life := none }
  | some old =>
    if clearOf s old.zoneStart old.zoneEnd then
      if r.trailing.isSome then some { r with inForce := none, life := none } else none
    else
      some { r with inForce := none, trailing := some (mergeTrailing (asTrailing r.appliesTo old) r.trailing),
                    life := none }

/-! ### Zones and limits of a request (R62, R68) -/

/-- A zone clipped to the line length in use; absent when its start is then not below its end (R62, R68). -/
def clippedZone (s : State) (zoneStart zoneEnd : Nat) : Option (Nat × Nat) :=
  let a := min zoneStart (lineLength s)
  let b := min zoneEnd (lineLength s)
  if a < b then some (a, b) else none

/-! ### Dispatch telegrams (R61 to R66) -/

/-- The codes of a NAK (R61). -/
inductive NakCode where
  | invalid
  | stale
  | full
deriving DecidableEq, Repr

/-- The outcome of a RESTRICT or REVOKE telegram (R61). -/
inductive ReplyOutcome where
  | ack
  | nak (code : NakCode)
deriving DecidableEq, Repr

/-- The judgement of a sequence (R63). -/
inductive SequenceJudgement where
  | duplicate
  | newer
  | stale
deriving DecidableEq, Repr

/-- A telegram's sequence against the stored one (R63). -/
def judgeSequence (stored : Option Byte) (s : Byte) : SequenceJudgement :=
  match stored with
  | none => .newer
  | some t =>
    let d := (s - t).toNat
    if d = 0 then .duplicate else if d < 128 then .newer else .stale

/-- The id of a DISPATCH record (R52, R62). -/
def dispatchId (id : Half) : Bool := 1 ≤ id.toNat && id.toNat ≤ 4095

/-- The part a RESTRICT telegram asks for, absent when the telegram gets NAK INVALID (R62). -/
def restrictPart (s : State) (f : RestrictFields) : Option NewPart :=
  match AppliesTo.ofCode f.appliesTo, clippedZone s f.zoneStart.toNat f.zoneEnd.toNat with
  | some a, some (zs, ze) =>
    if dispatchId f.id && lifeOf f.lifeFlag f.life != some 0 then
      some ⟨zs, ze, min f.limit.toNat (lineMaximum s.cmc.params), a, lifeOf f.lifeFlag f.life⟩
    else none
  | _, _ => none

/-- The overflow condition and its blanket, and the count of NAK FULL replies (R65). -/
def setOverflow (s : State) : State :=
  putBlanket true .tableOverflow
    { s with rtb.overflow := true, rtb.overflowCount := countUp8 s.rtb.overflowCount }

/-- RTB takes a RESTRICT telegram (R64); VRL's part of a NAK FULL follows in the dialogue (R65, R189). -/
def takeRestrict (f : RestrictFields) (s : State) : ReplyOutcome × State :=
  match restrictPart s f with
  | none => (.nak .invalid, s)
  | some p =>
    match findRecord s .dispatch f.id.toNat with
    | none =>
      match freeSlot s with
      | some i =>
        (.ack, noteChange true (putSlot i (some (admitted .dispatch f.id.toNat (some f.sequence) p)) s))
      | none => (.nak .full, setOverflow s)
    | some (i, r) =>
      match judgeSequence r.sequence f.sequence with
      | .newer => (.ack, noteChange true (putSlot i (some (amended s r (some f.sequence) p)) s))
      | .duplicate => (.ack, s)
      | .stale => (.nak .stale, s)

/-- RTB takes a REVOKE telegram (R66). -/
def takeRevoke (id : Half) (sequence : Byte) (s : State) : ReplyOutcome × State :=
  if !dispatchId id then (.nak .invalid, s)
  else
    match findRecord s .dispatch id.toNat with
    | none => (.ack, s)
    | some (i, r) =>
      match judgeSequence r.sequence sequence with
      | .newer => (.ack, noteChange true (putSlot i (revoked s { r with sequence := some sequence }) s))
      | .duplicate => (.ack, s)
      | .stale => (.nak .stale, s)

/-- RTB takes VRL's JOINED: the overflow condition and its cause are cleared together (R65). -/
def clearOverflow (s : State) : State :=
  putBlanket false .tableOverflow { s with rtb.overflow := false, rtb.overflowCount := 0 }

/-! ### Layouts (R52, R197) -/

def optionalOctets (width : Nat) (o : Option (List Byte)) : List Byte :=
  match o with
  | none => 0 :: List.replicate width 0
  | some l => 1 :: l

/-- The fields of a record as R52 lists them; R197 names no width for a remaining life, which takes 2 octets, nor for the
stored sequence, which takes 1, both as in the RESTRICT telegram (assumption log 3). -/
def recordOctets (r : Restriction) : List Byte :=
  [r.origin.code] ++ octets2 r.id ++ optionalOctets 1 (r.sequence.map fun q => [q]) ++ [r.appliesTo.code] ++
  optionalOctets 10 (r.inForce.map fun p => octets4 p.zoneStart ++ octets4 p.zoneEnd ++ octets2 p.limit) ++
  optionalOctets 11
    (r.trailing.map fun p => octets4 p.zoneStart ++ octets4 p.zoneEnd ++ octets2 p.limit ++ [p.appliesTo.code]) ++
  optionalOctets 2 (r.life.map octets2)

/-- The record whole, with its state (R73). -/
def recordWithState (r : Restriction) : List Byte := recordOctets r ++ [r.state.code]

/-- The octets of a record with its state. -/
def recordWidth : Nat := 33

/-! ### Cab requests (R67 to R70) -/

/-- The common checks of R67: the response that refuses, or the CAB id. -/
def cabCheck (s : State) (origin : Byte) (id : Half) : Except Reply Nat :=
  if s.loading then .error (refuse .refusedBusy)
  else
    match Origin.ofCode origin with
    | some .dispatch => .error (refuse .refusedNotOwner)
    | some .cab => if 1 ≤ id.toNat ∧ id.toNat ≤ 255 then .ok id.toNat else .error (refuse .refusedRange)
    | none => .error (refuse .refusedRange)

/-- The life as a cab request stores it: 0 is clamped to 1 (R68). -/
def clampedLife (life : Option Nat) : Option Nat := life.map fun l => max l 1

/-- The part a cab request asks for and whether a value was clipped or clamped; absent when an applies-to or a zone
refuses the request (R68, R69). -/
def cabPart (s : State) (q : RestrictionRequest) : Option (NewPart × Bool) :=
  match AppliesTo.ofCode q.appliesTo, clippedZone s q.zoneStart.toNat q.zoneEnd.toNat with
  | some a, some (zs, ze) =>
    let life := lifeOf q.lifeFlag q.life
    some
      (⟨zs, ze, min q.limit.toNat (lineMaximum s.cmc.params), a, clampedLife life⟩,
       zs != q.zoneStart.toNat || ze != q.zoneEnd.toNat || lineMaximum s.cmc.params < q.limit.toNat ||
         life == some 0)
  | _, _ => none

/-- ADD_RESTRICTION (R68). -/
def judgeAdd (q : RestrictionRequest) (s : State) : Reply × State :=
  match cabCheck s q.origin q.id with
  | .error r => refused r s
  | .ok id =>
    if (findRecord s .cab id).isSome then refused (refuse .refusedRange) s
    else
      match cabPart s q with
      | none => refused (refuse .refusedRange) s
      | some (p, clamped) =>
        match freeSlot s with
        | none => refused (refuse .refusedFull) s
        | some i =>
          let r := admitted .cab id none p
          (doneOrClamped clamped (octets1 i ++ recordOctets r), noteChange false (putSlot i (some r) s))

def execAddRestriction (q : RestrictionRequest) (s : State) : Host.Outcome State Fault Refusal :=
  .next (request 0x13 (judgeAdd q) s)

/-- AMEND_RESTRICTION (R69). -/
def judgeAmend (q : RestrictionRequest) (s : State) : Reply × State :=
  match cabCheck s q.origin q.id with
  | .error r => refused r s
  | .ok id =>
    match findRecord s .cab id with
    | none => refused (refuse .refusedNotFound) s
    | some (i, old) =>
      match cabPart s q with
      | none => refused (refuse .refusedRange) s
      | some (p, clamped) =>
        let r := amended s old none p
        (doneOrClamped clamped (octets1 i ++ recordWithState r), noteChange false (putSlot i (some r) s))

def execAmendRestriction (q : RestrictionRequest) (s : State) : Host.Outcome State Fault Refusal :=
  .next (request 0x14 (judgeAmend q) s)

/-- The outcome octet of REVOKE_RESTRICTION: RETIRED, CLEARING or UNCHANGED (R70). -/
def revokeOutcome (before : Restriction) (after : Option Restriction) : Byte :=
  match before.inForce, after with
  | none, _ => 3
  | some _, none => 1
  | some _, some _ => 2

/-- REVOKE_RESTRICTION (R70). -/
def judgeRevoke (origin : Byte) (id : Half) (s : State) : Reply × State :=
  match cabCheck s origin id with
  | .error r => refused r s
  | .ok id =>
    match findRecord s .cab id with
    | none => refused (refuse .refusedNotFound) s
    | some (i, old) =>
      let after := revoked s old
      ({ code := .done, body := octets1 i ++ [revokeOutcome old after] }, noteChange false (putSlot i after s))

def execRevokeRestriction (origin : Byte) (id : Half) (s : State) : Host.Outcome State Fault Refusal :=
  .next (request 0x15 (judgeRevoke origin id) s)

/-! ### Life and clearance (R59, R60) -/

/-- The life reaches 0 at this tick. -/
def expiresNow (r : Restriction) : Bool := r.life.any (· ≤ 1)

/-- A record after one tick: its life lowered, or its revocation when the life reaches 0 (R59). -/
def tickedRecord (s : State) (r : Restriction) : Option Restriction :=
  if expiresNow r then revoked s r else some { r with life := r.life.map (· - 1) }

/-- A change of several records at one event: the change count rises once when any of them changed by `changes`. -/
def changeRecords (changes : Restriction → Bool) (f : Restriction → Option Restriction) (s : State) : State :=
  let held := heldRecords s
  let s1 := { s with rtb.slots := s.rtb.slots.map fun o => o.bind f }
  if held.any fun x => changes x.2 then
    noteChange (held.any fun x => changes x.2 && x.2.origin == .dispatch) s1
  else s1

/-- The second counter's tick, with every expiry it brings as part of it (R59, assumption log 9); the change count rises
by 1 in all (R51). -/
def tickSecond (s : State) : State :=
  changeRecords expiresNow (tickedRecord s) { s with rtb.secondLeft := 1000 }

/-- SECOND_TICK (R59). -/
def execSecondTick (s : State) : Host.Outcome State Fault Refusal := .next (tickSecond s)

/-- The record in a slot expires when it has a life (R59). -/
def expireSlot (slot : Nat) (s : State) : State :=
  match slotRecord s slot with
  | none => s
  | some r =>
    if r.life.isSome then noteChange (r.origin == .dispatch) (putSlot slot (revoked s r) s) else s

/-- RESTRICTION_EXPIRY (R59). -/
def execRestrictionExpiry (slot : Fin 32) (s : State) : Host.Outcome State Fault Refusal :=
  .next (expireSlot slot.val s)

/-- The trailing part of a record is discarded at this speed update (R60). -/
def releasesTrailing (s : State) (r : Restriction) : Bool :=
  r.trailing.any fun t => clearOf s t.zoneStart t.zoneEnd

/-- A record after the clearance check (R60). -/
def clearedRecord (s : State) (r : Restriction) : Option Restriction :=
  if releasesTrailing s r then
    if r.inForce.isSome then some { r with trailing := none } else none
  else some r

/-- RTB takes a speed update (R60). -/
def checkClearance (s : State) : State := changeRecords (releasesTrailing s) (clearedRecord s) s

/-! ### LINE_RESET (R76) -/

/-- RTB's part of a LINE_RESET, but for the TABLE_OVERFLOW cause (R76, assumption log 4). -/
def emptyTable (s : State) : State :=
  { s with
    rtb.slots := Table.replicate 32 none, rtb.overflow := false, rtb.overflowCount := 0,
    rtb.changeCount := s.rtb.changeCount + 1 }

/-! ### What SSV and LOOKUP_LIMIT take of the table (R71, R74) -/

/-- A part that applies to a direction, as SSV and LOOKUP_LIMIT take it (R71). -/
structure AppliedPart where
  name      : PartName
  zoneStart : Nat
  zoneEnd   : Nat
  limit     : Nat
deriving DecidableEq, Repr

/-- The parts of one record that apply to a direction, the in-force part first. -/
def recordParts (w : Way) (slot : Nat) (r : Restriction) : List AppliedPart :=
  (match r.inForce with
   | some p =>
     if r.appliesTo.includes w then [⟨⟨slot, r.origin, r.id, true⟩, p.zoneStart, p.zoneEnd, p.limit⟩] else []
   | none => []) ++
  (match r.trailing with
   | some p =>
     if p.appliesTo.includes w then [⟨⟨slot, r.origin, r.id, false⟩, p.zoneStart, p.zoneEnd, p.limit⟩] else []
   | none => [])

/-- The parts that apply to a direction, in ascending slot order, the in-force part of a record first. -/
def appliedParts (s : State) (w : Way) : List AppliedPart :=
  (heldRecords s).flatMap fun x => recordParts w x.1 x.2

end Sys2Proof.Machine
end

