-- ==== Sys2Proof/Machine/Radio.lean ====
section
/-! DEFINITION. The Valley Radio Link: the dialogue and its lists, windows and transmissions, the telegrams and
their handing on, the receiver, notices and radio errors (chapters 10 and 11). -/

namespace Sys2Proof.Machine

/-! ### The restriction list (R72, R188) -/

/-- An entry of the list: id and stored sequence (R72). -/
structure ListEntry where
  id       : Nat
  sequence : Byte
deriving DecidableEq, Repr

/-- An entry put in its place in a list that ascends by id. -/
def insertEntry (e : ListEntry) : List ListEntry → List ListEntry
  | [] => [e]
  | x :: rest => if e.id ≤ x.id then e :: x :: rest else x :: insertEntry e rest

/-- The DISPATCH records held, in ascending order of id (R72). -/
def listEntries (s : State) : List ListEntry :=
  ((heldRecords s).filter fun x => x.2.origin == .dispatch).foldr
    (fun x l => insertEntry ⟨x.2.id, x.2.sequence.getD 0⟩ l) []

/-- The body of one page (R185). -/
def pageBody (page count : Nat) (sequence : Byte) (entries : List ListEntry) : List Byte :=
  octets1 page ++ octets1 count ++ [sequence] ++ octets1 entries.length ++
  entries.flatMap fun e => octets2 e.id ++ [e.sequence]

/-- The pages of a list: one for up to 16 entries, two otherwise (R188). -/
def pages (sequence : Byte) (entries : List ListEntry) : List (List Byte) :=
  if entries.length ≤ 16 then [pageBody 1 1 sequence entries]
  else [pageBody 1 2 sequence (entries.take 16), pageBody 2 2 sequence (entries.drop 16)]

/-- VRL builds a list and queues its pages in place of those of an older list (R177, R188). -/
def buildList (s : State) : State :=
  let q := s.vrl.listCounter + 1
  let s1 := dropPages { s with vrl.listCounter := q, vrl.currentList := some q }
  (pages q (listEntries s1)).foldl (fun s body => enqueueTail .restrictList body s) s1

/-! ### The dialogue (R186 to R191) -/

/-- Entry to UNJOINED from another state (R186). -/
def enterUnjoined (s : State) : State :=
  if s.vrl.dialogue = .unjoined then s
  else putBlanket true .linkSilence (raise .dialogue { s with vrl.dialogue := .unjoined })

/-- Entry to REPORTING (R186). -/
def enterReporting (s : State) : State := buildList (raise .dialogue { s with vrl.dialogue := .reporting })

/-- Entry to JOINED: both radio causes go, and every list page leaves the queue (R186). -/
def enterJoined (s : State) : State :=
  dropPages (clearOverflow (putBlanket false .linkSilence (raise .dialogue { s with vrl.dialogue := .joined })))

/-- The dialogue takes a NAK FULL (R189). -/
def dialogueNakFull (s : State) : State :=
  match s.vrl.dialogue with
  | .unjoined => s
  | .reporting => buildList s
  | .joined => enterReporting s

/-! ### Transmission (R175) -/

/-- The octets of a frame on the air (R164). -/
def airFrame (destination source kind sequence : Byte) (body : List Byte) : List Byte :=
  let checked := octets1 (4 + body.length) ++ [destination, source, kind, sequence] ++ body
  halfOctets Config.syncWord ++ checked ++ halfOctets (crc16 checked)

/-- VRL asserts TXEN and sends a telegram; the receiver returns to SEARCH (R167, R175). -/
def transmit (kind : SentKind) (sequence : Byte) (body : List Byte) (s : State) : State :=
  { s with
    vrl.transmission := some
      { octets := airFrame 0 (BitVec.ofNat 8 (carNumber s.cmc.params)) kind.kindCode sequence body,
        rate := bitRate s.cmc.params },
    vrl.receiver := emptySearch,
    vrl.lastWindow := some (.used kind sequence) }

/-- The body of POSITION (R185). -/
def positionBody (s : State) : List Byte :=
  let r := s.odo.report
  [r.status.code] ++ octets4 r.nominal ++ octets4 r.uncertainty ++ octets2 r.speed ++
  [r.travel.code, s.cmc.mode.code, (s.vrl.beacon.elim 0 BeaconContext.zone), s.ssv.state.code]

/-- A window sends a POSITION: built now, with the next uplink sequence; the window count becomes 0 (R174, R176). -/
def sendPosition (s : State) : State :=
  transmit .position (s.vrl.uplinkCounter + 1) (positionBody s)
    { s with vrl.uplinkCounter := s.vrl.uplinkCounter + 1, vrl.windowCount := 0 }

/-- The window ends without a telegram. -/
def noTelegram (o : WindowOutcome) (s : State) : State := { s with vrl.lastWindow := some o }

/-- The report interval has been reached (R174, case 6). -/
def reportDueNow (s : State) : Bool := s.vrl.beacon.any fun b => b.interval ≤ s.vrl.windowCount

/-- The choice of a window in REPORTING or JOINED with a free channel, its count raised already (R174, cases 3
to 7). -/
def chooseTelegram (s : State) : State :=
  if s.vrl.pollMark then sendPosition { s with vrl.pollMark := false }
  else
    match s.vrl.queue with
    | h :: rest =>
      if 4 ≤ h.attempts then
        noTelegram .unused (enterUnjoined { s with vrl.queue := { h with attempts := 0 } :: rest })
      else
        transmit (.queued h.kind) h.sequence h.body
          { s with vrl.queue := { h with attempts := h.attempts + 1 } :: rest }
    | [] => if reportDueNow s then sendPosition s else noTelegram .unused s

/-- The start of the car's window (R174); CHBUSY as VRL holds it. -/
def startWindow (s : State) : State :=
  let s0 := { s with vrl.windowTimer := none }
  if s.vrl.dialogue = .unjoined then noTelegram .unused s0
  else
    let s1 := { s0 with vrl.windowCount := countUp8 s.vrl.windowCount }
    if s.vrl.chBusy then noTelegram .missed { s1 with vrl.missedCount := countUp s.vrl.missedCount }
    else chooseTelegram s1

/-- WINDOW_START (R174); with no window scheduled nothing starts. -/
def execWindowStart (busy : Bool) (s : State) : Host.Outcome State Fault Refusal :=
  .next (if s.vrl.windowTimer.isSome then startWindow { s with vrl.chBusy := busy } else s)

/-- TRANSMISSION_END (R167, R175). -/
def execTransmissionEnd (s : State) : Host.Outcome State Fault Refusal :=
  .next (if s.transmitting then { s with vrl.transmission := none, vrl.receiver := emptySearch } else s)

/-! ### Radio errors (R170) -/

/-- A radio error latches (R170). -/
def latchError (e : RadioError) (s : State) : State := raise .radio { s with vrl.errors := s.vrl.errors.latch e }

/-- The latched set and its three counts (R170, R197). -/
def errorOctets (e : RadioErrors) : List Byte :=
  halfOctets e.bits ++ octets2 e.framingCount ++ octets2 e.checkCount ++ octets2 e.overrunCount

/-- CLEAR_RADIO_ERRORS (R170). -/
def judgeClearErrors (s : State) : Reply × State :=
  ({ code := .done, body := errorOctets s.vrl.errors }, { s with vrl.errors := noErrors })

def execClearRadioErrors (s : State) : Host.Outcome State Fault Refusal := .next (request 0x25 judgeClearErrors s)

/-! ### Telegrams (R168, R169, R184) -/

/-- A downlink telegram with its fields (R184). -/
inductive Telegram where
  | beacon (fields : BeaconFields)
  | restrict (fields : RestrictFields)
  | revoke (id : Half) (sequence : Byte)
  | syncDone (answered : Byte)
  | doorRelease (station side : Byte)
  | doorWithdraw (station : Byte)
  | poll
  | notice (number : Byte) (text : List Byte)
  | ack (sequence : Byte)
deriving DecidableEq, Repr

/-- The kind code of a downlink telegram (R168). -/
def Telegram.kindCode : Telegram → Byte
  | .beacon _ => 0x01 | .restrict _ => 0x02 | .revoke .. => 0x03 | .syncDone _ => 0x04 | .doorRelease .. => 0x05
  | .doorWithdraw _ => 0x06 | .poll => 0x07 | .notice .. => 0x08 | .ack _ => 0x09

/-- A kind code is that of an uplink kind (R168). -/
def uplinkKindCode (k : Byte) : Bool := k == 0x81 || k == 0x82 || k == 0x83 || k == 0x84 || k == 0x85

/-- The fields of a body of a kind, absent when the kind is not in the table or the body has not the kind's length
(R168, R184). -/
def parseTelegram (kind : Byte) (body : List Byte) : Option Telegram :=
  if kind = 0x01 then
    match body with
    | [z, n, l1, l0, i] => some (.beacon ⟨z, n, half l1 l0, i⟩)
    | _ => none
  else if kind = 0x02 then
    match body with
    | [i1, i0, q, a3, a2, a1, a0, b3, b2, b1, b0, t, v1, v0, f, l1, l0] =>
      some (.restrict ⟨half i1 i0, q, word a3 a2 a1 a0, word b3 b2 b1 b0, t, half v1 v0, f, half l1 l0⟩)
    | _ => none
  else if kind = 0x03 then
    match body with
    | [i1, i0, q] => some (.revoke (half i1 i0) q)
    | _ => none
  else if kind = 0x04 then
    match body with
    | [a] => some (.syncDone a)
    | _ => none
  else if kind = 0x05 then
    match body with
    | [st, sd] => some (.doorRelease st sd)
    | _ => none
  else if kind = 0x06 then
    match body with
    | [st] => some (.doorWithdraw st)
    | _ => none
  else if kind = 0x07 then
    match body with
    | [] => some .poll
    | _ => none
  else if kind = 0x08 then
    match body with
    | n :: t => some (.notice n t)
    | [] => none
  else if kind = 0x09 then
    match body with
    | [q] => some (.ack q)
    | _ => none
  else none

/-- The octets of a telegram's body (R184). -/
def Telegram.body : Telegram → List Byte
  | .beacon f => [f.zone, f.slotCount] ++ halfOctets f.slotLength ++ [f.interval]
  | .restrict f =>
    halfOctets f.id ++ [f.sequence] ++ wordOctets f.zoneStart ++ wordOctets f.zoneEnd ++ [f.appliesTo] ++
    halfOctets f.limit ++ [f.lifeFlag] ++ halfOctets f.life
  | .revoke id q => halfOctets id ++ [q]
  | .syncDone a => [a]
  | .doorRelease st sd => [st, sd]
  | .doorWithdraw st => [st]
  | .poll => []
  | .notice n t => n :: t
  | .ack q => [q]

/-- What R168 asks of the fields themselves: a BEACON's ranges (R172) and a NOTICE's text length (R184). -/
def Telegram.fieldsInRange : Telegram → Bool
  | .beacon f =>
    1 ≤ f.zone.toNat && f.zone.toNat ≤ 63 && 1 ≤ f.slotCount.toNat && f.slotCount.toNat ≤ 16 &&
    20 ≤ f.slotLength.toNat && f.slotLength.toNat ≤ 500 && 1 ≤ f.interval.toNat && f.interval.toNat ≤ 16
  | .notice _ t => 1 ≤ t.length && t.length ≤ 48
  | _ => true

/-- The car's slot in a beacon (R172). -/
def carSlot (s : State) (slotCount : Nat) : Nat := carNumber s.cmc.params % slotCount

/-- VRL takes a BEACON: the context, the window timer, the dialogue, and the window itself in slot 0 (R172, R187). -/
def takeBeacon (f : BeaconFields) (s : State) : State :=
  let slot := carSlot s f.slotCount.toNat
  let s1 :=
    { s with
      vrl.beacon := some
        { zone := f.zone, slotCount := f.slotCount.toNat, slotLength := f.slotLength.toNat,
          interval := f.interval.toNat, slot := slot },
      vrl.windowTimer := some (slot * f.slotLength.toNat) }
  let s2 := if s1.vrl.dialogue = .unjoined then enterReporting s1 else s1
  if slot = 0 then startWindow s2 else s2

/-- The body of RESTRICT_REPLY (R185). -/
def replyBody (id : Half) (sequence : Byte) (o : ReplyOutcome) : List Byte :=
  halfOctets id ++ [sequence] ++
  match o with
  | .ack => [0, 0]
  | .nak .invalid => [1, 1]
  | .nak .stale => [1, 2]
  | .nak .full => [1, 3]

/-- The admission gate: a RESTRICT or REVOKE is handed to RTB only while fewer than 6 replies are queued (R178). -/
def throughGate (take : State → State) (s : State) : State :=
  if countKind .restrictReply s.vrl.queue < 6 then take s
  else { s with vrl.gateCount := countUp s.vrl.gateCount }

/-- A RESTRICT that passes the gate: RTB's judgement, its reply, and at a NAK FULL the dialogue's list, in either
order (R64, R177, R189). -/
def takeRestrictTelegram (f : RestrictFields) (listFirst : Bool) (s : State) : State :=
  let r := takeRestrict f s
  let enqueue := enqueueTail .restrictReply (replyBody f.id f.sequence r.1)
  if r.1 = .nak .full then
    if listFirst then enqueue (dialogueNakFull r.2) else dialogueNakFull (enqueue r.2)
  else enqueue r.2

/-- A REVOKE that passes the gate (R66, R177). -/
def takeRevokeTelegram (id : Half) (sequence : Byte) (s : State) : State :=
  let r := takeRevoke id sequence s
  enqueueTail .restrictReply (replyBody id sequence r.1) r.2

/-- The dialogue takes a SYNC_DONE (R190). -/
def takeSyncDone (answered : Byte) (s : State) : State :=
  if s.vrl.dialogue = .reporting ∧ s.vrl.currentList = some answered then enterJoined s else s

/-- The uplink queue takes an ACK: a match with the head removes it (R179). -/
def takeAck (sequence : Byte) (s : State) : State :=
  match s.vrl.queue with
  | [] => s
  | h :: rest => if h.sequence = sequence then { s with vrl.queue := rest } else s

/-- The most notices held (R180). -/
def noticePlaces : Nat := 4

/-- NOTICE is raised when the notices queued have reached the threshold (R180). -/
def noticeAttention (s : State) : State :=
  if noticeThreshold s.cmc.params ≤ s.vrl.notices.length then raise .notice s else s

/-- The notice queue takes a NOTICE (R180). -/
def takeNotice (source number : Byte) (text : List Byte) (s : State) : State :=
  if s.vrl.lastNotice = some number then s
  else
    let s1 := { s with vrl.lastNotice := some number }
    if s.vrl.notices.length < noticePlaces then
      noticeAttention { s1 with vrl.notices := s.vrl.notices ++ [⟨number, text, source, false⟩] }
    else
      noticeAttention
        (latchError .overrun
          { s1 with vrl.notices := s.vrl.notices.take (noticePlaces - 1) ++ [⟨number, text, source, true⟩] })

/-- A valid telegram is handed to its owner (R169). -/
def handTelegram (source : Byte) (listFirst : Bool) (t : Telegram) (s : State) : State :=
  match t with
  | .beacon f => takeBeacon f s
  | .restrict f => throughGate (takeRestrictTelegram f listFirst) s
  | .revoke id q => throughGate (takeRevokeTelegram id q) s
  | .syncDone a => takeSyncDone a s
  | .doorRelease st sd => takeDoorRelease st sd s
  | .doorWithdraw st => takeDoorWithdraw st s
  | .poll => { s with vrl.pollMark := true }
  | .notice n text => takeNotice source n text s
  | .ack q => takeAck q s

/-- The frame is another car's (R168). -/
def dropForeign (s : State) : State := { s with vrl.foreignCount := countUp s.vrl.foreignCount }

/-- The frame is malformed (R168). -/
def dropMalformed (s : State) : State := { s with vrl.malformedCount := countUp s.vrl.malformedCount }

/-- A valid telegram: its count, the silence timer, the last source and link sequence (R168, R171). -/
def noteValid (source sequence : Byte) (s : State) : State :=
  { s with
    vrl.validCount := countUp s.vrl.validCount, vrl.silenceTimer := some (silenceTimeout s.cmc.params * 1000),
    vrl.lastSource := some source, vrl.lastSequence := some sequence }

/-- Addressed to this car: destination 0 or the car number (R168). -/
def addressed (s : State) (destination : Byte) : Bool :=
  destination == 0 || destination.toNat == carNumber s.cmc.params

/-- The header judgement of a frame of a downlink kind, or of no kind, with the fields its body spells (R168). -/
def judgeHeader (h : Header) (t : Option Telegram) (listFirst : Bool) (s : State) : State :=
  if !addressed s h.destination then dropForeign s
  else
    match t with
    | none => dropMalformed s
    | some t =>
      if 63 < h.source.toNat || !t.fieldsInRange then dropMalformed s
      else handTelegram h.source listFirst t (noteValid h.source h.linkSequence s)

/-- The judgement of a frame that has passed its CRC (R168). -/
def judgeFrame (f : Frame) (s : State) : State :=
  if uplinkKindCode f.kind then dropForeign s
  else judgeHeader ⟨f.destination, f.source, f.linkSequence⟩ (parseTelegram f.kind f.body) false s

/-- A frame of a downlink telegram completes: while VRL sends it hears nothing (R167); otherwise the receiver
returns to SEARCH and the header is judged (R166, R168). -/
def telegramArrives (h : Header) (t : Telegram) (listFirst : Bool) (s : State) : State :=
  if s.transmitting then s
  else judgeHeader h (some t) listFirst { s with vrl.receiver := emptySearch }

/-! ### The telegram commands -/

/-- BEACON (R172). -/
def execBeacon (h : Header) (f : BeaconFields) (busy : Bool) (s : State) : Host.Outcome State Fault Refusal :=
  .next (if s.transmitting then s
    else telegramArrives h (.beacon f) false { s with vrl.chBusy := busy })

/-- RESTRICT (R64, R178). -/
def execRestrict (h : Header) (f : RestrictFields) (listFirst : Bool) (s : State) :
    Host.Outcome State Fault Refusal :=
  .next (telegramArrives h (.restrict f) listFirst s)

/-- REVOKE (R66, R178). -/
def execRevoke (h : Header) (id : Half) (sequence : Byte) (s : State) : Host.Outcome State Fault Refusal :=
  .next (telegramArrives h (.revoke id sequence) false s)

/-- SYNC_DONE (R190). -/
def execSyncDone (h : Header) (answered : Byte) (s : State) : Host.Outcome State Fault Refusal :=
  .next (telegramArrives h (.syncDone answered) false s)

/-- DOOR_RELEASE (R146). -/
def execDoorRelease (h : Header) (station side : Byte) (s : State) : Host.Outcome State Fault Refusal :=
  .next (telegramArrives h (.doorRelease station side) false s)

/-- DOOR_WITHDRAW (R147). -/
def execDoorWithdraw (h : Header) (station : Byte) (s : State) : Host.Outcome State Fault Refusal :=
  .next (telegramArrives h (.doorWithdraw station) false s)

/-- POLL (R169). -/
def execPoll (h : Header) (s : State) : Host.Outcome State Fault Refusal := .next (telegramArrives h .poll false s)

/-- NOTICE (R180). -/
def execNotice (h : Header) (number : Byte) (text : List Byte) (s : State) : Host.Outcome State Fault Refusal :=
  .next (telegramArrives h (.notice number text) false s)

/-- ACK (R179). -/
def execAck (h : Header) (sequence : Byte) (s : State) : Host.Outcome State Fault Refusal :=
  .next (telegramArrives h (.ack sequence) false s)

/-- SILENCE_EXPIRY (R171, R191). -/
def execSilenceExpiry (s : State) : Host.Outcome State Fault Refusal :=
  .next (if s.vrl.silenceTimer.isSome then enterUnjoined { s with vrl.silenceTimer := none } else s)

/-! ### The receiver (R165 to R167) -/

/-- FRAMING latches and the receiver returns to SEARCH (R165). -/
def dropBadLength (s : State) : State := latchError .framing { s with vrl.receiver := emptySearch }

/-- CHECK latches and the receiver returns to SEARCH (R166). -/
def dropBadCheck (s : State) : State := latchError .check { s with vrl.receiver := emptySearch }

/-- FRAMING (R165). -/
def execFraming (s : State) : Host.Outcome State Fault Refusal :=
  .next (if s.transmitting then s else dropBadLength s)

/-- CHECK (R166). -/
def execCheck (s : State) : Host.Outcome State Fault Refusal :=
  .next (if s.transmitting then s else dropBadCheck s)

/-- FRAME_DROPPED (R168), with CHBUSY as it stands then, for a window that starts at it (R172, R174). -/
def execFrameDropped (f : Arrival Frame) (s : State) : Host.Outcome State Fault Refusal :=
  .next (if s.transmitting then s
    else judgeFrame f.what { s with vrl.receiver := emptySearch, vrl.chBusy := f.busy })

/-- One more bit of an octet in progress, most significant first (R164). -/
def shiftOctet (o : Byte) (bit : Bool) : Byte := (o <<< 1) ||| (if bit then 1 else 0)

/-- The comparison history with one more bit (R165). -/
def shiftHistory (h : Half) (bit : Bool) : Half := (h <<< 1) ||| (if bit then 1 else 0)

/-- A completed frame: its CRC is compared, and a good one is judged (R166). -/
def completeFrame (length : Byte) (octets : List Byte) (crc : Half) (s : State) : State :=
  if crc16 (length :: octets) = crc then
    match octets with
    | d :: src :: k :: q :: body => judgeFrame ⟨d, src, k, q, body⟩ { s with vrl.receiver := emptySearch }
    | _ => { s with vrl.receiver := emptySearch }
  else dropBadCheck s

/-- The receiver takes a bit (R165, R166). -/
def takeBit (bit : Bool) (s : State) : State :=
  match s.vrl.receiver with
  | .search history =>
    let h := shiftHistory history bit
    { s with vrl.receiver := if h = Config.syncWord then .length 0 0 else .search h }
  | .length count octet =>
    let o := shiftOctet octet bit
    if count < 7 then { s with vrl.receiver := .length (count + 1) o }
    else if 4 ≤ o.toNat ∧ o.toNat ≤ 68 then { s with vrl.receiver := .body o [] 0 0 }
    else dropBadLength s
  | .body length octets count octet =>
    let o := shiftOctet octet bit
    if count < 7 then { s with vrl.receiver := .body length octets (count + 1) o }
    else
      let taken := octets ++ [o]
      if taken.length < length.toNat then { s with vrl.receiver := .body length taken 0 0 }
      else { s with vrl.receiver := .check length taken [] 0 0 }
  | .check length octets crc count octet =>
    let o := shiftOctet octet bit
    if count < 7 then { s with vrl.receiver := .check length octets crc (count + 1) o }
    else
      match crc with
      | [] => { s with vrl.receiver := .check length octets [o] 0 0 }
      | hi :: _ => completeFrame length octets (half hi o) s

/-- RECEIVED_BIT (R165), with CHBUSY as it stands then, for a window that starts at the frame it completes (R172,
R174); while VRL sends it takes no bit (R167). -/
def execReceivedBit (bit : Arrival Bool) (s : State) : Host.Outcome State Fault Refusal :=
  .next (if s.transmitting then s else takeBit bit.what { s with vrl.chBusy := bit.busy })

/-! ### LINE_RESET (R183, R193) -/

/-- VRL's part of a LINE_RESET. -/
def resetRadio (s : State) : State :=
  let s1 := enterUnjoined s
  { s1 with
    vrl.queue := [], vrl.notices := [], vrl.lastNotice := none, vrl.beacon := none, vrl.windowTimer := none,
    vrl.windowCount := 255, vrl.pollMark := false, vrl.currentList := none }

end Sys2Proof.Machine
end

