-- ==== Sys2Proof/Machine/Supervision.lean ====
section
/-! DEFINITION. The Speed Supervisor: the permitted speed with its braking curves and the supervision record
(chapter 5), the intervention state (chapter 6), and the speed update that ODO hands on (R29, R30). -/

namespace Sys2Proof.Machine

/-! ### The integer square root (R90) -/

/-- The greatest number whose square does not exceed `n`, found bit by bit below bit `k` from `root` on. -/
def rootFrom (n : Nat) : Nat → Nat → Nat
  | 0, root => root
  | k + 1, root => rootFrom n k (if (root + 2 ^ k) * (root + 2 ^ k) ≤ n then root + 2 ^ k else root)

/-- The integer square root of a 48-bit radicand, rounded down (R90). -/
def squareRoot (n : Nat) : Nat := rootFrom n 24 0

/-! ### Local limits (R81, R92, R93) -/

/-- A limit with the item that sets it. -/
structure LocalLimit where
  limit : Nat
  item  : Governing
deriving DecidableEq, Repr

/-- The line maximum and the limits of the active blankets, in the order of R94. -/
def globalLimits (s : State) : List LocalLimit :=
  ⟨lineMaximum s.cmc.params, .lineMaximum⟩ ::
  ((Blanket.all.filter (seenBlankets s).has).map fun b => ⟨blanketLimit s.cmc.params b, .blanket b⟩)

/-- The base limits, for a direction, of the segments that meet the span (R81). -/
def segmentLimits (s : State) (w : Way) (low high : Nat) : List LocalLimit :=
  (overlapping s low high).map fun g => ⟨g.record.limit w, .segment g.index⟩

/-- A zone meets the span (R81). -/
def meets (p : AppliedPart) (low high : Nat) : Bool := p.zoneStart ≤ high && low < p.zoneEnd

/-- The limits of the parts that apply to a direction and meet the span (R81). -/
def partLimits (s : State) (w : Way) (low high : Nat) : List LocalLimit :=
  ((appliedParts s w).filter fun p => meets p low high).map fun p => ⟨p.limit, .part p.name⟩

/-- The lowest limit of a list that starts with the line maximum. -/
def lowestLimit (start : Nat) (limits : List LocalLimit) : Nat := limits.foldl (fun v l => min v l.limit) start

/-- The first item of a list whose limit is `v` (R94). -/
def firstItem (limits : List LocalLimit) (v : Nat) : Option Governing :=
  (limits.find? fun l => l.limit == v).map LocalLimit.item

/-! ### Targets (R82 to R85) -/

/-- A target: its place, its speed, its distance, its braking span, and the item it stands for. -/
structure Target where
  position : Nat
  speed    : Nat
  distance : Nat
  spanLow  : Nat
  spanHigh : Nat
  item     : Governing
deriving DecidableEq, Repr

/-- The line-end target of a direction (R84). -/
def endTarget (s : State) (w : Way) (low high : Nat) : List Target :=
  let l := lineLength s
  let a := lookahead s.cmc.params
  match w with
  | .up => if l ≤ high + a then [⟨l, 0, l - high, low, l, .lineEnd⟩] else []
  | .down => if low ≤ a then [⟨0, 0, low, 0, high, .lineEnd⟩] else []

/-- A target at a place ahead with a limit and an item, when it lies within the lookahead (R82, R83). -/
def targetAt (s : State) (w : Way) (low high place limit : Nat) (item : Governing) : List Target :=
  let a := lookahead s.cmc.params
  match w with
  | .up => if high < place ∧ place ≤ high + a then [⟨place, limit, place - high, low, place, item⟩] else []
  | .down => if low ≤ place + a ∧ place ≤ low then [⟨place, limit, low - place, place, high, item⟩] else []

/-- The segment targets: starts for UP, ends for DOWN; the last segment has no end (R82, R83). -/
def segmentTargets (s : State) (w : Way) (low high : Nat) : List Target :=
  (segments s).flatMap fun g =>
    match w with
    | .up => targetAt s .up low high g.start (g.record.limit .up) (.segment g.index)
    | .down => if g.last then [] else targetAt s .down low high g.finish (g.record.limit .down) (.segment g.index)

/-- The part targets: zone starts for UP, zone ends for DOWN (R82, R83). -/
def partTargets (s : State) (w : Way) (low high : Nat) : List Target :=
  (appliedParts s w).flatMap fun p =>
    match w with
    | .up => targetAt s .up low high p.zoneStart p.limit (.part p.name)
    | .down => targetAt s .down low high p.zoneEnd p.limit (.part p.name)

/-- Every target of a direction in the order that decides at equal distance: line end, segments, parts in
ascending slot order (R94). -/
def targets (s : State) (w : Way) (low high : Nat) : List Target :=
  endTarget s w low high ++ segmentTargets s w low high ++ partTargets s w low high

/-! ### The braking curve of one target (R86 to R90) -/

/-- The gradient in the direction of travel (R86). -/
def directedGradient (w : Way) (r : SegmentRecord) : Int :=
  match w with
  | .up => r.slope
  | .down => -r.slope

/-- The worst gradient of the segments of a braking span (R86). -/
def worstGradient (w : Way) : List Located → Int
  | [] => 0
  | g :: rest => rest.foldl (fun z x => min z (directedGradient w x.record)) (directedGradient w g.record)

/-- The gravity term: 9.81 mm/s² for each per mille of descent, rounded up (R86). -/
def gravityTerm (worst : Int) : Nat := ((-worst).toNat * 981 + 99) / 100

/-- The deceleration kind: adhesion when any segment of the span is ADHESION (R87), the emergency figure when the
SERVICE channel is FAILED or UNTESTED (R88). -/
def decelerationKind (health : Health) (adhesion : Bool) : DecelerationKind :=
  match health, adhesion with
  | .ok, false => .rackService
  | .ok, true => .adhesionService
  | .degraded, false => .rackService
  | .degraded, true => .adhesionService
  | .failed, false => .rackEmergency
  | .failed, true => .adhesionEmergency
  | .untested, false => .rackEmergency
  | .untested, true => .adhesionEmergency

/-- The gross deceleration parameter of a kind (R78). -/
def grossDeceleration (p : Table Nat 52) : DecelerationKind → Nat
  | .rackService => rackService p
  | .rackEmergency => rackEmergency p
  | .adhesionService => adhesionService p
  | .adhesionEmergency => adhesionEmergency p

/-- The gross deceleration used: the degraded factor applies to a DEGRADED channel only (R88). -/
def usedDeceleration (p : Table Nat 52) (health : Health) (adhesion : Bool) : Nat :=
  let a := grossDeceleration p (decelerationKind health adhesion)
  match health with
  | .degraded => a * degradedFactor p / 100
  | .ok => a
  | .failed => a
  | .untested => a

/-- The reaction distance, rounded up (R89). -/
def reactionDistance (p : Table Nat 52) (v : Nat) : Nat := (v * reactionTime p + 999) / 1000

/-- The curve of a target: its speed, and what the record holds of it (R86 to R90). -/
structure Curve where
  speed  : Nat
  record : TargetRecord
  item   : Governing
deriving DecidableEq, Repr

/-- The curve speed (R90): the target's own speed below the deceleration floor, otherwise the root of the radicand
held at the line maximum. -/
def curveSpeed (floor maximum target effectiveDistance : Nat) (effective : Int) : Nat :=
  if effective < floor then target
  else
    let radicand := target * target + 2 * effective.toNat * effectiveDistance
    if maximum * maximum ≤ radicand then maximum else squareRoot radicand

def curve (s : State) (w : Way) (v : Nat) (t : Target) : Curve :=
  let p := s.cmc.params
  let health := s.brc.service.health
  let span := overlapping s t.spanLow t.spanHigh
  let adhesion := span.any fun g => g.record.track == some .adhesion
  let worst := worstGradient w span
  let effective : Int := (usedDeceleration p health adhesion : Int) - (gravityTerm worst : Int)
  let dEff := t.distance - reactionDistance p v
  { speed := curveSpeed (decelerationFloor p) (lineMaximum p) t.speed dEff effective,
    record :=
      { position := t.position, targetSpeed := t.speed, distance := t.distance, effectiveDistance := dEff,
        worstGradient := worst, gravity := gravityTerm worst, kind := decelerationKind health adhesion,
        effectiveDeceleration := effective, floorApplied := decide (effective < decelerationFloor p) },
    item := t.item }

/-! ### The permitted speed of one pass (R91, R94) -/

/-- The governing curve: the one of least distance among those whose speed is `v`, the first at equal distance. -/
def governingCurve (curves : List Curve) (v : Nat) : Option Curve :=
  (curves.filter fun c => c.speed == v).foldl (fun best c =>
    match best with
    | none => some c
    | some b => if c.record.distance < b.record.distance then some c else some b) none

/-- The record of a pass from its local limits and the curves of its targets (R91, R94). -/
def passRecord (evaluation : Evaluation) (w : Way) (v : Nat) (limits : List LocalLimit) (start : Nat)
    (curves : List Curve) : SupervisionRecord :=
  let vLoc := lowestLimit start limits
  let vPerm := curves.foldl (fun m c => min m c.speed) vLoc
  let target := if vPerm = vLoc then none else governingCurve curves vPerm
  { evaluation := evaluation, direction := w, localLimit := vLoc, permitted := vPerm, speed := v,
    governing := match target with
      | none => firstItem limits vLoc
      | some c => some c.item,
    target := target.map Curve.record, targets := curves.length }

/-- The computation for one direction: FULL (R80 to R91), NO_POSITION (R93) or SHUNT (R92). -/
def computePass (s : State) (v : Nat) (w : Way) : SupervisionRecord :=
  let start := lineMaximum s.cmc.params
  if s.cmc.mode = .shunt then
    let parts := match s.odo.status, carSpan s with
      | .valid, some (low, high) => partLimits s w low high
      | _, _ => []
    passRecord .shunt w v (globalLimits s ++ parts) start []
  else
    match carSpan s with
    | none => passRecord .noPosition w v (globalLimits s) start []
    | some (low, high) =>
      let limits := globalLimits s ++ segmentLimits s w low high ++ partLimits s w low high
      let vLoc := lowestLimit start limits
      passRecord .full w v limits start
        (((targets s w low high).filter fun t => t.speed < vLoc).map (curve s w v))

/-- The computation of an update: with NEUTRAL selected both passes, the lower result governing and UP at equal
results (R79, R94). -/
def computeRecord (s : State) (v : Nat) : SupervisionRecord :=
  match s.cmc.selected with
  | .up => computePass s v .up
  | .down => computePass s v .down
  | .neutral =>
    let u := computePass s v .up
    let d := computePass s v .down
    if d.permitted < u.permitted then d else u

/-! ### The intervention state (R100 to R107) -/

/-- A change of the intervention state raises SUPERVISION (R109). -/
def setIntervention (st : Intervention) (s : State) : State :=
  if s.ssv.state = st then s else raise .supervision { s with ssv.state := st }

/-- SSV places or withdraws the INTERVENTION demand, and BRC forms its demands again (R105). -/
def placeDemand (level : Option Nat) (s : State) : State :=
  settle { s with brc.demands := { s.brc.demands with intervention := level } }

/-- Entry to EMERGENCY_INTERVENTION: OVERSPEED enters the latch, and then the demand is withdrawn (R106; the order
within the entry is assumption log 12), so that SVSET does not fall between the two (R117). -/
def enterEmergency (s : State) : State := placeDemand none (addLatchCause .overspeed (setIntervention .emergency s))

/-- Entry to SERVICE_INTERVENTION: both marks reset and the demand placed (R101, R105). -/
def enterServiceIntervention (s : State) : State :=
  placeDemand (some (interventionDemand s.cmc.params))
    (setIntervention .service { s with ssv.acknowledged := false, ssv.released := false })

/-- A service intervention ends: NORMAL, the demand withdrawn (R103, R104). -/
def endIntervention (s : State) : State := placeDemand none (setIntervention .normal s)

/-- The SERVICE channel cannot carry an intervention: FAILED or UNTESTED (R102). -/
def serviceUnusable (s : State) : Bool := s.brc.service.health == .failed || s.brc.service.health == .untested

/-- The evaluation at an update, with the speed and the permitted speed of the update (R100 to R103, R106). -/
def evaluate (v vPerm : Nat) (s : State) : State :=
  let p := s.cmc.params
  let excess : Bool := vPerm + emergencyMargin p < v
  let s1 := { s with ssv.overspeed := excess }
  match s.ssv.state with
  | .emergency => addLatchIf excess .overspeed s1
  | .service =>
    let released : Bool := v ≤ vPerm - releaseHysteresis p
    let s2 := { s1 with ssv.released := released }
    if excess || (!released && serviceUnusable s) then enterEmergency s2
    else if released && s.ssv.acknowledged then endIntervention s2
    else placeDemand (some (interventionDemand p)) s2
  | .normal | .warning =>
    if excess then enterEmergency s1
    else if vPerm + serviceMargin p < v then
      if serviceUnusable s then enterEmergency s1 else enterServiceIntervention s1
    else if vPerm < v then setIntervention .warning s1
    else setIntervention .normal s1

/-- SSV takes a speed update (R77, R100). -/
def superviseUpdate (s : State) : State :=
  if s.cmc.mode.supervised then
    let r := computeRecord s s.odo.speed
    evaluate s.odo.speed r.permitted { s with ssv.permitted := r.permitted, ssv.record := r }
  else s

/-- SSV without supervision: NORMAL with the marks and the overspeed condition cleared, no INTERVENTION demand,
V_perm 0 and the record IDLE (R8, R95, R110, R111); BRC has yet to form its demands again. -/
def clearSupervision (s : State) : State :=
  let s1 := setIntervention .normal
    { s with
      ssv.acknowledged := false, ssv.released := false, ssv.overspeed := false, ssv.permitted := 0,
      ssv.record := idleRecord }
  { s1 with brc.demands := { s1.brc.demands with intervention := none } }

/-- SSV ends supervision, and BRC forms its demands again (R110, R111, R117). -/
def endSupervision (s : State) : State := settle (clearSupervision s)

/-- ACK_INTERVENTION (R104). -/
def takeAcknowledgement (s : State) : State :=
  if s.ssv.state = .service then
    if s.ssv.released then endIntervention s else { s with ssv.acknowledged := true }
  else s

def judgeAcknowledgement (s : State) : Reply × State :=
  let s1 := takeAcknowledgement s
  ({ code := .done, body := [s1.ssv.state.code] }, s1)

def execAckIntervention (s : State) : Host.Outcome State Fault Refusal := .next (request 0x16 judgeAcknowledgement s)

/-! ### The speed update (R29, R30) -/

/-- The speed of a window: 0 at standstill, otherwise the net distance over the window length, held at 12,500
(R29). -/
def windowSpeed (o : Odometry) : Nat :=
  if o.motion = .standstill then 0 else min (o.windowSum.natAbs / o.windowLength) 12500

/-- The travel direction after a window (R29). -/
def windowTravel (o : Odometry) : Travel :=
  if 0 < o.windowSum then .up else if o.windowSum < 0 then .down else o.travel

/-- What a speed update hands VRL for its POSITION telegrams (R30). -/
def updateReport (s : State) : Report :=
  let e := handedEstimate s
  { status := s.odo.status, nominal := e.elim 0 fun e => e.nominal / 1000,
    uncertainty := e.elim 0 fun e => e.uncertainty / 1000, speed := windowSpeed s.odo,
    travel := windowTravel s.odo }

/-- ODO's part of a speed update; the next window takes the active length (R29). -/
def closeWindow (s : State) : State :=
  { s with
    odo.speed := windowSpeed s.odo, odo.travel := windowTravel s.odo, odo.windowSum := 0,
    odo.windowLength := speedWindow s.cmc.params, odo.windowLeft := speedWindow s.cmc.params,
    odo.report := updateReport s }

/-- SPEED_UPDATE (R29, R60, R77); RTB and SSV take it in either order (R60). -/
def execSpeedUpdate (rtbFirst : Bool) (s : State) : Host.Outcome State Fault Refusal :=
  let s1 := closeWindow s
  .next (if rtbFirst then superviseUpdate (checkClearance s1) else checkClearance (superviseUpdate s1))

end Sys2Proof.Machine
end

