-- ==== Sys2Proof/Machine/Modes.lean ====
section
/-! DEFINITION. Car Mode Control: changes of mode and direction, parameter writes, LINE_RESET and the owners' parts
of it (chapter 1). -/

namespace Sys2Proof.Machine

/-! ### Changing mode (R6 to R8) -/

/-- No channel is UNTESTED or FAILED (R7). -/
def brakesReady (b : Brakes) : Bool :=
  [b.service, b.holding, b.emergency].all fun c => c.health == .ok || c.health == .degraded

/-- The conditions of R7 in ascending order of detail code: whether each is checked for the target, whether it
holds, and its code. -/
def modeConditions (s : State) (target : Mode) : List (Bool × Bool × Byte) :=
  [(target == .stabled || (target == .preparation && s.cmc.mode.supervised), everyLeafLocked s.drc, leavesNotLocked),
   (target == .service, s.profileValid, profileNotValid),
   (target == .service, s.odo.status != .unknown, positionUnknown),
   (target == .service || target == .shunt, s.cmc.selected != .neutral, noDirection),
   (target == .service, brakesReady s.brc, brakesNotReady),
   (target == .shunt, s.brc.emergency.health == .ok, emergencyNotOk),
   (target == .service || target == .shunt, !s.brc.latch.any, latchSet)]

/-- The detail code of the first condition of R7 that fails. -/
def modeConditionFault (s : State) (target : Mode) : Option Byte :=
  ((modeConditions s target).find? fun c => c.1 && !c.2.1).map fun c => c.2.2

/-- CMC stores a new mode: the NO_PROFILE blanket follows SHUNT (R8, R99), an ARMED missed-entry watch returns to
IDLE outside SERVICE (R25), and the reverse-travel accumulator is 0 on entering supervision (R31). -/
def storeMode (target : Mode) (s : State) : State :=
  putBlanket (target == .shunt) .noProfile
    { s with
      cmc.mode := target,
      odo.watch := if target = .service then s.odo.watch else s.odo.watch.disarm,
      odo.reverse := if target.supervised && !s.cmc.mode.supervised then 0 else s.odo.reverse }

/-- A change of mode (R8): leaving supervision ends it at SSV and applies the pending set (R12, R110); BRC evaluates
its demands and the permit again only once the new values are active (R119, R122, assumption log 12), and DRC judges
release (R149). -/
def changeMode (target : Mode) (s : State) : State :=
  let s1 := storeMode target s
  let s2 := if s.cmc.mode.supervised && !target.supervised then applyPendingSet (clearSupervision s1) else s1
  judgeRelease (settle s2)

/-- SET_MODE (R6). -/
def judgeSetMode (code : Byte) (s : State) : Reply × State :=
  match Mode.ofCode code with
  | none => refused (refuse .refusedRange) s
  | some target =>
    if target = s.cmc.mode then refused { code := .done } s
    else if s.loading ∧ target ≠ .stabled then refused (refuse .refusedBusy) s
    else if s.testing then refused (refuse .refusedBusy) s
    else if !s.standing then refused (refuse .refusedMotion) s
    else
      match modeConditionFault s target with
      | some detail => refused (refuseDetail detail) s
      | none => ({ code := .done }, changeMode target s)

def execSetMode (mode : Byte) (s : State) : Host.Outcome State Fault Refusal :=
  .next (request 0x10 (judgeSetMode mode) s)

/-! ### Selecting the direction (R9) -/

/-- A new selected direction: ODO clears the reverse-travel accumulator and BRC evaluates the permit (R9, R31). -/
def changeDirection (d : Selected) (s : State) : State := settle { s with cmc.selected := d, odo.reverse := 0 }

def judgeSetDirection (code : Byte) (s : State) : Reply × State :=
  match Selected.ofCode code with
  | none => refused (refuse .refusedRange) s
  | some d =>
    if d = s.cmc.selected then refused { code := .done } s
    else if !s.standing then refused (refuse .refusedMotion) s
    else ({ code := .done }, changeDirection d s)

/-- SET_DIRECTION (R9). -/
def execSetDirection (direction : Byte) (s : State) : Host.Outcome State Fault Refusal :=
  .next (request 0x11 (judgeSetDirection direction) s)

/-! ### Parameter writes (R11) -/

/-- The pending value of a parameter, or its active value (R11). -/
def pendingOrActive (s : State) (n : Nat) : Nat := (pendingValue s.cmc.pendingSet n).getD (paramValue s.cmc.params n)

/-- The partner of a margin; any parameter has itself, where it is not used (R11). -/
def marginPartner (n : Nat) : Nat := if n = 10 then 11 else if n = 11 then 10 else n

/-- The value a write stores (R11, check 5). -/
def writtenValue (s : State) (n v : Nat) : Nat := clampParam n (pendingOrActive s (marginPartner n)) v

/-- A value enters the pending set (R11). -/
def holdPending (n v : Nat) (s : State) : State :=
  { s with cmc.pendingSet := s.cmc.pendingSet.set (n - 1) (some v) }

/-- The body of an accepted write: number, value as stored, ACTIVE or PENDING (R11); the value takes 4 octets
whatever the parameter's kind (assumption log 3). -/
def writeBody (n v : Nat) (pending : Bool) : List Byte := octets1 n ++ octets4 v ++ [if pending then 2 else 1]

def judgeSetParameter (number v : Nat) (s : State) : Reply × State :=
  if number < 1 ∨ 52 < number then refused (refuse .refusedRange) s
  else if s.loading ∨ s.saving then refused (refuse .refusedBusy) s
  else if s.testing ∧ 19 ≤ number ∧ number ≤ 25 then refused (refuse .refusedBusy) s
  else if s.cmc.mode.supervised ∧ paramClass number = .setup then refused (refuse .refusedMode) s
  else
    let w := writtenValue s number v
    if s.cmc.mode.supervised ∧ paramClass number = .deferred then
      (doneOrClamped (w != v) (writeBody number w true), holdPending number w s)
    else (doneOrClamped (w != v) (writeBody number w false), activate (setParam s.cmc.params number w) s)

/-- SET_PARAMETER (R11). -/
def execSetParameter (number : Byte) (value : Word) (s : State) : Host.Outcome State Fault Refusal :=
  .next (request 0x23 (judgeSetParameter number.toNat value.toNat) s)

/-! ### LINE_RESET (R13) -/

/-- CMC's own part: the pending set is emptied unapplied, and SERVICE becomes PREPARATION (R13). -/
def resetModes (s : State) : State :=
  let s1 := { s with cmc.pendingSet := emptyPending }
  if s.cmc.mode = .service then changeMode .preparation s1 else s1

/-- Every owner has its part of the reset before it. -/
def allParts : ResetParts := ⟨true, true, true, true, true, true⟩

/-- CMC takes the reset: its own part, the slot PENDING with the LOST flag judged now, and the parts handed to the
owners (R13, R196). SSV keeps in view the blankets as they stood (R97). -/
def beginReset (s : State) : State :=
  let s1 := resetModes s
  { s1 with
    hlp.slot := .pending s.hlp.slot.isUnread, cmc.resetParts := allParts, ssv.resetView := some (seenBlankets s) }

/-- LINE_RESET (R13). -/
def execLineReset (s : State) : Host.Outcome State Fault Refusal :=
  .next (quietSdo (if s.resetting then s
    else if s.loading then place 0x26 s.hlp.slot.isUnread (refuse .refusedBusy) s
    else if !s.standing then place 0x26 s.hlp.slot.isUnread (refuse .refusedMotion) s
    else beginReset s))

/-- The DONE of R13 is placed with the LOST flag judged when HLP took the request. -/
def placeResetDone (s : State) : State :=
  match s.hlp.slot with
  | .pending lost => place 0x26 lost { code := .done } s
  | _ => s

/-- ODO, RTB, SSV and VRL have taken their parts, so the blanket set is as the reset leaves it (R97). -/
def blanketsReset (p : ResetParts) : Bool := !p.odo && !p.rtb && !p.ssv && !p.vrl

/-- After a part of the reset: SSV sees the new blanket set once it is complete (R97), and HLP places DONE once
every owner has taken its part (R13). -/
def afterPart (p : ResetParts) (s : State) : State :=
  let s1 := { s with cmc.resetParts := p, ssv.resetView := if blanketsReset p then none else s.ssv.resetView }
  if p = noParts then placeResetDone s1 else s1

/-- An owner takes its part of a LINE_RESET; with that part not outstanding there is nothing to take. -/
def takePart (outstanding : Bool) (left : ResetParts) (part : State → State) (s : State) :
    Host.Outcome State Fault Refusal :=
  .next (if outstanding then afterPart left (part s) else s)

/-- ODO_LINE_RESET (R35). -/
def execOdoLineReset (s : State) : Host.Outcome State Fault Refusal :=
  takePart s.cmc.resetParts.odo { s.cmc.resetParts with odo := false } resetPosition s

/-- The TABLE_OVERFLOW cause leaves the active blanket set (R76). -/
def dropOverflowCause (s : State) : State := putBlanket false .tableOverflow s

/-- RTB's part: the table is emptied, and the TABLE_OVERFLOW cause goes (R76). With VRL's part still outstanding and
LINK_SILENCE absent the removal waits for VRL's part, as one change of the set (R97, assumption log 4). -/
def resetTable (s : State) : State :=
  let s1 := emptyTable s
  if s1.ssv.blankets.linkSilence || !s.cmc.resetParts.vrl then dropOverflowCause s1 else s1

/-- RTB_LINE_RESET (R76). -/
def execRtbLineReset (s : State) : Host.Outcome State Fault Refusal :=
  takePart s.cmc.resetParts.rtb { s.cmc.resetParts with rtb := false } resetTable s

/-- SSV_LINE_RESET (R95, R111). -/
def execSsvLineReset (s : State) : Host.Outcome State Fault Refusal :=
  takePart s.cmc.resetParts.ssv { s.cmc.resetParts with ssv := false } endSupervision s

/-- BRC's part: a running test is aborted, and the host hold request becomes APPLY (R130). -/
def resetBrakes (s : State) : State := settle { abortTest .lineReset s with brc.hostHold := .apply }

/-- BRC_LINE_RESET (R130). -/
def execBrcLineReset (s : State) : Host.Outcome State Fault Refusal :=
  takePart s.cmc.resetParts.brc { s.cmc.resetParts with brc := false } resetBrakes s

/-- DRC_LINE_RESET (R163). -/
def execDrcLineReset (s : State) : Host.Outcome State Fault Refusal :=
  takePart s.cmc.resetParts.drc { s.cmc.resetParts with drc := false } (drcEvent resetDoors) s

/-- VRL's part, with the TABLE_OVERFLOW cause that an RTB part before it left to it (R76, R183, R193, assumption
log 4). -/
def resetLink (s : State) : State :=
  let s1 := resetRadio s
  if !s.cmc.resetParts.rtb && !s.rtb.overflow then dropOverflowCause s1 else s1

/-- VRL_LINE_RESET (R183, R193). -/
def execVrlLineReset (s : State) : Host.Outcome State Fault Refusal :=
  takePart s.cmc.resetParts.vrl { s.cmc.resetParts with vrl := false } resetLink s

end Sys2Proof.Machine
end

