-- ==== Sys2Proof/Machine/ProfileCommands.lean ====
section
/-! DEFINITION. The profile requests, and the handing on of profile changes (chapter 3). -/

namespace Sys2Proof.Machine

/-- The common checks of the three profile requests (R40): the response that refuses. -/
def profileCheck (s : State) : Option Reply :=
  if s.loading || s.saving then some (refuse .refusedBusy)
  else if s.cmc.mode.supervised then some (refuse .refusedMode)
  else none

/-- The profile leaves VALID: ODO discards its estimate, and DRC takes the change (R21, R45, R149). -/
def profileLost (s : State) : State := judgeRelease (discardEstimate s)

/-- The shortest and longest line length a load may announce, in millimetres (R41). -/
def lengthAllowed (l : Nat) : Bool := 1000000 ≤ l && l ≤ 40000000

/-- The most segments a profile holds (R41). -/
def countAllowed (n : Nat) : Bool := 1 ≤ n && n ≤ 512

/-- A load begins (R41). -/
def beginLoad (count length : Nat) (s : State) : State :=
  { s with
    lps :=
      { status := .loading, segments := [], announcedCount := count, receivedCount := 0, announcedLength := length,
        failure := none } }

def judgeProfileBegin (count length : Nat) (s : State) : Reply × State :=
  match profileCheck s with
  | some r => refused r s
  | none =>
    if !countAllowed count then refused (refuse .refusedRange) s
    else if !lengthAllowed length then refused (refuse .refusedRange) s
    else
      ({ code := .done, body := octets2 count ++ octets4 length },
        if s.profileValid then profileLost (beginLoad count length s) else beginLoad count length s)

/-- PROFILE_BEGIN (R41). -/
def execProfileBegin (count : Half) (length : Word) (s : State) : Host.Outcome State Fault Refusal :=
  .next (request 0x20 (judgeProfileBegin count.toNat length.toNat) s)

/-- A segment joins the load (R42). -/
def storeSegment (r : SegmentRecord) (s : State) : State :=
  { s with lps.segments := s.lps.segments ++ [r], lps.receivedCount := s.lps.receivedCount + 1 }

def judgeProfileSegment (index : Nat) (r : SegmentRecord) (s : State) : Reply × State :=
  match profileCheck s with
  | some reply => refused reply s
  | none =>
    if s.lps.status ≠ .loading then refused (refuseDetail notLoading) s
    else if index ≠ s.lps.receivedCount ∨ s.lps.announcedCount ≤ s.lps.receivedCount then
      refused (refuse .refusedRange) s
    else ({ code := .done, body := octets2 (s.lps.receivedCount + 1) }, storeSegment r s)

/-- PROFILE_SEGMENT (R42). -/
def execProfileSegment (index : Half) (r : SegmentRecord) (s : State) : Host.Outcome State Fault Refusal :=
  .next (request 0x21 (judgeProfileSegment index.toNat r) s)

/-- The failing index and reason, each optional (R38, R43, R197). -/
def failureOctets : Option (Nat × ProfileFault) → List Byte
  | none => [0, 0, 0, 0, 0]
  | some (i, f) => [1] ++ octets2 i ++ [1, f.code]

/-- The load ends and a change to VALID is handed on (R43, R45). -/
def finishLoad (s : State) : State :=
  let s1 := { s with lps := endLoad s.lps }
  if s1.profileValid then judgeRelease s1 else s1

def judgeProfileEnd (s : State) : Reply × State :=
  match profileCheck s with
  | some r => refused r s
  | none =>
    if s.lps.status ≠ .loading then refused (refuseDetail notLoading) s
    else
      let lps := endLoad s.lps
      ({ code := .done, body := [lps.status.code] ++ failureOctets lps.failure }, finishLoad s)

/-- PROFILE_END (R43). -/
def execProfileEnd (s : State) : Host.Outcome State Fault Refusal := .next (request 0x22 judgeProfileEnd s)

/-! ### The stored profile (R49, R50) -/

/-- The profile block of a stored image. -/
structure ProfileBlock where
  count    : Nat
  length   : Nat
  segments : List SegmentRecord
deriving DecidableEq, Repr

/-- LPS takes the stored profile block as a load (R49, assumption log 12). -/
def takeStoredProfile (b : ProfileBlock) (s : State) : State :=
  if b.count = 0 then s
  else if !countAllowed b.count || !lengthAllowed b.length then
    { s with lps := { s.lps with status := .invalid, segments := [], failure := some (0, .header) } }
  else
    finishLoad
      { s with
        lps :=
          { status := .loading, segments := b.segments, announcedCount := b.count,
            receivedCount := b.segments.length, announcedLength := b.length, failure := none } }

/-- The profile block LPS hands for a save: the whole VALID profile, or an empty block (R50), whose line length the
model takes as 0 (assumption log 14). -/
def handedProfile (s : State) : ProfileBlock :=
  if s.profileValid then ⟨s.lps.segments.length, s.lps.announcedLength, s.lps.segments⟩ else ⟨0, 0, []⟩

end Sys2Proof.Machine
end

