-- ==== Sys2Proof/Machine/Bodies.lean ====
section
/-! DEFINITION. The read requests and the bodies of their responses, each field in the order its owner's rule lists
it, encoded by R197 (assumption log 3 names what R197 leaves open). -/

namespace Sys2Proof.Machine

/-! ### READ_POSITION (R33) -/

/-- Millimetres of a micrometre value, truncated (R16). -/
def millimetres (um : Nat) : Nat := um / 1000

/-- N, U, the minimum and the maximum position, with the flag that marks a retained estimate (R33). -/
def estimateOctets (s : State) : List Byte :=
  optionalOctets 16
    (s.odo.estimate.map fun e =>
      octets4 (millimetres e.nominal) ++ octets4 (millimetres e.uncertainty) ++ octets4 (millimetres (minimumUm e)) ++
      octets4 (millimetres (maximumUm s e))) ++
  [flag (s.odo.estimate.isSome && s.odo.status == .unknown)]

/-- The start the watch names (R25). -/
def Watch.start : Watch → Option Nat
  | .idle => none
  | .armed x => some x
  | .missed x => some x

def positionStateBody (s : State) : List Byte :=
  [s.odo.status.code] ++ optionalOctets 1 (s.odo.degradedReason.map fun r => [r.code]) ++ estimateOctets s ++
  octets2 s.odo.speed ++
  [s.odo.travel.code, s.odo.motion.code, s.odo.engagement.code, (sourceInUse s).sourceCode, s.odo.watch.code] ++
  optionalOctets 4 (s.odo.watch.start.map octets4) ++ octets4 (millimetres s.odo.reverse) ++
  octets4 s.odo.toothTotal.toNat ++ octets4 s.odo.wheelTotal.toNat ++ octets2 s.odo.toothIllegal ++
  octets2 s.odo.wheelIllegal

/-- READ_POSITION (R33). -/
def execReadPosition (s : State) : Host.Outcome State Fault Refusal :=
  .next (request 0x05 (fun s => ({ code := .done, body := positionStateBody s }, s)) s)

/-! ### Restrictions (R51, R73, R74) -/

/-- The table header (R51). -/
def headerOctets (s : State) : List Byte :=
  octets1 (heldCount s) ++ [markCode s.rtb.overflow] ++ octets1 s.rtb.overflowCount ++ halfOctets s.rtb.changeCount

def judgeReadRestriction (slot : Byte) (s : State) : Reply × State :=
  if 31 < slot.toNat then refused (refuse .refusedRange) s
  else
    ({ code := .done,
       body := headerOctets s ++ optionalOctets recordWidth ((slotRecord s slot.toNat).map recordWithState) }, s)

/-- READ_RESTRICTION (R73). -/
def execReadRestriction (slot : Byte) (s : State) : Host.Outcome State Fault Refusal :=
  .next (request 0x06 (judgeReadRestriction slot) s)

/-- An id lies in the range of its origin (R52, R73). -/
def idAllowed : Origin → Half → Bool
  | .dispatch, id => dispatchId id
  | .cab, id => 1 ≤ id.toNat && id.toNat ≤ 255

def judgeFindRestriction (origin : Byte) (id : Half) (s : State) : Reply × State :=
  match Origin.ofCode origin with
  | none => refused (refuse .refusedRange) s
  | some o =>
    if !idAllowed o id then refused (refuse .refusedRange) s
    else
      match findRecord s o id.toNat with
      | none => refused (refuse .refusedNotFound) s
      | some (i, r) => ({ code := .done, body := headerOctets s ++ octets1 i ++ recordWithState r }, s)

/-- FIND_RESTRICTION (R73). -/
def execFindRestriction (origin : Byte) (id : Half) (s : State) : Host.Outcome State Fault Refusal :=
  .next (request 0x07 (judgeFindRestriction origin id) s)

/-- The parts that apply to a direction and whose zone contains a position (R74). -/
def partsAt (s : State) (w : Way) (position : Nat) : List AppliedPart :=
  (appliedParts s w).filter fun p => p.zoneStart ≤ position && position < p.zoneEnd

/-- The restriction limit at a position (R74). -/
def restrictionLimit (s : State) (w : Way) (position : Nat) : Option Nat := ((partsAt s w position).map AppliedPart.limit).min?

/-- The slots that give the restriction limit, each once, in ascending order (R74). -/
def limitingParts (s : State) (w : Way) (position : Nat) : List PartName :=
  match restrictionLimit s w position with
  | none => []
  | some v =>
    ((partsAt s w position).filter fun p => p.limit == v).foldr
      (fun p l =>
        match l with
        | n :: _ => if n.slot = p.name.slot then l else p.name :: l
        | [] => [p.name]) []

/-- The base limit of the segment containing a position (R74). -/
def profileLimit (s : State) (w : Way) (position : Nat) : Option Nat := (containing s position).map fun g => g.record.limit w

/-- The combined limit at a position (R74). -/
def combinedLimit (s : State) (w : Way) (position : Nat) : Nat :=
  min ((profileLimit s w position).getD (lineMaximum s.cmc.params))
    (min ((restrictionLimit s w position).getD (lineMaximum s.cmc.params))
      (lowestLimit (lineMaximum s.cmc.params) (globalLimits s)))

/-- The most records LOOKUP_LIMIT lists (R74). -/
def lookupPlaces : Nat := 8

def lookupBody (s : State) (w : Way) (position : Nat) : List Byte :=
  let names := limitingParts s w position
  let listed := names.take lookupPlaces
  headerOctets s ++ optionalOctets 2 ((profileLimit s w position).map octets2) ++
  optionalOctets 2 ((restrictionLimit s w position).map octets2) ++ octets1 listed.length ++
  (listed.flatMap fun n => [n.origin.code] ++ octets2 n.id ++ octets1 n.slot) ++ octets1 names.length ++
  octets1 (Blanket.all.filter (seenBlankets s).has).length ++
  ((Blanket.all.filter (seenBlankets s).has).flatMap fun b => [b.code] ++ octets2 (blanketLimit s.cmc.params b)) ++
  octets2 (combinedLimit s w position)

def judgeLookupLimit (position : Nat) (direction : Byte) (s : State) : Reply × State :=
  match Way.ofCode direction with
  | none => refused (refuse .refusedRange) s
  | some w => (doneOrClamped (lineLength s < position) (lookupBody s w (min position (lineLength s))), s)

/-- LOOKUP_LIMIT (R74). -/
def execLookupLimit (position : Word) (direction : Byte) (s : State) : Host.Outcome State Fault Refusal :=
  .next (request 0x08 (judgeLookupLimit position.toNat direction) s)

/-! ### READ_DOORS (R162) -/

/-- The mapping entry of a drive as parameters 43 … 46 give it (R141). -/
def mappingOctets (v : Nat) : List Byte :=
  [yesNoCode (v % 2 == 1), if v / 2 % 2 = 1 then Side.right.code else Side.left.code,
   if v / 4 % 2 = 1 then LeafIndex.mountain.code else LeafIndex.valley.code]

/-- The phase of a leaf in REVERSING or HELD (R143). -/
def LeafState.phase : LeafState → Option Phase
  | .reversing p => some p
  | .held p => some p
  | _ => none

/-- The isolation cause of an ISOLATED leaf (R143). -/
def LeafState.cause : LeafState → Option IsolationCause
  | .isolated c => some c
  | _ => none

/-- A leaf record with all its fields (R143) and the time its attempt timer has left (R162); whether the timer runs is
the presence octet of that time (assumption log 3). -/
def leafRecordOctets (l : Leaf) : List Byte :=
  [l.state.code] ++ octets1 l.profile ++
  optionalOctets 1 (l.state.phase.map fun p => [p.code]) ++ optionalOctets 1 (l.state.cause.map fun c => [c.code]) ++
  [flag l.lockLost] ++ optionalOctets 4 (l.timer.map octets4)

/-- The members of a gang, D1 as bit 0 (assumption log 3). -/
def memberBits (m : PerDrive Bool) : Half := BitVec.ofNat 16 (bitsValue (Drive.all.map m.get))

def gangOctets (g : Option Gang) : List Byte :=
  optionalOctets 3 (g.map fun g => octets1 g.index ++ halfOctets (memberBits g.members))

/-- The body of READ_DOORS (R162): the leaf records as four optional fields, D1 to D4, and the gangs as two, LEFT and
RIGHT (assumption log 3). -/
def doorsBody (s : State) : List Byte :=
  (Drive.all.flatMap fun d => mappingOctets (mappingValue s.cmc.params d)) ++ [setCode s.drc.conflict] ++
  (Drive.all.flatMap fun d => optionalOctets 12 ((s.drc.leaves.get d).map leafRecordOctets)) ++
  optionalOctets 5
    (s.drc.release.map fun r =>
      [r.side.code, r.origin.code] ++ optionalOctets 2 (r.station.map fun st => octets2 st.toNat)) ++
  [flag s.drc.inForce.isSome] ++
  optionalOctets 4 (s.drc.lastRefused.map fun r => octets2 r.station.toNat ++ [r.side, r.reason.code]) ++
  [flag s.drc.doorHold] ++ gangOctets s.drc.gangLeft ++ gangOctets s.drc.gangRight

/-- READ_DOORS (R162). -/
def execReadDoors (s : State) : Host.Outcome State Fault Refusal :=
  .next (request 0x09 (fun s => ({ code := .done, body := doorsBody s }, s)) s)

/-! ### READ_NOTICE (R181) -/

/-- A notice with its number and source in 1 octet each (R181, assumption log 3). -/
def noticeOctets (n : Notice) : List Byte :=
  [n.number] ++ octets1 n.text.length ++ n.text ++ [n.source, setCode n.overwritten]

def judgeReadNotice (s : State) : Reply × State :=
  match s.vrl.notices with
  | [] => ({ code := .done, body := optionalOctets 4 none ++ octets1 0 }, s)
  | n :: rest =>
    ({ code := .done, body := optionalOctets 4 (some (noticeOctets n)) ++ octets1 rest.length },
      { s with vrl.notices := rest })

/-- READ_NOTICE (R181). -/
def execReadNotice (s : State) : Host.Outcome State Fault Refusal := .next (request 0x0A judgeReadNotice s)

/-! ### READ_TEST_RESULT (R131, R140) -/

def StepOutcomes.toList (o : StepOutcomes) : List StepOutcome := [o.s1, o.s2, o.s3, o.s4, o.s5, o.s6]

/-- The time of a step that has ended (R131). -/
def StepOutcome.time : StepOutcome → Option Nat
  | .notRun => none
  | .pass t => some t
  | .fail t => some t

def resultOctets (r : TestResult) : List Byte :=
  [r.overall.code] ++ r.steps.toList.map StepOutcome.code ++
  (r.steps.toList.flatMap fun o => optionalOctets 4 (o.time.map octets4)) ++
  optionalOctets 1 (r.abort.map fun a => [a.1.code]) ++ optionalOctets 1 (r.abort.map fun a => octets1 a.2.number)

def judgeReadTestResult (s : State) : Reply × State :=
  let tail := resultOctets s.brc.result ++
    [s.brc.service.health.code, s.brc.holding.health.code, s.brc.emergency.health.code]
  match s.brc.test with
  | some t => ({ code := .inProgress, body := octets1 t.step.number ++ tail }, s)
  | none => ({ code := .done, body := tail }, s)

/-- READ_TEST_RESULT (R140). -/
def execReadTestResult (s : State) : Host.Outcome State Fault Refusal := .next (request 0x0B judgeReadTestResult s)

/-! ### READ_RADIO (R182) -/

/-- The outcome of a window, with the kind and the uplink sequence of a USED one as one optional field (R182, assumption
log 3). -/
def windowOctets (o : WindowOutcome) : List Byte :=
  [o.code] ++
  optionalOctets 2
    (match o with
     | .used k q => some [k.kindCode, q]
     | _ => none)

/-- The body of READ_RADIO (R182). Where R182 and R197 leave the layout open (assumption log 3): a STOPPED silence timer
has four zeros for its time, the car's slot is an optional field, absent with the beacon context, and so is the last
window's outcome, absent before the first window; the last source, the zone, and the link, list
and uplink sequences take 1 octet each. -/
def radioBody (s : State) : List Byte :=
  let v := s.vrl
  [v.receiver.code, flag v.transmission.isSome] ++ errorOctets v.errors ++ octets2 v.validCount ++
  octets2 v.foreignCount ++ octets2 v.malformedCount ++ octets2 v.gateCount ++ octets2 v.missedCount ++
  optionalOctets 1 (v.lastSource.map fun x => [x]) ++ optionalOctets 1 (v.lastSequence.map fun x => [x]) ++
  [if v.silenceTimer.isSome then 1 else 2] ++ octets4 (v.silenceTimer.getD 0) ++ [v.dialogue.code] ++
  optionalOctets 1 (v.currentList.map fun x => [x]) ++
  optionalOctets 7
    (v.beacon.map fun b => [b.zone] ++ octets1 b.slotCount ++ octets4 b.slotLength ++ octets1 b.interval) ++
  optionalOctets 1 (v.beacon.map fun b => octets1 b.slot) ++ octets1 v.windowCount ++
  [setCode v.pollMark] ++ optionalOctets 4 (v.lastWindow.map windowOctets) ++ [v.uplinkCounter] ++
  octets1 v.queue.length ++ (v.queue.flatMap fun e => [e.kind.kindCode, e.sequence] ++ octets1 e.attempts) ++
  octets1 v.notices.length

/-- READ_RADIO (R182). -/
def execReadRadio (s : State) : Host.Outcome State Fault Refusal :=
  .next (request 0x0C (fun s => ({ code := .done, body := radioBody s }, s)) s)

/-! ### READ_PARAMETER (R12) -/

/-- The active value, and the pending one as an optional field, each in 4 octets (R12, assumption log 3). -/
def judgeReadParameter (n : Nat) (s : State) : Reply × State :=
  if n < 1 ∨ 52 < n then refused (refuse .refusedRange) s
  else
    ({ code := .done,
       body := octets4 (paramValue s.cmc.params n) ++ optionalOctets 4 ((pendingValue s.cmc.pendingSet n).map octets4) },
      s)

/-- READ_PARAMETER (R12). -/
def execReadParameter (number : Byte) (s : State) : Host.Outcome State Fault Refusal :=
  .next (request 0x0D (judgeReadParameter number.toNat) s)

/-! ### READ_STATUS (R203) -/

/-- Item 1: settings (R201, R199). -/
def settingsPart (s : State) : List Byte := [s.sld.status.code, markCode s.sld.clampMark] ++ octets1 s.sld.straps

/-- Item 2: mode, direction and the pending set (R1, R11). -/
def modesPart (s : State) : List Byte :=
  [s.cmc.mode.code, s.cmc.selected.responseCode] ++ octets1 (pendingCount s.cmc.pendingSet)

/-- Item 3: profile status, load record, line length in use (R38, R39). -/
def profilePart (s : State) : List Byte :=
  [s.lps.status.code] ++ octets2 s.lps.announcedCount ++ octets2 s.lps.receivedCount ++
  octets4 s.lps.announcedLength ++ failureOctets s.lps.failure ++ octets4 (lineLength s)

/-- The governing item (R94): its sort, in the order of R94 with the line end last, then the cause, the index and the
part that may name it as three optional fields (assumption log 3). -/
def governingOctets : Governing → List Byte
  | .lineMaximum => [1] ++ optionalOctets 1 none ++ optionalOctets 2 none ++ optionalOctets 5 none
  | .blanket b => [2] ++ optionalOctets 1 (some [b.code]) ++ optionalOctets 2 none ++ optionalOctets 5 none
  | .segment i => [3] ++ optionalOctets 1 none ++ optionalOctets 2 (some (octets2 i)) ++ optionalOctets 5 none
  | .part n =>
    [4] ++ optionalOctets 1 none ++ optionalOctets 2 none ++
    optionalOctets 5
      (some (octets1 n.slot ++ [n.origin.code] ++ octets2 n.id ++ [if n.inForce then 1 else 2]))
  | .lineEnd => [5] ++ optionalOctets 1 none ++ optionalOctets 2 none ++ optionalOctets 5 none

/-- A governing target (R94). -/
def targetOctets (t : TargetRecord) : List Byte :=
  octets4 t.position ++ octets2 t.targetSpeed ++ octets4 t.distance ++ octets4 t.effectiveDistance ++
  octets2Signed t.worstGradient ++ octets2 t.gravity ++ [t.kind.code] ++ octets2Signed t.effectiveDeceleration ++
  [flag t.floorApplied]

/-- The supervision record (R94). -/
def supervisionOctets (r : SupervisionRecord) : List Byte :=
  [r.evaluation.code, r.direction.code] ++ octets2 r.localLimit ++ octets2 r.permitted ++ octets2 r.speed ++
  optionalOctets 12 (r.governing.map governingOctets) ++ optionalOctets 22 (r.target.map targetOctets) ++
  octets2 r.targets

/-- Item 4: the supervision part (R94, R96, R109). -/
def supervisionPart (s : State) : List Byte :=
  let marks := s.ssv.state == .service
  halfOctets (seenBlankets s).bits ++ [s.ssv.state.code] ++
  optionalOctets 1 (if marks then some [if s.ssv.acknowledged then 1 else 2] else none) ++
  optionalOctets 1 (if marks then some [if s.ssv.released then 1 else 2] else none) ++
  [if s.ssv.overspeed then 1 else 2] ++ supervisionOctets s.ssv.record

/-- ENERGIZED or DE-ENERGIZED (R112). -/
def valveCode (energized : Bool) : Byte := if energized then 1 else 2

/-- BANDSW: CLOSED or OPEN (R112). -/
def bandCode (closed : Bool) : Byte := if closed then 1 else 2

def failureRecordOctets : FailureRecord → List Byte
  | .service s p => octets2 s ++ octets2 p
  | .holding e p => [valveCode e] ++ octets2 p
  | .emergency e c => [valveCode e, bandCode c]

/-- The octets of a failure record of a channel (R116, R197). -/
def failureWidth : Channel → Nat
  | .service => 4
  | .holding => 3
  | .emergency => 2

def channelOctets (c : Channel) (x : ChannelState) : List Byte :=
  [x.health.code, x.supervision.code] ++ octets1 x.failures ++
  optionalOctets (failureWidth c) (x.lastFailure.map failureRecordOctets)

/-- The demands present, each by source and level (R117, R128). -/
def demandList (d : Demands) : List (Byte × Nat) :=
  [((1 : Byte), d.driver), (2, d.intervention), (3, d.doorHold), (4, d.test), (5, d.emergency)].filterMap
    fun x => x.2.map fun l => (x.1, l)

/-- The holding demands present, in the order of R119. -/
def HoldingDemands.bits (h : HoldingDemands) : Half :=
  BitVec.ofNat 16 (bitsValue [h.mode, h.door, h.latch, h.host, h.auto])

/-- Item 5: the brake part and the run state of the brake test (R128, R131). -/
def brakesPart (s : State) : List Byte :=
  let b := s.brc
  channelOctets .service b.service ++ channelOctets .holding b.holding ++ channelOctets .emergency b.emergency ++
  octets2 b.setpoint ++ octets1 (demandList b.demands).length ++
  ((demandList b.demands).flatMap fun x => [x.1] ++ octets2 x.2) ++ octets2 b.driverLevel ++
  octets2 b.servicePressure ++ octets2 b.holdingPressure ++
  [bandCode b.bandClosed, valveCode b.releaseValve, valveCode b.dumpValve] ++ halfOctets b.hold.bits ++
  [flag b.confirmed, b.hostHold.code, flag b.permit, if b.loopClosed then 2 else 1] ++ halfOctets b.latch.bits ++
  [if b.test.isSome then 2 else 1]

/-- Items 6 to 8: doors, dialogue, attention (R160, R149, R186, R198). -/
def closingPart (s : State) : List Byte :=
  [flag s.drc.doorHold, flag s.drc.inForce.isSome, s.vrl.dialogue.code] ++ halfOctets s.hlp.attention.bits ++
  halfOctets s.hlp.mask.bits

def statusBody (s : State) : List Byte :=
  settingsPart s ++ modesPart s ++ profilePart s ++ supervisionPart s ++ brakesPart s ++ closingPart s

/-- READ_STATUS (R203). Every owner takes the request in one event, so no part lies on the other side of an event that
another owner takes at the same time, where R203 allows either (assumption log 16). -/
def execReadStatus (s : State) : Host.Outcome State Fault Refusal :=
  .next (request 0x04 (fun s => ({ code := .done, body := statusBody s }, s)) s)

/-! ### Attention and the response slot (R196, R198) -/

/-- READ_ATTENTION (R198). -/
def execReadAttention (s : State) : Host.Outcome State Fault Refusal :=
  .next (request 0x02
    (fun s => ({ code := .done, body := halfOctets s.hlp.attention.bits }, { s with hlp.attention := noAttention })) s)

/-- SET_ATTENTION_MASK (R198). -/
def execSetAttentionMask (mask : Half) (s : State) : Host.Outcome State Fault Refusal :=
  .next (request 0x03
    (fun s =>
      ({ code := .done, body := halfOctets (AttentionSet.ofBits mask).bits },
        { s with hlp.mask := AttentionSet.ofBits mask })) s)

/-- The response frame after the slot state (R196). -/
def responseOctets (r : Response) : List Byte :=
  [r.request, r.code.code, r.detail, flag r.lost] ++ octets2 r.body.length ++ r.body

/-- The response frame that a slot gives (R196). -/
def slotFrame : Slot → List Byte
  | .empty => [0x00, 0, 0, 0, 0, 0, 0]
  | .pending _ => [0x01, 0x26, 0, 0, 0, 0, 0]
  | .unread r => 0x02 :: responseOctets r
  | .read r => 0x03 :: responseOctets r

/-- A slot after a READ_RESPONSE transaction: UNREAD becomes READ (R196). -/
def Slot.afterRead : Slot → Slot
  | .unread r => .read r
  | other => other

/-- The octet that the part sends as octet `i` of the last transaction: 00h up to the body length, then the response
frame of a READ_RESPONSE, and 00h beyond it (R194, R196). -/
def sdoOctet (s : State) (i : Nat) : Byte := if i < 3 then 0 else (s.hlp.sdo[i - 3]?).getD 0

/-- READ_RESPONSE (R196): the part sends the frame, and the slot becomes READ; nothing is placed. -/
def execReadResponse (s : State) : Host.Outcome State Fault Refusal :=
  .next { s with hlp.sdo := slotFrame s.hlp.slot, hlp.slot := s.hlp.slot.afterRead }

end Sys2Proof.Machine
end

