-- ==== Sys2Proof/Machine/BrakeTest.lean ====
section
/-! DEFINITION. The brake test: its steps, the health it sets, its completion, and the feedback and timer events of
BRC (chapters 7 and 8). -/

namespace Sys2Proof.Machine

/-! ### Steps (R134 to R137) -/

/-- The pass condition of a step (R135), with the values the test took at its start. -/
def stepPasses (t : TestContext) (b : Brakes) : TestStep → Bool
  | .s1 => 1000 ≤ b.servicePressure + t.tolerance
  | .s2 => b.servicePressure < t.tolerance
  | .s3 => t.releaseThreshold < b.holdingPressure
  | .s4 => b.holdingPressure < t.holdingThreshold
  | .s5 => !b.bandClosed
  | .s6 => b.bandClosed

/-- A test runs and the condition of its step holds. -/
def runningStepPasses (s : State) : Bool := s.brc.test.any fun t => stepPasses t s.brc t.step

/-- The steps after a step. -/
def TestStep.following : TestStep → List TestStep
  | .s1 => [.s2, .s3, .s4, .s5, .s6]
  | .s2 => [.s3, .s4, .s5, .s6]
  | .s3 => [.s4, .s5, .s6]
  | .s4 => [.s5, .s6]
  | .s5 => [.s6]
  | .s6 => []

def StepOutcomes.get (o : StepOutcomes) : TestStep → StepOutcome
  | .s1 => o.s1
  | .s2 => o.s2
  | .s3 => o.s3
  | .s4 => o.s4
  | .s5 => o.s5
  | .s6 => o.s6

def StepOutcomes.set (o : StepOutcomes) (st : TestStep) (x : StepOutcome) : StepOutcomes :=
  match st with
  | .s1 => { o with s1 := x }
  | .s2 => { o with s2 := x }
  | .s3 => { o with s3 := x }
  | .s4 => { o with s4 := x }
  | .s5 => { o with s5 := x }
  | .s6 => { o with s6 := x }

def StepOutcome.passed : StepOutcome → Bool
  | .pass _ => true
  | _ => false

/-- The overall outcome of a completed test: PASSED when all six steps passed (R137). -/
def overallOutcome (o : StepOutcomes) : Overall :=
  if o.s1.passed && o.s2.passed && o.s3.passed && o.s4.passed && o.s5.passed && o.s6.passed then .passed
  else .failed

/-- The first step of the channel whose second step this is (R136). -/
def TestStep.firstOfPair : TestStep → Option TestStep
  | .s2 => some .s1
  | .s4 => some .s3
  | .s6 => some .s5
  | _ => none

/-- A step begins: its outputs are set and the step timer starts (R134, R135). -/
def beginStep (st : TestStep) (s : State) : State :=
  settle { s with brc.test := s.brc.test.map fun t => { t with step := st, left := t.stepTimeout } }

/-- The health that the test sets (R136), with its attention, blanket and alarm. -/
def setTestHealth (c : Channel) (h : Health) (s : State) : State :=
  faultAlarm c (s.brc.channel c).health (changeHealth c h s)

/-- A HOLDING health that has changed from `before` is handed to DRC (R149). -/
def handHoldingHealth (before : Health) (s : State) : State :=
  if s.brc.holding.health = before then s else judgeRelease s

/-- A step ends with an outcome; at a channel's second step its health is set (R134, R136). -/
def endStep (st : TestStep) (o : StepOutcome) (s : State) : State :=
  let s1 := { s with brc.result.steps := s.brc.result.steps.set st o }
  match st.firstOfPair with
  | none => s1
  | some first =>
    setTestHealth st.channel
      (if (s1.brc.result.steps.get first).passed && o.passed then .ok else .failed) s1

/-- Step 6 has ended: the test completes (R137). -/
def completeTest (s : State) : State :=
  testOver { s.brc.result with overall := overallOutcome s.brc.result.steps } s

/-- The steps of the list begin one after another, for as long as each passes at once; after the last one the test
completes. `before` is the HOLDING health before the step that has just ended: a change of it is handed to DRC once
the next step runs, so that an abort it brings finds the ended step standing and aborts the next one, and the test
goes no further (R134, R138, R149). -/
def runSteps : List TestStep → Health → State → State
  | [], _, s => completeTest s
  | st :: rest, before, s =>
    let s1 := handHoldingHealth before (beginStep st s)
    if runningStepPasses s1 then runSteps rest s1.brc.holding.health (endStep st (.pass 0) s1) else s1

/-- The running step ends with an outcome, and the next one begins (R134). -/
def finishStep (t : TestContext) (o : StepOutcome) (s : State) : State :=
  runSteps t.step.following s.brc.holding.health (endStep t.step o s)

/-- A change of a channel's feedback reaches the running test: the step ends when it watches that feedback and its
condition now holds (R134). -/
def testFeedback (c : Channel) (s : State) : State :=
  match s.brc.test with
  | none => s
  | some t =>
    if t.step.channel = c ∧ stepPasses t s.brc t.step then finishStep t (.pass (t.stepTimeout - t.left)) s else s

/-! ### Starting (R132, R133) -/

/-- The start of an accepted test (R133). -/
def startTest (s : State) : State :=
  let p := s.cmc.params
  let s1 := setSupervision .emergency .idle (setSupervision .holding .idle (setSupervision .service .idle s))
  runSteps [.s1, .s2, .s3, .s4, .s5, .s6] s.brc.holding.health
    { s1 with
      brc.result := { noResult with overall := .inProgress },
      brc.test := some
        { step := .s1, left := stepTimeout p, tolerance := toleranceBand p,
          holdingThreshold := holdingThreshold p, releaseThreshold := releaseThreshold p,
          stepTimeout := stepTimeout p } }

/-- START_BRAKE_TEST (R132). -/
def judgeStartTest (s : State) : Reply × State :=
  if s.testing then refused (refuse .refusedBusy) s
  else if s.cmc.mode ≠ .preparation then refused (refuse .refusedMode) s
  else if !s.standing then refused (refuse .refusedMotion) s
  else if !everyLeafLocked s.drc then refused (refuseDetail leavesNotLocked) s
  else if s.brc.latch.any then refused (refuseDetail latchSet) s
  else if s.brc.driverLevel ≠ 0 then refused (refuseDetail driverDemand) s
  else ({ code := .accepted }, startTest s)

def execStartBrakeTest (s : State) : Host.Outcome State Fault Refusal := .next (request 0x1C judgeStartTest s)

/-- ABORT_BRAKE_TEST (R139). -/
def execAbortBrakeTest (s : State) : Host.Outcome State Fault Refusal :=
  .next (request 0x1D (fun s => ({ code := .done }, abortTest .request s)) s)

/-- STEP_TIMER_EXPIRY (R134): the running step fails, with the step timeout as its time. -/
def execStepTimerExpiry (s : State) : Host.Outcome State Fault Refusal :=
  .next (match s.brc.test with
    | none => s
    | some t => finishStep t (.fail t.stepTimeout) s)

/-! ### Feedback and check timers (R114, R116, R120) -/

/-- The channel whose feedback an event changes. -/
def feedbackChannel : Feedback → Channel
  | .servicePressure _ => .service
  | .holdingPressure _ => .holding
  | .bandSwitch _ => .emergency

/-- The new feedback value stored; a pressure lies in 0 … 1000 (section 1.6.1). -/
def storeFeedback (f : Feedback) (s : State) : State :=
  match f with
  | .servicePressure v => { s with brc.servicePressure := min v 1000 }
  | .holdingPressure v => { s with brc.holdingPressure := min v 1000 }
  | .bandSwitch c => { s with brc.bandClosed := c }

/-- Supervision takes a feedback change: agreement in CHECKING settles, disagreement in SETTLED starts a check (R114). -/
def superviseFeedback (c : Channel) (s : State) : State :=
  match (s.brc.channel c).supervision with
  | .idle => s
  | .checking _ => if agrees s c then setSupervision c .settled s else s
  | .settled => if agrees s c then s else setSupervision c (.checking (responseTime s.cmc.params)) s

/-- The holding confirmation follows P_h (R120). -/
def confirmHolding (c : Channel) (s : State) : State :=
  if c = .holding then { s with brc.confirmed := s.brc.holdingPressure < holdingThreshold s.cmc.params } else s

/-- FEEDBACK_CHANGE (R114, R120, R134): supervision, then the confirmation, then the test step, and last the
handing of a changed confirmation to DRC (assumption log 7). -/
def execFeedbackChange (f : Feedback) (s : State) : Host.Outcome State Fault Refusal :=
  let c := feedbackChannel f
  let s1 := confirmHolding c (superviseFeedback c (storeFeedback f s))
  let s2 := testFeedback c s1
  .next (if s1.brc.confirmed = s.brc.confirmed then s2 else judgeRelease s2)

/-- CHECK_TIMER_EXPIRY (R114, R116): a check failure in CHECKING; otherwise the expiry finds no timer running. A
changed HOLDING health is handed to DRC (R149). -/
def execCheckTimerExpiry (c : Channel) (s : State) : Host.Outcome State Fault Refusal :=
  .next (match (s.brc.channel c).supervision with
    | .checking _ =>
      let s1 := checkFailure c s
      if c = .holding ∧ (s1.brc.channel c).health ≠ (s.brc.channel c).health then judgeRelease s1 else s1
    | _ => s)

/-! ### Host requests to BRC (R118, R121, R125, R126) -/

/-- DRIVER_BRAKE (R118). -/
def judgeDriverBrake (level : Half) (s : State) : Reply × State :=
  if s.testing then refused (refuse .refusedBusy) s
  else
    let s1 := settle { s with brc.driverLevel := min level.toNat 1000 }
    (doneOrClamped (1000 < level.toNat) (octets2 s1.brc.setpoint), s1)

def execDriverBrake (level : Half) (s : State) : Host.Outcome State Fault Refusal :=
  .next (request 0x19 (judgeDriverBrake level) s)

/-- HOLD_REQUEST (R121). -/
def judgeHoldRequest (value : Byte) (s : State) : Reply × State :=
  match HoldRequest.ofCode value with
  | none => refused (refuse .refusedRange) s
  | some h =>
    if s.testing then refused (refuse .refusedBusy) s
    else if h = .release ∧ s.brc.latch.any then refused (refuseDetail latchSet) s
    else ({ code := .done }, settle { s with brc.hostHold := h })

def execHoldRequest (value : Byte) (s : State) : Host.Outcome State Fault Refusal :=
  .next (request 0x1A (judgeHoldRequest value) s)

/-- TRIGGER_EMERGENCY (R125). -/
def execTriggerEmergency (s : State) : Host.Outcome State Fault Refusal :=
  .next (request 0x18 (fun s => ({ code := .done }, addLatchCause .hostRequest s)) s)

/-- LOOP_CHANGE (R125): opening adds LOOP_OPEN. -/
def execLoopChange (closed : Bool) (s : State) : Host.Outcome State Fault Refusal :=
  let s1 := { s with brc.loopClosed := closed }
  .next (addLatchIf (s.brc.loopClosed && !closed) .loopOpen s1)

/-- SSV takes the emptying of the latch: EMERGENCY_INTERVENTION becomes NORMAL (R107, R109). -/
def latchEmptiedAtSsv (s : State) : State :=
  if s.ssv.state = .emergency then raise .supervision { s with ssv.state := .normal } else s

/-- The latch is emptied (R127). -/
def emptyLatch (s : State) : State :=
  latchEmptiedAtSsv (raise .emergency (settle { s with brc.latch := LatchSet.empty }))

/-- The missed-entry watch is MISSED (R25, R126). -/
def Watch.isMissed : Watch → Bool
  | .missed _ => true
  | _ => false

/-- RESET_EMERGENCY (R126); its DONE body gives the causes emptied. -/
def judgeResetEmergency (s : State) : Reply × State :=
  if !s.brc.latch.any then refused { code := .done } s
  else if !s.standing then refused (refuse .refusedMotion) s
  else if !s.brc.loopClosed then refused (refuseDetail loopNotClosed) s
  else if s.ssv.overspeed then refused (refuseDetail overspeedPresent) s
  else if s.odo.watch.isMissed then refused (refuseDetail rackMissedPresent) s
  else ({ code := .done, body := halfOctets s.brc.latch.bits }, emptyLatch s)

def execResetEmergency (s : State) : Host.Outcome State Fault Refusal := .next (request 0x17 judgeResetEmergency s)

end Sys2Proof.Machine
end

