-- ==== Sys2Proof/Machine/Settings.lean ====
section
/-! DEFINITION. The Settings Loader: the stored settings image, the start-up load and the save (sections 12.6 to
12.9). -/

namespace Sys2Proof.Machine

/-! ### The image (R200) -/

/-- The 15 octets of a segment record (R195, R200). -/
def segmentOctets (r : SegmentRecord) : List Byte :=
  wordOctets r.start ++ [r.kind] ++ halfOctets r.gradient ++ halfOctets r.limitUp ++ halfOctets r.limitDown ++
  [r.stationPresent, r.stationId, r.sides, r.releaseOrigin]

/-- The segment record that 15 octets give (R195). -/
def segmentOf : List Byte → Option SegmentRecord
  | [s3, s2, s1, s0, k, g1, g0, u1, u0, d1, d0, p, i, sd, o] =>
    some
      { start := word s3 s2 s1 s0, kind := k, gradient := half g1 g0, limitUp := half u1 u0,
        limitDown := half d1 d0, stationPresent := p, stationId := i, sides := sd, releaseOrigin := o }
  | _ => none

/-- The octets of the image from offset 1 to the last one before the CRC (R200). -/
def imageContent (p : Table Nat 52) (b : ProfileBlock) : List Byte :=
  [Config.imageFormat] ++ p.list.flatMap octets4 ++ octets2 b.count ++ octets4 b.length ++
  b.segments.flatMap segmentOctets

/-- A whole image with a given octet at offset 0 (R200, R202). -/
def imageOctets (signature : Byte) (p : Table Nat 52) (b : ProfileBlock) : List Byte :=
  [signature] ++ imageContent p b ++ halfOctets (crc16 (imageContent p b))

/-- `length` octets of the memory from `offset` on; an octet that the memory does not have reads as FFh (R200). -/
def readOctets (image : List Byte) (offset length : Nat) : List Byte :=
  let l := (image.drop offset).take length
  l ++ List.replicate (length - l.length) 0xFF

/-- A list cut into runs of `width` octets, `count` of them. -/
def cut (width : Nat) : Nat → List Byte → List (List Byte)
  | 0, _ => []
  | n + 1, l => l.take width :: cut width n (l.drop width)

/-- The number that octets give, high octet first. -/
def numberOf (octets : List Byte) : Nat := octets.foldl (fun n o => n * 256 + o.toNat) 0

/-- The announced segment count of an image (R200). -/
def storedCount (image : List Byte) : Nat := numberOf (readOctets image 210 2)

/-- How many segment records an image holds: n′ of R200. -/
def storedRecords (image : List Byte) : Nat := if storedCount image ≤ 512 then storedCount image else 0

/-- The profile block of an image (R49, R200). -/
def storedProfile (image : List Byte) : ProfileBlock :=
  { count := storedCount image, length := numberOf (readOctets image 212 4),
    segments := (cut 15 (storedRecords image) (readOctets image 216 (15 * storedRecords image))).filterMap segmentOf }

/-- The parameter values of an image, parameter 1 first (R200). -/
def storedValues (image : List Byte) : List Nat := (cut 4 52 (readOctets image 2 208)).map numberOf

/-- The CRC of an image agrees (R200, R201). -/
def imageCrcAgrees (image : List Byte) : Bool :=
  let n := 215 + 15 * storedRecords image
  halfOctets (crc16 (readOctets image 1 n)) == readOctets image (n + 1) 2

/-! ### The start-up load (R201) -/

/-- The stored value of a parameter. -/
def rawValue (values : List Nat) (n : Nat) : Nat := (values[n - 1]?).getD 0

/-- A stored value clamped to its range: the service margin first to 100 … 1,500, and the emergency margin against
the service margin as clamped (R201). -/
def loadedValue (values : List Nat) (n : Nat) : Nat :=
  let serviceMargin := clampTo (100, 1500) (rawValue values 10)
  if n = 10 then serviceMargin
  else if n = 11 then clampTo (emergencyMarginRange serviceMargin) (rawValue values 11)
  else clampParam n 0 (rawValue values n)

/-- The 52 values of an image, each clamped (R201). -/
def loadedParams (values : List Nat) : Table Nat 52 :=
  ⟨(List.range 52).map fun i => loadedValue values (i + 1), by simp⟩

/-- Some stored value was changed by its clamp (R201). -/
def anyClamped (values : List Nat) : Bool :=
  (List.range 52).any fun i => loadedValue values (i + 1) != rawValue values (i + 1)

/-- A good image: the values become active and the profile block is handed to LPS (R201). -/
def loadImage (image : List Byte) (s : State) : State :=
  let values := storedValues image
  takeStoredProfile (storedProfile image)
    (activate (loadedParams values)
      { s with sld.status := .loaded, sld.clampMark := anyClamped values })

/-- The start-up read has completed with an image (R201). -/
def endStartUpLoad (image : List Byte) (s : State) : State :=
  if readOctets image 0 1 ≠ [Config.imageSignature] then { s with sld.status := .absent }
  else if readOctets image 1 1 ≠ [Config.imageFormat] ∨ !imageCrcAgrees image then
    raise .settings { s with sld.status := .corrupt }
  else loadImage image s

/-- SETTINGS_LOAD_END (R201); the event is the end of the start-up load, so outside it nothing ends. -/
def execSettingsLoadEnd (image : List Byte) (s : State) : Host.Outcome State Fault Refusal :=
  .next (if s.loading then endStartUpLoad image s else s)

/-! ### Saving (R202) -/

/-- The image SLD means to write, with 00h at offset 0 (R202). -/
def imageToSave (s : State) : List Byte := imageOctets 0x00 s.cmc.params (handedProfile s)

/-- The writes that put an image into the memory from offset 0 on: each offset with its octet, in order (R202). -/
def imageWrites (image : List Byte) : List Host.Cell := image.zipIdx.map fun x => (x.2, x.1)

def judgeSave (s : State) : Reply × State :=
  if s.saving then refused (refuse .refusedBusy) s
  else if s.cmc.mode ≠ .preparation then refused (refuse .refusedMode) s
  else ({ code := .accepted }, 
      { s with
        sld.status := .saving, sld.saveImage := some (imageToSave s), sld.writes := imageWrites (imageToSave s) })

/-- SAVE_SETTINGS (R202). -/
def execSaveSettings (s : State) : Host.Outcome State Fault Refusal := .next (request 0x24 judgeSave s)

/-- The outcome of the write: SAVED when the image read back and the signature read back agree (R202). -/
def saveOutcome (s : State) (readBack : List Byte) (signature : Byte) : SettingsStatus :=
  if s.sld.saveImage = some readBack ∧ signature = Config.imageSignature then .saved else .writeFailed

/-- SLD's last write: the signature at offset 0, when the whole image has read back as meant; at a disagreement SLD
writes nothing more (R202). -/
def signatureWrite (s : State) (readBack : List Byte) : List Host.Cell :=
  if s.sld.saveImage = some readBack then [(0, Config.imageSignature)] else []

/-- SAVE_END (R202). -/
def execSaveEnd (readBack : List Byte) (signature : Byte) (s : State) : Host.Outcome State Fault Refusal :=
  .next (if s.saving then
      raise .settings
        { s with
          sld.status := saveOutcome s readBack signature, sld.saveImage := none,
          sld.writes := s.sld.writes ++ signatureWrite s readBack }
    else s)

end Sys2Proof.Machine
end

