-- ==== Sys2Proof/Machine/HostFrame.lean ====
section
/-! DEFINITION. The judgement of a host transaction when NCS is released (R194): a wrong address is ignored, a format
error is answered, and a well-formed request is handed to its owner. -/

namespace Sys2Proof.Machine

/-- A well-formed request handed to its owner: the meaning of its command (R194). A command that is no host request
cannot be spelled by a transaction. -/
def takeRequest (c : Instr) (s : State) : Host.Outcome State Fault Refusal :=
  match c with
  | .readResponse => execReadResponse s
  | .readAttention => execReadAttention s
  | .setAttentionMask m => execSetAttentionMask m s
  | .readStatus => execReadStatus s
  | .readPosition => execReadPosition s
  | .readRestriction n => execReadRestriction n s
  | .findRestriction o i => execFindRestriction o i s
  | .lookupLimit p d => execLookupLimit p d s
  | .readDoors => execReadDoors s
  | .readNotice => execReadNotice s
  | .readTestResult => execReadTestResult s
  | .readRadio => execReadRadio s
  | .readParameter n => execReadParameter n s
  | .setMode m => execSetMode m s
  | .setDirection d => execSetDirection d s
  | .setParameter n v => execSetParameter n v s
  | .setPosition p u => execSetPosition p u s
  | .lineReset => execLineReset s
  | .addRestriction q => execAddRestriction q s
  | .amendRestriction q => execAmendRestriction q s
  | .revokeRestriction o i => execRevokeRestriction o i s
  | .ackIntervention => execAckIntervention s
  | .resetEmergency => execResetEmergency s
  | .triggerEmergency => execTriggerEmergency s
  | .driverBrake l => execDriverBrake l s
  | .holdRequest v => execHoldRequest v s
  | .doorCommandRelease x => execDoorCommandRelease x s
  | .doorCommandWithdraw a => execDoorCommandWithdraw a s
  | .openSide x => execOpenSide x s
  | .closeSide x => execCloseSide x s
  | .forceClose d => execForceClose d s
  | .isolate d => execIsolate d s
  | .restore d => execRestore d s
  | .unknownDoorCommand c a => execUnknownDoorCommand c a s
  | .startBrakeTest => execStartBrakeTest s
  | .abortBrakeTest => execAbortBrakeTest s
  | .profileBegin n l => execProfileBegin n l s
  | .profileSegment i r => execProfileSegment i r s
  | .profileEnd => execProfileEnd s
  | .saveSettings => execSaveSettings s
  | .clearRadioErrors => execClearRadioErrors s
  | _ => .next s

/-- The code that a format error is answered under; a transaction that ended before its code gives a free value
(assumption log 1). -/
def answeredCode (code : Option Byte) : Byte := code.getD Config.codeOfTruncatedFrame

/-- HOST_FRAME_REJECTED (R194): the part sends 00h for each of its octets. -/
def execHostFrameRejected (octets : List Byte) (s : State) : Host.Outcome State Fault Refusal :=
  match judgeTransaction octets with
  | .ignored => .next (quietSdo s)
  | .formatError code => .next (request (answeredCode code) (refused (refuse .refusedFormat)) s)
  | .request c => takeRequest c s

end Sys2Proof.Machine
end

