-- ==== Sys2Proof/Machine/Start.lean ====
section
/-! DEFINITION. Power-on (R14 and the power-on rules of every block), from the pins as the part reads them then. -/

namespace Sys2Proof.Machine

/-- The leaf of a drive at power-on (R142, R144). -/
def startLeaf (p : Table Nat 52) (pins : PowerOnPins) (d : Drive) : Option Leaf :=
  ((leafPlaces p).get d).map (freshLeaf (pins.doors.get d))

/-- DRC at power-on, before its gang contexts (R144, R160). -/
def startDoors (p : Table Nat 52) (pins : PowerOnPins) : Doors :=
  let drc : Doors :=
    { inputs := pins.doors, leaves := PerDrive.of (startLeaf p pins), conflict := mappingConflict p, release := none,
      inForce := none, lastRefused := none, gangLeft := none, gangRight := none, doorHold := false,
      reportDue := false }
  { drc with
    doorHold := !everyLeafLocked drc,
    gangLeft := if ganged p .left then some (newGang drc .left) else none,
    gangRight := if ganged p .right then some (newGang drc .right) else none }

/-- BRC at power-on: the values of R129, the result record of R131 and the readings of the feedback inputs. Where a
leaf starts unlocked, DRC asserts door hold (R144, R160), and BRC starts with its DOOR_HOLD and DOOR demands beside
those of R129 (assumption log 14). -/
def startBrakes (p : Table Nat 52) (pins : PowerOnPins) (doorHold : Bool) : Brakes :=
  let held := min pins.holdingPressure 1000
  { service := resetChannel, holding := resetChannel, emergency := resetChannel, setpoint := 1000,
    releaseValve := false, dumpValve := false, servicePressure := min pins.servicePressure 1000,
    holdingPressure := held, bandClosed := pins.bandClosed, loopClosed := pins.loopClosed,
    demands :=
      { driver := none, intervention := none, doorHold := if doorHold then some (doorHoldLevel p) else none,
        test := none, emergency := some 1000 },
    driverLevel := 0,
    hold := { mode := true, door := doorHold, latch := true, host := true, auto := autoHold p },
    hostHold := .apply, confirmed := held < holdingThreshold p, permit := false,
    latch := { LatchSet.empty with powerOn := true, loopOpen := !pins.loopClosed }, test := none,
    result := noResult }

/-- ODO at power-on (R34); W is taken as two pitches (R22). -/
def startPosition (p : Table Nat 52) : Odometry :=
  { toothTotal := 0, wheelTotal := 0, toothIllegal := 0, wheelIllegal := 0, estimate := none, status := .unknown,
    degradedReason := none, engagement := .free, wheelTravel := twoPitches p, watch := .idle,
    motion := .standstill, standstillTimer := none, speed := 0, travel := .none, windowSum := 0,
    windowLength := speedWindow p, windowLeft := speedWindow p, reverse := 0,
    report := { status := .unknown, nominal := 0, uncertainty := 0, speed := 0, travel := .none } }

/-- VRL at power-on (R183, R186). -/
def startRadio (p : Table Nat 52) (chBusy : Bool) : RadioLink :=
  { receiver := emptySearch, errors := noErrors, validCount := 0, foreignCount := 0, malformedCount := 0,
    gateCount := 0, missedCount := 0, lastSource := none, lastSequence := none,
    silenceTimer := some (silenceTimeout p * 1000), dialogue := .unjoined, listCounter := 0, currentList := none,
    beacon := none, windowTimer := none, windowCount := 255, lastWindow := none, pollMark := false,
    uplinkCounter := 0, queue := [], notices := [], lastNotice := none, transmission := none, chBusy := chBusy }

/-- The start values of every block, before BRC and DRC hand VRL their first causes. -/
def startValues (pins : PowerOnPins) (waiting : List Instr) : State :=
  let p := strapParams (strapSelection pins)
  let drc := startDoors p pins
  { cmc :=
      { mode := .stabled, selected := .neutral, params := p, pendingSet := emptyPending, resetParts := noParts },
    odo := startPosition p,
    lps :=
      { status := .empty, segments := [], announcedCount := 0, receivedCount := 0, announcedLength := 0,
        failure := none },
    rtb :=
      { slots := Table.replicate 32 none, overflow := false, overflowCount := 0, changeCount := 0,
        secondLeft := 1000 },
    ssv :=
      { blankets :=
          { linkSilence := true, tableOverflow := false, position := true, brake := false, noProfile := false },
        permitted := 0, state := .normal, acknowledged := false, released := false, overspeed := false,
        record := idleRecord, resetView := none },
    brc := startBrakes p pins drc.doorHold,
    drc := drc,
    vrl := startRadio p pins.chBusy,
    hlp :=
      { slot := .empty, attention := { noAttention with emergency := true },
        mask := ⟨true, true, true, true, true, true, true, true, true, true⟩, sdo := [] },
    sld := { straps := strapSelection pins, status := .loading, clampMark := false, saveImage := none, writes := [] },
    pending := waiting }

/-- An alarm cause handed when a condition holds. -/
def handAlarmIf (cond : Bool) (c : AlarmCause) (s : State) : State := if cond then handAlarm c s else s

/-- BRC's first alarm causes and DRC's (R129, R144). -/
def firstAlarms (s : State) : State :=
  let s1 := handAlarmIf (!s.brc.loopClosed) (.latch .loopOpen) (handAlarm (.latch .powerOn) s)
  Drive.all.foldl (fun s d =>
    handAlarmIf ((s.drc.leaves.get d).any fun l => l.state == .isolated .timeout) .doorFault s) s1

/-- The part after power-on with the given pins (R14): the start values, then the first alarms and the first
DOOR_STATE in the queue that has started empty (R129, R144, R183). -/
def start (pins : PowerOnPins) (waiting : List Instr) : State := handDoorState (firstAlarms (startValues pins waiting))

/-- POWER_ON (R14): whatever the part held is gone; the commands still waiting stay waiting. -/
def execPowerOn (pins : PowerOnPins) (s : State) : Host.Outcome State Fault Refusal := .next (start pins s.pending)

end Sys2Proof.Machine
end

