-- ==== Sys2Proof/Machine/Dispatch.lean ====
section
/-! DEFINITION. One arm per command, each one direct call of its meaning. -/

namespace Sys2Proof.Machine

def exec (i : Instr) (s : State) : Host.Outcome State Fault Refusal :=
  match i with
  | .powerOn pins => Sys2Proof.Machine.execPowerOn pins s
  | .settingsLoadEnd image => Sys2Proof.Machine.execSettingsLoadEnd image s
  | .saveEnd readBack signature => Sys2Proof.Machine.execSaveEnd readBack signature s
  | .hostFrameRejected octets => Sys2Proof.Machine.execHostFrameRejected octets s
  | .readResponse => Sys2Proof.Machine.execReadResponse s
  | .readAttention => Sys2Proof.Machine.execReadAttention s
  | .setAttentionMask mask => Sys2Proof.Machine.execSetAttentionMask mask s
  | .readStatus => Sys2Proof.Machine.execReadStatus s
  | .readPosition => Sys2Proof.Machine.execReadPosition s
  | .readRestriction slot => Sys2Proof.Machine.execReadRestriction slot s
  | .findRestriction origin id => Sys2Proof.Machine.execFindRestriction origin id s
  | .lookupLimit position direction => Sys2Proof.Machine.execLookupLimit position direction s
  | .readDoors => Sys2Proof.Machine.execReadDoors s
  | .readNotice => Sys2Proof.Machine.execReadNotice s
  | .readTestResult => Sys2Proof.Machine.execReadTestResult s
  | .readRadio => Sys2Proof.Machine.execReadRadio s
  | .readParameter number => Sys2Proof.Machine.execReadParameter number s
  | .setMode mode => Sys2Proof.Machine.execSetMode mode s
  | .setDirection direction => Sys2Proof.Machine.execSetDirection direction s
  | .setParameter number value => Sys2Proof.Machine.execSetParameter number value s
  | .setPosition position uncertainty => Sys2Proof.Machine.execSetPosition position uncertainty s
  | .lineReset => Sys2Proof.Machine.execLineReset s
  | .odoLineReset => Sys2Proof.Machine.execOdoLineReset s
  | .rtbLineReset => Sys2Proof.Machine.execRtbLineReset s
  | .ssvLineReset => Sys2Proof.Machine.execSsvLineReset s
  | .brcLineReset => Sys2Proof.Machine.execBrcLineReset s
  | .drcLineReset => Sys2Proof.Machine.execDrcLineReset s
  | .vrlLineReset => Sys2Proof.Machine.execVrlLineReset s
  | .addRestriction request => Sys2Proof.Machine.execAddRestriction request s
  | .amendRestriction request => Sys2Proof.Machine.execAmendRestriction request s
  | .revokeRestriction origin id => Sys2Proof.Machine.execRevokeRestriction origin id s
  | .ackIntervention => Sys2Proof.Machine.execAckIntervention s
  | .resetEmergency => Sys2Proof.Machine.execResetEmergency s
  | .triggerEmergency => Sys2Proof.Machine.execTriggerEmergency s
  | .driverBrake level => Sys2Proof.Machine.execDriverBrake level s
  | .holdRequest value => Sys2Proof.Machine.execHoldRequest value s
  | .doorCommandRelease side => Sys2Proof.Machine.execDoorCommandRelease side s
  | .doorCommandWithdraw argument => Sys2Proof.Machine.execDoorCommandWithdraw argument s
  | .openSide side => Sys2Proof.Machine.execOpenSide side s
  | .closeSide side => Sys2Proof.Machine.execCloseSide side s
  | .forceClose drive => Sys2Proof.Machine.execForceClose drive s
  | .isolate drive => Sys2Proof.Machine.execIsolate drive s
  | .restore drive => Sys2Proof.Machine.execRestore drive s
  | .startBrakeTest => Sys2Proof.Machine.execStartBrakeTest s
  | .abortBrakeTest => Sys2Proof.Machine.execAbortBrakeTest s
  | .profileBegin count length => Sys2Proof.Machine.execProfileBegin count length s
  | .profileSegment index segment => Sys2Proof.Machine.execProfileSegment index segment s
  | .profileEnd => Sys2Proof.Machine.execProfileEnd s
  | .saveSettings => Sys2Proof.Machine.execSaveSettings s
  | .clearRadioErrors => Sys2Proof.Machine.execClearRadioErrors s
  | .pulseCount pair way => Sys2Proof.Machine.execPulseCount pair way s
  | .illegalStep pair => Sys2Proof.Machine.execIllegalStep pair s
  | .standstillExpiry => Sys2Proof.Machine.execStandstillExpiry s
  | .speedUpdate rtbFirst => Sys2Proof.Machine.execSpeedUpdate rtbFirst s
  | .secondTick => Sys2Proof.Machine.execSecondTick s
  | .restrictionExpiry slot => Sys2Proof.Machine.execRestrictionExpiry slot s
  | .loopChange closed => Sys2Proof.Machine.execLoopChange closed s
  | .feedbackChange feedback => Sys2Proof.Machine.execFeedbackChange feedback s
  | .checkTimerExpiry channel => Sys2Proof.Machine.execCheckTimerExpiry channel s
  | .stepTimerExpiry => Sys2Proof.Machine.execStepTimerExpiry s
  | .openSwitch drive made => Sys2Proof.Machine.execOpenSwitch drive made s
  | .closedSwitch drive made => Sys2Proof.Machine.execClosedSwitch drive made s
  | .lockSwitch drive confirms => Sys2Proof.Machine.execLockSwitch drive confirms s
  | .obstruction drive line active => Sys2Proof.Machine.execObstruction drive line active s
  | .overcurrent drive active => Sys2Proof.Machine.execOvercurrent drive active s
  | .doorButton drive active => Sys2Proof.Machine.execDoorButton drive active s
  | .openTimeout drive => Sys2Proof.Machine.execOpenTimeout drive s
  | .travelLimit drive => Sys2Proof.Machine.execTravelLimit drive s
  | .lockTimeout drive => Sys2Proof.Machine.execLockTimeout drive s
  | .autoCloseDwell drive => Sys2Proof.Machine.execAutoCloseDwell drive s
  | .reverseTime drive => Sys2Proof.Machine.execReverseTime drive s
  | .reopenDwell drive => Sys2Proof.Machine.execReopenDwell drive s
  | .holdRetryInterval drive => Sys2Proof.Machine.execHoldRetryInterval drive s
  | .framing => Sys2Proof.Machine.execFraming s
  | .check => Sys2Proof.Machine.execCheck s
  | .frameDropped frame => Sys2Proof.Machine.execFrameDropped frame s
  | .beacon header fields busy => Sys2Proof.Machine.execBeacon header fields busy s
  | .restrict header fields listFirst => Sys2Proof.Machine.execRestrict header fields listFirst s
  | .revoke header id sequence => Sys2Proof.Machine.execRevoke header id sequence s
  | .syncDone header answered => Sys2Proof.Machine.execSyncDone header answered s
  | .doorRelease header station side => Sys2Proof.Machine.execDoorRelease header station side s
  | .doorWithdraw header station => Sys2Proof.Machine.execDoorWithdraw header station s
  | .poll header => Sys2Proof.Machine.execPoll header s
  | .notice header number text => Sys2Proof.Machine.execNotice header number text s
  | .ack header sequence => Sys2Proof.Machine.execAck header sequence s
  | .silenceExpiry => Sys2Proof.Machine.execSilenceExpiry s
  | .windowStart busy => Sys2Proof.Machine.execWindowStart busy s
  | .transmissionEnd => Sys2Proof.Machine.execTransmissionEnd s
  | .receivedBit bit => Sys2Proof.Machine.execReceivedBit bit s
  | .unknownDoorCommand command argument => Sys2Proof.Machine.execUnknownDoorCommand command argument s

end Sys2Proof.Machine
end

