-- ==== Sys2Proof/Machine/Time.lean ====
section
/-! DEFINITION. The passing of a millisecond, and the expiry that a timer with nothing left brings. The manual's
timers run whether or not anything is commanded; the model lets them run while no command waits (assumption log 8). -/

namespace Sys2Proof.Machine

/-- A running timer a millisecond later. -/
def lessOne (t : Timer) : Timer := t.map (· - 1)

/-- A channel's check timer a millisecond later (R114). -/
def ChannelState.tick (c : ChannelState) : ChannelState :=
  { c with supervision := match c.supervision with
      | .idle => .idle
      | .checking n => .checking (n - 1)
      | .settled => .settled }

/-- A leaf's attempt timer a millisecond later (R143). -/
def tickLeaf (l : Option Leaf) : Option Leaf := l.map fun l => { l with timer := lessOne l.timer }

/-- Every running timer a millisecond later. -/
def tick (s : State) : State :=
  { s with
    odo.standstillTimer := lessOne s.odo.standstillTimer,
    odo.windowLeft := s.odo.windowLeft - 1,
    rtb.secondLeft := s.rtb.secondLeft - 1,
    brc.service := s.brc.service.tick,
    brc.holding := s.brc.holding.tick,
    brc.emergency := s.brc.emergency.tick,
    brc.test := s.brc.test.map fun t => { t with left := t.left - 1 },
    drc.leaves :=
      ⟨tickLeaf s.drc.leaves.d1, tickLeaf s.drc.leaves.d2, tickLeaf s.drc.leaves.d3, tickLeaf s.drc.leaves.d4⟩,
    vrl.silenceTimer := lessOne s.vrl.silenceTimer,
    vrl.windowTimer := lessOne s.vrl.windowTimer }

/-- The check timer of a channel has nothing left. -/
def checkDue (c : ChannelState) : Bool :=
  match c.supervision with
  | .idle => false
  | .checking n => n == 0
  | .settled => false

/-- The expiry of a leaf's attempt timer, by the state it runs in (R143). -/
def leafExpiry (d : Drive) (l : Leaf) : Option Instr :=
  match l.state with
  | .locked => none
  | .unlocked => none
  | .opening => some (.openTimeout d)
  | .opened => some (.autoCloseDwell d)
  | .closing => some (.travelLimit d)
  | .locking => some (.lockTimeout d)
  | .reversing .drive => some (.reverseTime d)
  | .reversing .dwell => some (.reopenDwell d)
  | .held .drive => some (.reverseTime d)
  | .held .dwell => some (.holdRetryInterval d)
  | .isolated _ => none

/-- The expiry due at a drive. -/
def leafDue (d : Drive) (l : Option Leaf) : Option Instr :=
  match l with
  | none => none
  | some l => if l.timer = some 0 then leafExpiry d l else none

/-- An expiry that is due under a condition. -/
def dueIf (cond : Bool) (c : Instr) : Option Instr := if cond then some c else none

/-- The expiries that are due, in the order in which the model takes them; the speed update that ends the speed
window is taken by RTB first (R60 allows either order, assumption log 8). -/
def dueExpiries (s : State) : List (Option Instr) :=
  [dueIf (s.vrl.silenceTimer == some 0) .silenceExpiry,
   dueIf (s.odo.standstillTimer == some 0) .standstillExpiry,
   dueIf (checkDue s.brc.service) (.checkTimerExpiry .service),
   dueIf (checkDue s.brc.holding) (.checkTimerExpiry .holding),
   dueIf (checkDue s.brc.emergency) (.checkTimerExpiry .emergency),
   dueIf (s.brc.test.any fun t => t.left == 0) .stepTimerExpiry,
   leafDue .d1 s.drc.leaves.d1, leafDue .d2 s.drc.leaves.d2, leafDue .d3 s.drc.leaves.d3,
   leafDue .d4 s.drc.leaves.d4,
   dueIf (s.vrl.windowTimer == some 0) (.windowStart s.vrl.chBusy),
   dueIf (s.rtb.secondLeft == 0) .secondTick,
   dueIf (s.odo.windowLeft == 0) (.speedUpdate true)]

/-- The first expiry that is due. -/
def dueExpiry (s : State) : Option Instr := (dueExpiries s).reduceOption.head?

end Sys2Proof.Machine
end

