-- ==== Sys2Proof/Machine/Step.lean ====
section
/-! DEFINITION. One step: the command at the front of the queue, or, with none waiting, an expiry that is due or the
passing of a millisecond (assumption log 8). -/

namespace Sys2Proof.Machine

/-- A step with no command waiting: the first expiry that is due, or a millisecond passes. -/
def idle (s : State) : Host.Outcome State Fault Refusal :=
  match dueExpiry s with
  | some c => exec c s
  | none => .next (tick s)

/-- One step of the part. -/
def step (s : State) : Host.Outcome State Fault Refusal :=
  match s.pending with
  | [] => idle s
  | c :: rest => exec c { s with pending := rest }

/-- The state with the command that a word spells at the front of its queue; unchanged where the word spells none. -/
def State.withFetchWord (s : State) (nbits w : Nat) : State :=
  match decodeTableWord nbits w with
  | none => s
  | some c => { s with pending := c :: s.pending }

end Sys2Proof.Machine
end

