-- ==== Sys2Proof/Safety.lean ====
section
/-! DEFINITION. What the manual says always holds of the part, as predicates on a state: the laws that the statements
of Certificates/Slice0 claim of every step. -/

namespace Sys2Proof.Machine

/-- While the emergency latch holds a cause, the dump valve is de-energized, the setpoint is 1000, the permit is off
and the spring brake is applied (R124). -/
def LatchLaw (s : State) : Prop :=
  s.brc.latch.any = true →
    s.brc.dumpValve = false ∧ s.brc.setpoint = 1000 ∧ s.brc.permit = false ∧ s.brc.releaseValve = false

/-- The traction permit is on exactly under the conditions of R122. -/
def PermitLaw (s : State) : Prop := s.brc.permit = permitCondition s

/-- BRC's set of demands, its holding demands, its permit and its three outputs are those that the sources give
(R112, R117, R119, R122, R135). -/
def BrakesSettled (s : State) : Prop :=
  s.brc.demands = formedDemands s ∧ s.brc.hold = formedHolding s ∧ s.brc.permit = permitCondition s ∧
  s.brc.setpoint = largestDemand s.brc.demands ∧ s.brc.releaseValve = formedReleaseValve s ∧
  s.brc.dumpValve = formedDumpValve s

/-- The dialogue is JOINED exactly when neither radio cause is in the active blanket set, and UNJOINED only with
LINK_SILENCE in it (R97, R186). -/
def JoinedLaw (s : State) : Prop :=
  (s.vrl.dialogue = .joined ↔ s.ssv.blankets.linkSilence = false ∧ s.ssv.blankets.tableOverflow = false) ∧
  (s.vrl.dialogue = .unjoined → s.ssv.blankets.linkSilence = true)

/-- POSITION stands exactly while the position status is not VALID (R98). -/
def PositionLaw (s : State) : Prop := s.ssv.blankets.position = (s.odo.status != .valid)

/-- BRAKE stands exactly while the SERVICE channel is DEGRADED or FAILED (R99). -/
def BrakeLaw (s : State) : Prop :=
  s.ssv.blankets.brake = (s.brc.service.health == .degraded || s.brc.service.health == .failed)

/-- NO_PROFILE stands exactly while the mode is SHUNT (R5, R99). -/
def ShuntLaw (s : State) : Prop := s.ssv.blankets.noProfile = (s.cmc.mode == .shunt)

/-- The blanket set follows its causes (R97, R98, R99). -/
def BlanketLaw (s : State) : Prop := JoinedLaw s ∧ PositionLaw s ∧ BrakeLaw s ∧ ShuntLaw s

/-- JOINED without a radio cause, UNJOINED with LINK_SILENCE, and the other causes as R98 and R99 give them: what is left
of `BlanketLaw` where RTB's part of a LINE_RESET meets a car that has rejoined since VRL's part (assumption log 4). -/
def CausesLaw (s : State) : Prop :=
  (s.vrl.dialogue = .joined → s.ssv.blankets.linkSilence = false ∧ s.ssv.blankets.tableOverflow = false) ∧
  (s.vrl.dialogue = .unjoined → s.ssv.blankets.linkSilence = true) ∧ PositionLaw s ∧ BrakeLaw s ∧ ShuntLaw s

/-- RTB's part of a LINE_RESET stands next although VRL has taken its part, and the car has joined since and then taken
a NAK FULL: the one case in which R76 and R97 ask for different blanket sets (assumption log 4). -/
def RejoinedBeforeTablePart (s : State) : Prop :=
  s.pending.head? = some .rtbLineReset ∧ s.cmc.resetParts.rtb = true ∧ s.cmc.resetParts.vrl = false ∧
  s.vrl.dialogue = .reporting ∧ s.ssv.blankets.linkSilence = false

/-- Door hold is present exactly while a used leaf is not locked (R160). -/
def DoorHoldLaw (s : State) : Prop := s.drc.doorHold = !everyLeafLocked s.drc

/-- While ODO reports MOVING and a used leaf is not locked, the latch holds DOOR_MOTION (R161). -/
def DoorMotionLaw (s : State) : Prop :=
  s.odo.motion = .moving → everyLeafLocked s.drc = false → s.brc.latch.doorMotion = true

/-- The caps of the uplink queue (R176). -/
def QueueLaw (s : State) : Prop :=
  countKind .restrictReply s.vrl.queue ≤ 6 ∧ countKind .restrictList s.vrl.queue ≤ 2 ∧
  countKind .doorState s.vrl.queue ≤ 1 ∧ countKind .alarm s.vrl.queue ≤ 1

/-- What R52 says of a record: its id in its origin's range, a sequence exactly with origin DISPATCH, at least one
part, each part's start below its end, and a life of 1 or more only with an in-force part. -/
def RecordLaw (r : Restriction) : Prop :=
  1 ≤ r.id ∧ r.id ≤ (match r.origin with | .dispatch => 4095 | .cab => 255) ∧
  r.sequence.isSome = (r.origin == .dispatch) ∧ (r.inForce.isSome || r.trailing.isSome) = true ∧
  (∀ p ∈ r.inForce, p.zoneStart < p.zoneEnd) ∧ (∀ p ∈ r.trailing, p.zoneStart < p.zoneEnd) ∧
  ∀ l ∈ r.life, 1 ≤ l ∧ r.inForce.isSome = true

/-- No two records held share the pair (origin, id) (R51), and each is as R52 says. -/
def TableLaw (s : State) : Prop :=
  ((heldRecords s).map fun x => (x.2.origin, x.2.id)).Nodup ∧ ∀ x ∈ heldRecords s, RecordLaw x.2

/-! ### Laws of the parameters and of the brakes -/

/-- A value lies in the range of parameter `n` (R11, R165, and the parameter tables of the chapters); each margin in
what its partner's range leaves it. -/
def valueInRange (n v : Nat) : Bool :=
  if n = 10 then 100 ≤ v && v ≤ 1500
  else if n = 11 then 101 ≤ v && v ≤ 2000
  else if n = 50 then v == 1200 || v == 2400 || v == 4800 || v == 9600 || v == 19200
  else (paramRange n).1 ≤ v && v ≤ (paramRange n).2

/-- Every active and every pending value lies in its range, the emergency margin above the service margin both in the
active set and once the pending set applies; outside SERVICE and SHUNT nothing is pending (R8, R11, R12); during the
start-up load the mode is STABLED (R6, R14). -/
def ParamsLaw (s : State) : Prop :=
  (∀ n, 1 ≤ n → n ≤ 52 → valueInRange n (paramValue s.cmc.params n) = true) ∧
  (∀ n v, 1 ≤ n → n ≤ 31 → pendingValue s.cmc.pendingSet n = some v → valueInRange n v = true) ∧
  paramValue s.cmc.params 10 < paramValue s.cmc.params 11 ∧ pendingOrActive s 10 < pendingOrActive s 11 ∧
  (s.cmc.mode.supervised = false → ∀ n, 1 ≤ n → n ≤ 31 → pendingValue s.cmc.pendingSet n = none) ∧
  (s.sld.status = .loading → s.cmc.mode = .stabled)

/-- BRC's outputs and demands follow their sources; a running test and a set latch exclude each other (R132, R138);
the driver's and SSV's levels lie in 0 … 1000 (R117). -/
def BrakesLaw (s : State) : Prop :=
  BrakesSettled s ∧ (s.brc.latch.any = true → s.brc.test = none) ∧ s.brc.driverLevel ≤ 1000 ∧
  s.brc.demands.intervention.getD 0 ≤ 1000

/-- The number of a drive, 1 to 4 (chapter 9). -/
def driveNumber : Drive → Nat
  | .d1 => 1
  | .d2 => 2
  | .d3 => 3
  | .d4 => 4

/-- The side and index that parameters 43 … 46 give a drive whose entry says used (R141). -/
def driveEntry (p : Table Nat 52) (d : Drive) : Option (Side × LeafIndex) :=
  mappingEntry (paramValue p (42 + driveNumber d))

/-- The mapping makes a drive the leaf of a side and index: its entry says so, and no lower-numbered used drive has the
same side and index (R142). -/
def mapsTo (p : Table Nat 52) (d : Drive) (x : Side × LeafIndex) : Prop :=
  driveEntry p d = some x ∧ ∀ e, driveNumber e < driveNumber d → driveEntry p e ≠ some x

/-- The mapping conflict: two used drives have the same side and the same index (R142). -/
def mappingClash (p : Table Nat 52) : Prop :=
  ∃ d e x, driveNumber e < driveNumber d ∧ driveEntry p d = some x ∧ driveEntry p e = some x

/-- The leaves are those the active mapping makes, each with its side and index, and the conflict flag is as R142 says. -/
def LeafSetLaw (s : State) : Prop :=
  (∀ d x, (s.drc.leaves.get d).map (fun l => (l.side, l.index)) = some x ↔ mapsTo s.cmc.params d x) ∧
  (s.drc.conflict = true ↔ mappingClash s.cmc.params)

/-- A side has a gang context exactly while its ganging parameter is ON; the members are leaves of the side that are
not ISOLATED; gang and profile indexes lie in 1 … 3 (R143, R156). -/
def GangLaw (s : State) : Prop :=
  (∀ side, (s.drc.gang side).isSome =
    decide (paramValue s.cmc.params (match side with | .left => 48 | .right => 49) = 1)) ∧
  (∀ side g, s.drc.gang side = some g → 1 ≤ g.index ∧ g.index ≤ 3 ∧
    ∀ d, g.members.get d = true →
      ∃ l, s.drc.leaves.get d = some l ∧ l.side = side ∧ ∀ c, l.state ≠ .isolated c) ∧
  (∀ d l, s.drc.leaves.get d = some l → 1 ≤ l.profile ∧ l.profile ≤ 3)

/-- What DRC keeps: door hold follows the leaves, DOOR_MOTION stands while a leaf is open in motion, no DOOR_STATE is
owed between events (R160, R161, R162), and the leaves and gangs are those of the parameters (R142, R156). -/
def DoorLaw (s : State) : Prop :=
  DoorHoldLaw s ∧ DoorMotionLaw s ∧ s.drc.reportDue = false ∧ LeafSetLaw s ∧ GangLaw s

/-! ### Shapes that several statements share -/

/-- The slot with an owner's reply to request `q` as UNREAD; LOST is set when the slot of `s` was UNREAD (R196). -/
def answer (s : State) (q : Byte) (r : Reply) : Slot := .unread ⟨q, r.code, r.detail, s.hlp.slot.isUnread, r.body⟩

/-- The state after a transaction that an owner's reply to request `q` answers and that changes nothing else: the slot
takes the reply, and the part has sent 00h alone (R194, R196). -/
def answered (s : State) (q : Byte) (r : Reply) : State :=
  { s with hlp := { s.hlp with slot := answer s q r, sdo := [] } }

/-- A telegram with this header is a valid one for the car while VRL listens (R167, R168). -/
def reaches (h : Header) (s : State) : Prop :=
  s.vrl.transmission = none ∧ (h.destination = 0 ∨ h.destination.toNat = paramValue s.cmc.params 42) ∧
  h.source.toNat ≤ 63

/-- VRL once it has noted a valid telegram, before the telegram's owner takes it (R166, R168, R171). -/
def noted (h : Header) (s : State) : RadioLink :=
  { s.vrl with
    receiver := .search 0, validCount := min (s.vrl.validCount + 1) 65535,
    silenceTimer := some (paramValue s.cmc.params 51 * 1000), lastSource := some h.source,
    lastSequence := some h.linkSequence }

/-- In VRL a valid telegram has changed what R168 and R171 note, and beside that at most the uplink queue with its
counter, the dialogue and its list. -/
def heard (h : Header) (s t : State) : Prop :=
  t.vrl =
    { noted h s with
      queue := t.vrl.queue, uplinkCounter := t.vrl.uplinkCounter, dialogue := t.vrl.dialogue,
      listCounter := t.vrl.listCounter, currentList := t.vrl.currentList }

/-- From `s` to `t` a cause has entered the emergency latch that did not hold it (R123, R124, R138, R177): the other
causes stay, the three outputs and the permit are as R124 gives them, a running test is over, the host hold request is
APPLY when the latch was empty, and VRL has the alarm. No health and no block but BRC, VRL's uplink queue and the
attention set changes; the response slot and the loop state are left to the command. -/
def latched (c : LatchCause) (s t : State) : Prop :=
  t.brc.latch = s.brc.latch.add c ∧ t.brc.dumpValve = false ∧ t.brc.releaseValve = false ∧ t.brc.permit = false ∧
  t.brc.demands.emergency = some 1000 ∧ 1000 ≤ t.brc.setpoint ∧ t.brc.hold.latch = true ∧ t.brc.test = none ∧
  t.brc.hostHold = (if s.brc.latch.any = true then s.brc.hostHold else .apply) ∧
  (∀ ch, (t.brc.channel ch).health = (s.brc.channel ch).health) ∧ t.brc.driverLevel = s.brc.driverLevel ∧
  t.hlp.attention.emergency = true ∧
  (∃ e ∈ t.vrl.queue, e.kind = .alarm ∧ e.attempts = 0 ∧ e.sequence = s.vrl.uplinkCounter + 1) ∧
  t.vrl = { s.vrl with queue := t.vrl.queue, uplinkCounter := s.vrl.uplinkCounter + 1 } ∧
  t.cmc = s.cmc ∧ t.odo = s.odo ∧ t.lps = s.lps ∧ t.rtb = s.rtb ∧ t.ssv = s.ssv ∧ t.drc = s.drc ∧ t.sld = s.sld ∧
  t.pending = s.pending

/-- TOOTH is the pulse source: the pinion is ENGAGED, and N lies in a RACK or RACK_ENTRY segment or no estimate
exists (R17). -/
def toothCounts (s : State) : Prop :=
  s.odo.engagement = .engaged ∧
  ∀ e, s.odo.estimate = some e → ∃ g, containing s (e.nominal / 1000) = some g ∧
    (g.record.track = some .rack ∨ g.record.track = some .rackEntry)

/-- The pair is the pulse source in use: TOOTH under the conditions of R17, WHEEL in every other case. -/
def countsFrom (s : State) : Pair → Prop
  | .tooth => toothCounts s
  | .wheel => ¬toothCounts s

/-- The maximum position of the estimate that ODO hands, in micrometres, clipped to the line (R18, R19). -/
def maximumIs (s : State) (m : Nat) : Prop :=
  s.odo.status ≠ .unknown ∧ ∃ e, s.odo.estimate = some e ∧ m = min (e.nominal + e.uncertainty) (lineLength s * 1000)

/-- The car span is clear of a zone (R55): the status is VALID, and the maximum position with the car length lies below
the zone's start, or the minimum position at or above its end. -/
def spanClear (s : State) (zoneStart zoneEnd : Nat) : Prop :=
  s.odo.status = .valid ∧ ∃ e, s.odo.estimate = some e ∧
    (min (e.nominal + e.uncertainty) (lineLength s * 1000) / 1000 + paramValue s.cmc.params 41 < zoneStart ∨
     zoneEnd ≤ (e.nominal - e.uncertainty) / 1000)

/-- The pages of a list as they join the uplink queue: in page order, with the sequences after `counter` and no attempt
(R177, R188). -/
def queuedPages (counter q : Byte) (l : List ListEntry) : List UplinkEntry :=
  (pages q l).zipIdx.map fun x => ⟨.restrictList, counter + BitVec.ofNat 8 (x.2 + 1), 0, x.1⟩

/-- No line of a drive is active that ends CLOSING at once (R153, R154, R158). -/
def quietDrive (s : State) (d : Drive) : Prop :=
  (s.drc.inputs.get d).ovc = false ∧ (s.drc.inputs.get d).closedSw = false ∧ (s.drc.inputs.get d).edge = false ∧
  (s.drc.inputs.get d).force = false

/-- No line that ends CLOSING at once is active at any leaf of which `p` holds. -/
def quietWhere (p : Drive → Leaf → Prop) (s : State) : Prop :=
  ∀ d l, s.drc.leaves.get d = some l → p d l → quietDrive s d

/-- The leaf is unlocked and in no close sequence: UNLOCKED, OPENING, OPEN or HELD (R150). -/
def unclosed (l : Leaf) : Prop :=
  l.state = .unlocked ∨ l.state = .opening ∨ l.state = .opened ∨ l.state = .held .drive ∨ l.state = .held .dwell

/-- A leaf put in CLOSING at a profile, with the open timeout as its travel limit (R143). -/
def closingAt (s : State) (k : Nat) (l : Leaf) : Leaf :=
  { l with state := .closing, profile := k, timer := some (paramValue s.cmc.params 26), lockLost := false }

/-- A leaf that is opened while release is in force: OPENING, or OPEN with its auto-close dwell where its open switch
is already made (R151). -/
def openingOf (s : State) (d : Drive) (l : Leaf) : Leaf :=
  if (s.drc.inputs.get d).openSw then
    { l with
      state := .opened, lockLost := false,
      timer := if paramValue s.cmc.params 30 = 0 then none else some (paramValue s.cmc.params 30 * 1000) }
  else { l with state := .opening, timer := some (paramValue s.cmc.params 26), lockLost := false }

/-- A leaf that goes ISOLATED (R157). -/
def isolatedBy (c : IsolationCause) (l : Leaf) : Leaf :=
  { l with state := .isolated c, timer := none, lockLost := false }

/-- What a button or OPEN_SIDE makes of a leaf while release is in force (R151, R157). -/
def openedByRelease (s : State) (d : Drive) (l : Leaf) : Leaf :=
  match l.state with
  | .locked => if (s.drc.inputs.get d).ovc then isolatedBy .overcurrent l else openingOf s d l
  | .unlocked => openingOf s d l
  | .opened =>
    { l with timer := if paramValue s.cmc.params 30 = 0 then none else some (paramValue s.cmc.params 30 * 1000) }
  | _ => l

/-- A leaf of the side that a button or OPEN_SIDE would isolate, LOCKED with its overcurrent line active (R157). -/
def isolatedAtUnlock (s : State) (side : Side) (d : Drive) : Prop :=
  ∃ l, s.drc.leaves.get d = some l ∧ l.side = side ∧ l.state = .locked ∧ (s.drc.inputs.get d).ovc = true

/-- What a change of release in force from that of `s` to `now` makes of a leaf, with no line active that ends CLOSING
at once (R150, R157): its side gains release and a LOCKED leaf is unlocked, or isolated by its overcurrent line; its
side loses release and a leaf in UNLOCKED, OPENING, OPEN or HELD starts to close. -/
def movedByRelease (s : State) (now : Option Side) (d : Drive) (l : Leaf) : Leaf :=
  if now = s.drc.inForce then l
  else if now = some l.side ∧ l.state = .locked then
    if (s.drc.inputs.get d).ovc then isolatedBy .overcurrent l
    else { l with state := .unlocked, timer := none, lockLost := false }
  else if s.drc.inForce = some l.side then
    match l.state with
    | .unlocked => closingAt s 1 l
    | .opening => closingAt s 1 l
    | .opened => closingAt s 1 l
    | .held _ => closingAt s 1 l
    | _ => l
  else l

/-- The profile after `k` in the close sequence (R143); the one after 2 in SHORT is assumption log 14. -/
def profileAfter (s : State) (k : Nat) : Nat := if paramValue s.cmc.params 47 = 1 then 3 else min (k + 1) 3

/-- A leaf sent to REVERSING at a profile: phase DRIVE, or DWELL where its open switch is already made (R154, assumption
log 6). -/
def reversedAt (s : State) (d : Drive) (k : Nat) (l : Leaf) : Leaf :=
  if (s.drc.inputs.get d).openSw then
    { l with state := .reversing .dwell, profile := k, timer := some (paramValue s.cmc.params 29), lockLost := false }
  else { l with state := .reversing .drive, profile := k, timer := some (paramValue s.cmc.params 28), lockLost := false }

/-- A leaf sent to HELD: phase DRIVE, or DWELL where its open switch is already made (R155, assumption log 6). -/
def heldAt (s : State) (d : Drive) (l : Leaf) : Leaf :=
  if (s.drc.inputs.get d).openSw then
    { l with
      state := .held .dwell, lockLost := false,
      timer := if paramValue s.cmc.params 31 = 0 then none else some (paramValue s.cmc.params 31 * 1000) }
  else { l with state := .held .drive, timer := some (paramValue s.cmc.params 28), lockLost := false }

/-- What a leaf that belongs to no gang becomes when it is put in CLOSING at profile `k`: ISOLATED by an active
overcurrent line (R158), LOCKED or LOCKING by a closed switch already made (R153), REVERSING or HELD by an active
obstruction line (R154), and CLOSING otherwise. -/
def closedAlone (s : State) (d : Drive) (k : Nat) (l : Leaf) : Leaf :=
  let i := s.drc.inputs.get d
  if i.ovc then { isolatedBy .overcurrent l with profile := k }
  else if i.closedSw then
    if i.lockSw then { l with state := .locked, profile := 1, timer := none, lockLost := false }
    else { l with state := .locking, profile := k, timer := some (paramValue s.cmc.params 27), lockLost := false }
  else if i.edge || i.force then
    if k = 3 then heldAt s d { l with profile := 3 } else reversedAt s d (profileAfter s k) l
  else closingAt s k l

/-- The first drive, D1 first, whose leaf is a gang member of the side, starts to close, and is obstructed as it does:
an obstruction line active, no overcurrent line active, and no closed switch made (R154, R156). -/
def firstObstructed (s : State) (side : Side) (starts : Drive → Leaf → Bool) : Option Drive :=
  Drive.all.find? fun d =>
    let i := s.drc.inputs.get d
    ((s.drc.leaves.get d).any fun l => l.side == side && starts d l) && gangMember s side d && !i.ovc && !i.closedSw &&
    (i.edge || i.force)

/-- What each leaf becomes when those of which `starts` holds are put in CLOSING at profile `k` together, D1 judged
first (R153, R154, R156, R158). With no member of its gang obstructed as it starts, a leaf is as `closedAlone` says, or
stays. At the first member obstructed, every member that is then in CLOSING or LOCKING reverses at the profile after the
gang index, or is HELD where that index is the last. -/
def closedTogether (s : State) (k : Nat) (starts : Drive → Leaf → Bool) (d : Drive) : Option Leaf :=
  (s.drc.leaves.get d).map fun l =>
    let alone := if starts d l then closedAlone s d k l else l
    match firstObstructed s l.side starts, s.drc.gang l.side with
    | some x, some g =>
      if g.members.get d then
        let reached := if starts d l && driveNumber x ≤ driveNumber d then closingAt s k l else alone
        if reached.state = .closing ∨ reached.state = .locking then
          if g.index = 3 then heldAt s d reached else reversedAt s d (profileAfter s g.index) reached
        else reached
      else alone
    | _, _ => alone

/-- What the gang of a side becomes at that start: its index moves on when a member is obstructed, a leaf that ends
ISOLATED leaves the gang, and one that ends LOCKED joins it (R156). -/
def gangClosed (s : State) (k : Nat) (starts : Drive → Leaf → Bool) (side : Side) (g : Gang) : Gang :=
  { index := if (firstObstructed s side starts).isSome && g.index != 3 then profileAfter s g.index else g.index,
    members := PerDrive.of fun d =>
      if (s.drc.leaves.get d).any (fun l => l.side == side && starts d l) then
        match (closedTogether s k starts d).map Leaf.state with
        | some (.isolated _) => false
        | some .locked => true
        | _ => g.members.get d
      else g.members.get d }

/-- The gang index of a side taken as `k` where one of the gang's members starts to close (R156). -/
def gangStarts (s : State) (side : Side) (k : Nat) (starts : Drive → Leaf → Bool) : State :=
  if Drive.all.any fun d => gangMember s side d && (s.drc.leaves.get d).any fun l => l.side == side && starts d l then
    setGangIndex side k s
  else s

/-- A channel's feedback agrees with its output: the SERVICE pressure within the band, its bounds included; the HOLDING
pressure beyond the threshold of the valve's state, its bound excluded; BANDSW the opposite of DUMP (R115). -/
def feedbackAgrees (s : State) : Channel → Prop
  | .service =>
    s.brc.setpoint ≤ s.brc.servicePressure + paramValue s.cmc.params 19 ∧
    s.brc.servicePressure ≤ s.brc.setpoint + paramValue s.cmc.params 19
  | .holding =>
    (s.brc.releaseValve = true → paramValue s.cmc.params 22 < s.brc.holdingPressure) ∧
    (s.brc.releaseValve = false → s.brc.holdingPressure < paramValue s.cmc.params 21)
  | .emergency => s.brc.dumpValve = !s.brc.bandClosed

/-- A channel's supervision as after a change of its output: SETTLED when the feedback agrees, CHECKING with a full
timer otherwise (R114). -/
def supervisionResumed (s : State) (c : Channel) : Prop :=
  (feedbackAgrees s c → (s.brc.channel c).supervision = .settled) ∧
  (¬feedbackAgrees s c → (s.brc.channel c).supervision = .checking (paramValue s.cmc.params 20))

/-- How BRC stands once a brake test is over (R137, R138): no TEST demand, the setpoint the largest remaining demand,
HRLS given back to the holding demands and DUMP to the latch, every channel supervised again, the permit evaluated and
TEST_DONE raised. -/
def testEnded (s : State) : Prop :=
  s.brc.test = none ∧ s.brc.demands.test = none ∧ s.brc.setpoint = largestDemand s.brc.demands ∧
  s.brc.releaseValve = !s.brc.hold.any ∧ s.brc.dumpValve = !s.brc.latch.any ∧ (∀ c, supervisionResumed s c) ∧
  s.brc.permit = permitCondition s ∧ s.hlp.attention.testDone = true

/-- The commands of a list one after another, for as long as each answers a next state. -/
def runAll : List Instr → State → Host.Outcome State Fault Refusal
  | [], s => .next s
  | c :: rest, s =>
    match exec c s with
    | .next t => runAll rest t
    | .fault f => .fault f
    | .refused r => .refused r

/-- The bits of octets as the air carries them, the most significant bit of each first (R164). -/
def bitsOf (octets : List Byte) : List Bool :=
  octets.flatMap fun o => [7, 6, 5, 4, 3, 2, 1, 0].map fun i => o.getLsbD i

end Sys2Proof.Machine
end

