-- ==== Sys2Proof/WellFormed.lean ====
section
/-! DEFINITION. The commands that the outside can send: an operand that its pin, its frame or its transaction cannot
carry makes a command ill-formed. Every octet of a request and of a telegram is free (R184, R195). -/

namespace Sys2Proof

/-- A pressure reading, per mille of full scale (section 1.6.1). -/
def pressureReading (v : Nat) : Bool := v ≤ 1000

/-- A frame on the air has a body of at most 64 octets (R164). -/
def frameBody (body : List Byte) : Bool := body.length ≤ 64

/-- The beacon fields in the ranges of R172; a frame with others is malformed and is no BEACON event. -/
def beaconFields (f : BeaconFields) : Bool :=
  1 ≤ f.zone.toNat && f.zone.toNat ≤ 63 && 1 ≤ f.slotCount.toNat && f.slotCount.toNat ≤ 16 &&
  20 ≤ f.slotLength.toNat && f.slotLength.toNat ≤ 500 && 1 ≤ f.interval.toNat && f.interval.toNat ≤ 16

/-- A downlink source: dispatch or a repeater (R164). -/
def downlinkSource (h : Header) : Bool := h.source.toNat ≤ 63

/-- The transaction is ignored or answered REFUSED_FORMAT (R194). -/
def rejectedTransaction (octets : List Byte) : Bool :=
  match judgeTransaction octets with
  | .request _ => false
  | _ => true

/-- The command has operands that its event can bring. -/
def Instr.wellFormed : Instr → Bool
  | .powerOn pins => pressureReading pins.servicePressure && pressureReading pins.holdingPressure
  | .settingsLoadEnd image => image.length ≤ 7898
  | .hostFrameRejected octets => rejectedTransaction octets
  | .feedbackChange (.servicePressure v) => pressureReading v
  | .feedbackChange (.holdingPressure v) => pressureReading v
  | .frameDropped f => frameBody f.what.body
  | .beacon h f _ => downlinkSource h && beaconFields f
  | .restrict h _ _ => downlinkSource h
  | .revoke h _ _ => downlinkSource h
  | .syncDone h _ => downlinkSource h
  | .doorRelease h _ _ => downlinkSource h
  | .doorWithdraw h _ => downlinkSource h
  | .poll h => downlinkSource h
  | .notice h _ text => downlinkSource h && 1 ≤ text.length && text.length ≤ 48
  | .ack h _ => downlinkSource h
  | .unknownDoorCommand c _ => c.toNat == 0 || 7 < c.toNat
  | _ => true

end Sys2Proof
end

