-- ==== Sys2Proof/Certificates/Slice0/Obligations.lean ====
section
/-! DEFINITION. The statements for the provers, chapter by chapter. A statement gives a response as the slot
that `answer` gives. -/

open Sys2Proof Sys2Proof.Machine

/-! ### The queue and the passing of time -/

/-- A step takes the command at the front of the queue and runs it on the state with the queue's rest. -/
def Obligations.StepTakesFrontCommand : Prop :=
  ∀ (c : Instr) (s : State), step { s with pending := c :: s.pending } = exec c s

/-- THE MODEL'S CHOICE (assumption log 8): with no command waiting a step takes the first expiry that is due, or a
millisecond passes for every running timer, the check timer of each brake channel among them with the rest of the
channel kept, and nothing else changes. The expiries that are due are taken in the order silence, standstill, the
three check timers, the step timer, the leaves D1 to D4, the window, the second counter, the speed window, the
speed update by RTB first. The state that POWER_ON leaves has no expiry due, so a millisecond passes. -/
def Obligations.EmptyQueueLetsTimersRun : Prop :=
  ∀ (s : State), s.pending = [] →
    let checkOver := fun (c : Channel) => decide ((s.brc.channel c).supervision = .checking 0)
    let leafOver := fun (d : Drive) (c : Instr) (states : List LeafState) =>
      (((s.drc.leaves.get d).any fun l => l.timer == some 0 && states.contains l.state), c)
    let leaf := fun (d : Drive) =>
      [leafOver d (.openTimeout d) [.opening], leafOver d (.autoCloseDwell d) [.opened],
       leafOver d (.travelLimit d) [.closing], leafOver d (.lockTimeout d) [.locking],
       leafOver d (.reverseTime d) [.reversing .drive, .held .drive], leafOver d (.reopenDwell d) [.reversing .dwell],
       leafOver d (.holdRetryInterval d) [.held .dwell]]
    let due : List (Bool × Instr) :=
      [(s.vrl.silenceTimer == some 0, .silenceExpiry), (s.odo.standstillTimer == some 0, .standstillExpiry),
       (checkOver .service, .checkTimerExpiry .service), (checkOver .holding, .checkTimerExpiry .holding),
       (checkOver .emergency, .checkTimerExpiry .emergency),
       (s.brc.test.any fun t => t.left == 0, .stepTimerExpiry)] ++
      leaf .d1 ++ leaf .d2 ++ leaf .d3 ++ leaf .d4 ++
      [(s.vrl.windowTimer == some 0, .windowStart s.vrl.chBusy), (s.rtb.secondLeft == 0, .secondTick),
       (s.odo.windowLeft == 0, .speedUpdate true)]
    dueExpiry s = (due.find? Prod.fst).map Prod.snd ∧
    (∀ c, dueExpiry s = some c → step s = exec c s) ∧
    (dueExpiry s = none → ∃ t, step s = .next t ∧
      t.odo.standstillTimer = s.odo.standstillTimer.map (· - 1) ∧ t.odo.windowLeft = s.odo.windowLeft - 1 ∧
      t.rtb.secondLeft = s.rtb.secondLeft - 1 ∧ t.vrl.silenceTimer = s.vrl.silenceTimer.map (· - 1) ∧
      t.vrl.windowTimer = s.vrl.windowTimer.map (· - 1) ∧
      (∀ d, t.drc.leaves.get d = (s.drc.leaves.get d).map fun l => { l with timer := l.timer.map (· - 1) }) ∧
      t.brc.test = (s.brc.test.map fun x => { x with left := x.left - 1 }) ∧
      (∀ ch, t.brc.channel ch = { s.brc.channel ch with
        supervision := match (s.brc.channel ch).supervision with
          | .idle => .idle
          | .checking left => .checking (left - 1)
          | .settled => .settled }) ∧
      t = { s with
        odo.standstillTimer := t.odo.standstillTimer, odo.windowLeft := t.odo.windowLeft,
        rtb.secondLeft := t.rtb.secondLeft,
        vrl := { s.vrl with silenceTimer := t.vrl.silenceTimer, windowTimer := t.vrl.windowTimer },
        drc.leaves := t.drc.leaves,
        brc := { s.brc with
          test := t.brc.test, service := t.brc.service, holding := t.brc.holding, emergency := t.brc.emergency } }) ∧
    ∀ pins t, exec (.powerOn pins) s = .next t → dueExpiry t = none

/-- Every command in every state has its effect: it answers a next state, neither a fault nor a refusal, and leaves
the commands that wait alone. -/
def Obligations.EveryCommandAnswersAndKeepsQueue : Prop :=
  ∀ (c : Instr) (s : State), ∃ t, exec c s = .next t ∧ t.pending = s.pending

/-! ### Chapter 1: modes, direction, parameters, LINE_RESET -/

/-- A used leaf counts as locked when it is LOCKED, or ISOLATED with its lock switch confirming (R7). SET_MODE by the
checks of R6 in turn, with the conditions of R7 in ascending order of detail code; a refused request or the
present mode changes nothing but the response slot. An accepted change (R8): NO_PROFILE follows SHUNT, the mode's
holding demand follows STABLED, the permit is evaluated with the new mode and the latch keeps its causes; leaving
supervision ends it at SSV, withdraws the intervention demand and applies the pending set whole. Outside SERVICE
the missed-entry watch is kept when MISSED and IDLE otherwise (R25), and the reverse-travel accumulator is 0 on
entry to SERVICE or SHUNT from STABLED or PREPARATION and kept otherwise (R31). Release in force after it:
ReleaseInForceAndItsChanges. -/
def Obligations.SetModeJudgedInOrder : Prop :=
  ∀ (s : State) (code : Byte), s.resetting = false →
    (everyLeafLocked s.drc = true ↔ ∀ d l, s.drc.leaves.get d = some l →
      l.state = .locked ∨ (∃ c, l.state = .isolated c) ∧ (s.drc.inputs.get d).lockSw = true) ∧
    ∃ t, exec (.setMode code) s = .next t ∧
      match Mode.ofCode code with
      | none => t = answered s 0x10 (refuse .refusedRange)
      | some target =>
        if target = s.cmc.mode then t = answered s 0x10 { code := .done }
        else if s.sld.status = .loading ∧ target ≠ .stabled then
          t = answered s 0x10 (refuse .refusedBusy)
        else if s.brc.test ≠ none then t = answered s 0x10 (refuse .refusedBusy)
        else if s.odo.motion ≠ .standstill then
          t = answered s 0x10 (refuse .refusedMotion)
        else if (target = .stabled ∨ target = .preparation ∧ (s.cmc.mode = .service ∨ s.cmc.mode = .shunt)) ∧
            everyLeafLocked s.drc = false then t = answered s 0x10 (refuseDetail 0x01)
        else if target = .service ∧ s.lps.status ≠ .valid then
          t = answered s 0x10 (refuseDetail 0x02)
        else if target = .service ∧ s.odo.status = .unknown then
          t = answered s 0x10 (refuseDetail 0x03)
        else if (target = .service ∨ target = .shunt) ∧ s.cmc.selected = .neutral then
          t = answered s 0x10 (refuseDetail 0x04)
        else if target = .service ∧
            (s.brc.service.health = .untested ∨ s.brc.service.health = .failed ∨ s.brc.holding.health = .untested ∨
             s.brc.holding.health = .failed ∨ s.brc.emergency.health = .untested ∨ s.brc.emergency.health = .failed)
          then t = answered s 0x10 (refuseDetail 0x05)
        else if target = .shunt ∧ s.brc.emergency.health ≠ .ok then
          t = answered s 0x10 (refuseDetail 0x06)
        else if (target = .service ∨ target = .shunt) ∧ s.brc.latch.any = true then
          t = answered s 0x10 (refuseDetail 0x07)
        else
          t.hlp.slot = answer s 0x10 { code := .done } ∧ t.cmc.mode = target ∧ t.cmc.selected = s.cmc.selected ∧
          t.cmc.resetParts = s.cmc.resetParts ∧
          t.ssv.blankets = { s.ssv.blankets with noProfile := target == .shunt } ∧
          t.brc.hold.mode = (target == .stabled) ∧ t.brc.permit = permitCondition t ∧ t.brc.latch = s.brc.latch ∧
          (if (s.cmc.mode = .service ∨ s.cmc.mode = .shunt) ∧ (target = .stabled ∨ target = .preparation) then
            t.ssv.state = .normal ∧ t.ssv.permitted = 0 ∧ t.ssv.acknowledged = false ∧ t.ssv.released = false ∧
            t.ssv.overspeed = false ∧ t.brc.demands.intervention = none ∧
            t.cmc.params = applyPending s.cmc.params s.cmc.pendingSet ∧ t.cmc.pendingSet = emptyPending
          else
            t.ssv = { s.ssv with blankets := t.ssv.blankets } ∧ t.cmc.params = s.cmc.params ∧
            t.cmc.pendingSet = s.cmc.pendingSet ∧ t.brc.demands.intervention = s.brc.demands.intervention) ∧
          t.odo.watch =
            (if target = .service then s.odo.watch
             else match s.odo.watch with | .missed x => .missed x | _ => .idle) ∧
          t.odo.reverse =
            (if (s.cmc.mode = .stabled ∨ s.cmc.mode = .preparation) ∧ (target = .service ∨ target = .shunt) then 0
             else s.odo.reverse) ∧
          t.odo = { s.odo with watch := t.odo.watch, reverse := t.odo.reverse } ∧ t.lps = s.lps ∧ t.rtb = s.rtb ∧
          t.vrl = { s.vrl with queue := t.vrl.queue, uplinkCounter := t.vrl.uplinkCounter } ∧ t.sld = s.sld ∧
          t.pending = s.pending

/-- SET_DIRECTION by the checks of R9 in turn; a new direction clears the reverse-travel accumulator, and the permit
is evaluated with it. -/
def Obligations.SetDirectionJudgedInOrder : Prop :=
  ∀ (s : State) (code : Byte), s.resetting = false →
    ∃ t, exec (.setDirection code) s = .next t ∧
      match Selected.ofCode code with
      | none => t = answered s 0x11 (refuse .refusedRange)
      | some d =>
        if d = s.cmc.selected then t = answered s 0x11 { code := .done }
        else if s.odo.motion ≠ .standstill then
          t = answered s 0x11 (refuse .refusedMotion)
        else
          t.cmc = { s.cmc with selected := d } ∧ t.odo = { s.odo with reverse := 0 } ∧
          t.brc.permit = permitCondition t ∧ (d = .neutral → t.brc.permit = false) ∧ t.brc.latch = s.brc.latch ∧
          t.brc.demands.intervention = s.brc.demands.intervention ∧ t.lps = s.lps ∧ t.rtb = s.rtb ∧
          t.ssv = s.ssv ∧ t.drc = s.drc ∧ t.vrl = s.vrl ∧
          t.hlp = { s.hlp with slot := answer s 0x11 { code := .done }, sdo := [] } ∧ t.sld = s.sld ∧ t.pending = s.pending

/-- SET_PARAMETER by the checks of R11 in turn: its refusals; a deferred parameter in SERVICE or SHUNT held in the
pending set with the active values unchanged; any other accepted write active at once. The value stored is the one
clamped to the parameter's range, a margin's against its partner's pending value or else its active value.
READ_PARAMETER (R12): the active value, with the pending value when one is held; nothing but the slot changes. The
octets of both bodies, ACTIVE 1 and PENDING 2 and four octets for a value, are the model's choice (assumption log 3). -/
def Obligations.ParameterWriteAndRead : Prop :=
   (∀ (s : State) (number : Byte) (value : Word), s.resetting = false →
      let n := number.toNat
      let w := clampParam n (pendingOrActive s (if n = 10 then 11 else if n = 11 then 10 else n)) value.toNat
      let supervised := s.cmc.mode = .service ∨ s.cmc.mode = .shunt
      ∃ t, exec (.setParameter number value) s = .next t ∧
        if n = 0 ∨ 52 < n then t = answered s 0x23 (refuse .refusedRange)
        else if s.sld.status = .loading ∨ s.sld.status = .saving then
          t = answered s 0x23 (refuse .refusedBusy)
        else if s.brc.test ≠ none ∧ 19 ≤ n ∧ n ≤ 25 then
          t = answered s 0x23 (refuse .refusedBusy)
        else if supervised ∧ 32 ≤ n ∧ n ≤ 50 then t = answered s 0x23 (refuse .refusedMode)
        else if supervised ∧ n ≤ 31 then
          t = { s with
                cmc.pendingSet := s.cmc.pendingSet.set (n - 1) (some w),
                hlp.sdo := [], hlp.slot := answer s 0x23
                  { code := if w = value.toNat then .done else .doneClamped, body := octets1 n ++ octets4 w ++ [2] } }
        else
          t.hlp.slot = answer s 0x23
            { code := if w = value.toNat then .done else .doneClamped, body := octets1 n ++ octets4 w ++ [1] } ∧
          t.cmc = { s.cmc with params := s.cmc.params.set (n - 1) w } ∧ t.odo = s.odo ∧ t.lps = s.lps ∧
          t.rtb = s.rtb ∧ t.ssv = s.ssv ∧ t.sld = s.sld ∧ t.pending = s.pending) ∧
   (∀ (s : State) (number : Byte), s.resetting = false →
      let n := number.toNat
      let pending : List Byte := match pendingValue s.cmc.pendingSet n with
        | none => [0, 0, 0, 0, 0]
        | some v => [1] ++ octets4 v
      exec (.readParameter number) s = .next { s with
        hlp.sdo := [],
        hlp.slot :=
          if n = 0 ∨ 52 < n then answer s 0x0D (refuse .refusedRange)
          else answer s 0x0D { code := .done, body := octets4 (paramValue s.cmc.params n) ++ pending } })

/-- STANDSTILL_EXPIRY with the timer running (R12, R27): ODO reports STANDSTILL, and in SERVICE or SHUNT the pending
set becomes active whole and empties; in STABLED and PREPARATION the parameters stay. With no timer running nothing
happens. -/
def Obligations.StandstillAppliesPendingSet : Prop :=
  ∀ (s : State),
    (s.odo.standstillTimer = none → exec .standstillExpiry s = .next s) ∧
    (s.odo.standstillTimer ≠ none →
      ∃ t, exec .standstillExpiry s = .next t ∧
        t.odo = { s.odo with motion := .standstill, standstillTimer := none } ∧
        (if s.cmc.mode = .service ∨ s.cmc.mode = .shunt then
          t.cmc = { s.cmc with params := applyPending s.cmc.params s.cmc.pendingSet, pendingSet := emptyPending }
        else t.cmc = s.cmc) ∧
        t.brc.latch = s.brc.latch ∧ t.brc.hold.auto = (autoHold t.cmc.params && !permitCondition t) ∧
        t.lps = s.lps ∧ t.rtb = s.rtb ∧ t.ssv = s.ssv ∧
        t.vrl = { s.vrl with queue := t.vrl.queue, uplinkCounter := t.vrl.uplinkCounter } ∧
        t.hlp.slot = s.hlp.slot ∧ t.sld = s.sld ∧ t.pending = s.pending)

/-- LINE_RESET (R13): refused during the start-up load and away from standstill; otherwise a car in SERVICE goes to
PREPARATION, the pending set empties unapplied, the slot is PENDING and every owner has its part before it. Each owner
then takes its part once: the slot stays PENDING while another part is outstanding, and DONE stands, with the LOST
flag judged when the request was taken (R196), after the last part, whichever it is. A part that is not outstanding
changes nothing (assumption log 11). -/
def Obligations.LineResetBeginsAndEnds : Prop :=
  ∀ (s : State),
    (s.resetting = false → ∃ t, exec .lineReset s = .next t ∧
      if s.sld.status = .loading then t = answered s 0x26 (refuse .refusedBusy)
      else if s.odo.motion ≠ .standstill then t = answered s 0x26 (refuse .refusedMotion)
      else
        t.cmc =
          { s.cmc with
            mode := if s.cmc.mode = .service then .preparation else s.cmc.mode, pendingSet := emptyPending,
            resetParts := ⟨true, true, true, true, true, true⟩ } ∧
        t.hlp.slot = .pending s.hlp.slot.isUnread ∧
        (s.cmc.mode = .service →
          t.ssv.state = .normal ∧ t.ssv.permitted = 0 ∧ t.brc.demands.intervention = none) ∧
        (s.cmc.mode ≠ .service → t.brc = s.brc ∧ t.drc = s.drc ∧ t.vrl = s.vrl) ∧
        t.brc.latch = s.brc.latch ∧ t.odo = { s.odo with watch := t.odo.watch } ∧ t.lps = s.lps ∧ t.rtb = s.rtb ∧
        t.sld = s.sld ∧ t.pending = s.pending) ∧
    (∀ (lost : Bool) (c : Instr) (outstanding : Bool) (left : ResetParts), s.hlp.slot = .pending lost →
      (c, outstanding, left) ∈
        [(Instr.odoLineReset, s.cmc.resetParts.odo, { s.cmc.resetParts with odo := false }),
         (.rtbLineReset, s.cmc.resetParts.rtb, { s.cmc.resetParts with rtb := false }),
         (.ssvLineReset, s.cmc.resetParts.ssv, { s.cmc.resetParts with ssv := false }),
         (.brcLineReset, s.cmc.resetParts.brc, { s.cmc.resetParts with brc := false }),
         (.drcLineReset, s.cmc.resetParts.drc, { s.cmc.resetParts with drc := false }),
         (.vrlLineReset, s.cmc.resetParts.vrl, { s.cmc.resetParts with vrl := false })] →
      if outstanding = true then
        ∃ t, exec c s = .next t ∧ t.cmc.resetParts = left ∧
          t.hlp.slot =
            if left = ⟨false, false, false, false, false, false⟩ then .unread ⟨0x26, .done, 0, lost, []⟩
            else .pending lost
      else exec c s = .next s)

/-- The owners' parts of a LINE_RESET in progress (R35, R76, R111, R130, R163, R183, R193): what each leaves, with
mode, parameters, profile and settings untouched by every one of them. TABLE_OVERFLOW goes at RTB's part, or, when
LINK_SILENCE does not stand yet and VRL's part is still to come, at that part (R97: assumption log 4). At SSV's
part the supervision record is IDLE (R95). At DRC's part a LOCKED leaf stays LOCKED, and every other leaf starts
to close at profile 1, each gang at index 1, and finds what stands on its lines (ClosingStartsFindTheirLines). THE
MODEL'S CHOICE there: D1 first and the order of the lines at one leaf (assumption log 6), and that an active
overcurrent line isolates whatever the cause was before and that profile 3 follows 2 in SHORT (assumption log 14).
VRL keeps at its part what R183 and R193 keep: receiver, errors and counts, last source and sequence, last window,
silence timer, transmission, and the uplink and list counters; a dialogue that leaves REPORTING or JOINED raises
DIALOGUE. -/
def Obligations.LineResetParts : Prop :=
  ∀ (s : State),
    let notLocked : Drive → Leaf → Bool := fun _ l => l.state != .locked
    let restarted := setGangIndex .left 1 (setGangIndex .right 1 s)
    (s.cmc.resetParts.odo = true → ∃ t, exec .odoLineReset s = .next t ∧
      t.odo = { s.odo with status := .unknown, degradedReason := none, watch := t.odo.watch } ∧
      t.odo.watch = (match s.odo.watch with | .missed x => .missed x | _ => .idle) ∧
      t.ssv.blankets = { s.ssv.blankets with position := true } ∧
      (∀ c, s.brc.latch.has c = true → t.brc.latch.has c = true) ∧
      t.cmc = { s.cmc with resetParts := t.cmc.resetParts } ∧ t.lps = s.lps ∧ t.rtb = s.rtb ∧ t.sld = s.sld) ∧
    (s.cmc.resetParts.rtb = true → ∃ t, exec .rtbLineReset s = .next t ∧
      heldRecords t = [] ∧ t.rtb.overflow = false ∧ t.rtb.overflowCount = 0 ∧
      t.rtb.changeCount = s.rtb.changeCount + 1 ∧
      t.ssv = { s.ssv with
        resetView := t.ssv.resetView,
        blankets := if s.ssv.blankets.linkSilence = true ∨ s.cmc.resetParts.vrl = false then
            { s.ssv.blankets with tableOverflow := false }
          else s.ssv.blankets } ∧
      t.odo = s.odo ∧ t.brc = s.brc ∧ t.drc = s.drc ∧ t.vrl = s.vrl ∧
      t.cmc = { s.cmc with resetParts := t.cmc.resetParts } ∧ t.lps = s.lps ∧ t.sld = s.sld) ∧
    (s.cmc.resetParts.ssv = true → ∃ t, exec .ssvLineReset s = .next t ∧
      t.ssv.state = .normal ∧ t.ssv.permitted = 0 ∧ t.ssv.acknowledged = false ∧ t.ssv.released = false ∧
      t.ssv.overspeed = false ∧ t.ssv.record = ⟨.idle, t.ssv.record.direction, 0, 0, 0, none, none, 0⟩ ∧
      t.brc.demands.intervention = none ∧ t.brc.latch = s.brc.latch ∧ t.ssv.blankets = s.ssv.blankets ∧
      t.odo = s.odo ∧ t.rtb = s.rtb ∧ t.drc = s.drc ∧ t.vrl = s.vrl ∧
      t.cmc = { s.cmc with resetParts := t.cmc.resetParts } ∧ t.lps = s.lps ∧ t.sld = s.sld) ∧
    (s.cmc.resetParts.brc = true → ∃ t, exec .brcLineReset s = .next t ∧
      t.brc.test = none ∧ t.brc.hostHold = .apply ∧ t.brc.latch = s.brc.latch ∧
      t.brc.driverLevel = s.brc.driverLevel ∧ (∀ c, (t.brc.channel c).health = (s.brc.channel c).health) ∧
      (s.brc.test ≠ none → t.brc.result.overall = .aborted ∧ t.brc.result.abort.map Prod.fst = some .lineReset) ∧
      t.odo = s.odo ∧ t.rtb = s.rtb ∧ t.ssv.blankets = s.ssv.blankets ∧ t.drc = s.drc ∧ t.vrl = s.vrl ∧
      t.cmc = { s.cmc with resetParts := t.cmc.resetParts } ∧ t.lps = s.lps ∧ t.sld = s.sld) ∧
    (s.cmc.resetParts.drc = true → ∃ t, exec .drcLineReset s = .next t ∧
      t.drc.release = none ∧ t.drc.inForce = none ∧ t.drc.lastRefused = none ∧
      (∀ d l, s.drc.leaves.get d = some l → l.state = .locked → t.drc.leaves.get d = some l) ∧
      (∀ d, t.drc.leaves.get d = closedTogether restarted 1 notLocked d) ∧
      (∀ side g, restarted.drc.gang side = some g →
        g.index = 1 ∧ t.drc.gang side = some (gangClosed restarted 1 notLocked side g)) ∧
      (∀ d m, t.drc.leaves.get d = some m → m.state ≠ .unlocked ∧ m.state ≠ .opening ∧ m.state ≠ .opened) ∧
      t.odo = s.odo ∧ t.rtb = s.rtb ∧ t.ssv.blankets = s.ssv.blankets ∧
      t.cmc = { s.cmc with resetParts := t.cmc.resetParts } ∧ t.lps = s.lps ∧ t.sld = s.sld) ∧
    (s.cmc.resetParts.vrl = true → ∃ t, exec .vrlLineReset s = .next t ∧
      t.vrl = { s.vrl with
        dialogue := .unjoined, queue := [], notices := [], lastNotice := none, beacon := none, windowTimer := none,
        currentList := none, windowCount := 255, pollMark := false } ∧
      t.hlp.attention = { s.hlp.attention with
        dialogue := decide (s.vrl.dialogue ≠ .unjoined) || s.hlp.attention.dialogue } ∧
      t.ssv.blankets = { s.ssv.blankets with
        linkSilence := decide (s.vrl.dialogue ≠ .unjoined) || s.ssv.blankets.linkSilence,
        tableOverflow := s.ssv.blankets.tableOverflow &&
          decide (s.cmc.resetParts.rtb = true ∨ s.rtb.overflow = true) } ∧
      t.odo = s.odo ∧ t.rtb = s.rtb ∧ t.brc = s.brc ∧ t.drc = s.drc ∧
      t.cmc = { s.cmc with resetParts := t.cmc.resetParts } ∧ t.lps = s.lps ∧ t.sld = s.sld)

/-! ### Chapter 2: position and motion -/

/-- PULSE_COUNT (R15, R16, R22, R27, R29, R31): the count total of its pair moves by 1 and the other three totals
stay; the state is MOVING with the standstill timer at its full length; W and the engagement state change by
R22; a count from the selected source enters the speed sum and the reverse-travel accumulator, and a count from
the other source enters neither. The source is TOOTH or WHEEL by R17. THE MODEL'S CHOICE (assumption log 14):
the accumulator stops at the line length in use at each count that adds to it. ILLEGAL_STEP: the illegal-step
total of the pair rises by 1 and stays at 65,535; it is no count, so nothing else changes. -/
def Obligations.PulseCountCounts : Prop :=
  ∀ (s : State) (pair source : Pair) (way : Way), countsFrom s source →
    let pitch := paramValue s.cmc.params 32
    let wheelDistance := paramValue s.cmc.params 33 * 1000 / paramValue s.cmc.params 34
    let d := match pair with | .tooth => pitch * 1000 | .wheel => wheelDistance
    let one : BitVec 32 := match way with | .up => 1 | .down => -1
    let against : Bool := match s.cmc.selected, way with
      | .up, .up => false | .up, .down => true | .down, .up => true | .down, .down => false | .neutral, _ => true
    (∃ t, exec (.pulseCount pair way) s = .next t ∧
      t.odo.toothTotal = (match pair with | .tooth => s.odo.toothTotal + one | .wheel => s.odo.toothTotal) ∧
      t.odo.wheelTotal = (match pair with | .tooth => s.odo.wheelTotal | .wheel => s.odo.wheelTotal + one) ∧
      t.odo.toothIllegal = s.odo.toothIllegal ∧ t.odo.wheelIllegal = s.odo.wheelIllegal ∧
      t.odo.motion = .moving ∧ t.odo.standstillTimer = some (paramValue s.cmc.params 38) ∧
      t.odo.wheelTravel = (match pair with | .tooth => 0 | .wheel => s.odo.wheelTravel + d) ∧
      t.odo.engagement =
        (match pair with
         | .tooth => if s.odo.wheelTravel < 2 * pitch * 1000 then s.odo.engagement else .engaged
         | .wheel => if s.odo.wheelTravel + d < 2 * pitch * 1000 then s.odo.engagement else .free) ∧
      (if source = pair then
        t.odo.windowSum = (match way with | .up => s.odo.windowSum + d | .down => s.odo.windowSum - d) ∧
        t.odo.reverse =
          if against = true then min (s.odo.reverse + d) (lineLength s * 1000) else s.odo.reverse - d
       else t.odo.windowSum = s.odo.windowSum ∧ t.odo.reverse = s.odo.reverse) ∧
      t.odo.speed = s.odo.speed ∧ t.odo.travel = s.odo.travel ∧ t.odo.windowLength = s.odo.windowLength ∧
      t.odo.windowLeft = s.odo.windowLeft ∧ t.odo.report = s.odo.report ∧
      t.cmc = s.cmc ∧ t.lps = s.lps ∧ t.rtb = s.rtb ∧ t.hlp.slot = s.hlp.slot ∧ t.sld = s.sld ∧
      t.pending = s.pending) ∧
    exec (.illegalStep .tooth) s = .next { s with odo.toothIllegal := min (s.odo.toothIllegal + 1) 65535 } ∧
    exec (.illegalStep .wheel) s = .next { s with odo.wheelIllegal := min (s.odo.wheelIllegal + 1) 65535 }

/-- The estimate at a count that does not anchor (R17, R18, R23): with an estimate present a count from the selected
source moves N by its distance, within the line, and a wheel count raises U by the growth rounded up, held at
the line length; a VALID status whose U then exceeds the cap becomes DEGRADED with reason CAP, and no other
status changes. A count from the other source, or an absent estimate, changes neither estimate nor status. An
engagement UP, and a disengagement DOWN, with an estimate present or retained, anchors the estimate as the
count's own move leaves it (R23, R24): a RACK_ENTRY start within U + 2 pitches of N that is nearest, and the
lower of two at equal distance, becomes N, with U half a pitch and status VALID; with none within reach N and U
stay, and the status becomes DEGRADED with reason CONFLICT and an ALARM queued, unless it is UNKNOWN. An
engagement leaves the watch IDLE (R25). -/
def Obligations.PulseCountMovesOrAnchorsEstimate : Prop :=
   (∀ (s : State) (pair source : Pair) (way : Way), countsFrom s source → (meshing s pair = .engagement → way = .down) →
      (meshing s pair = .disengagement → way = .up) →
      ∃ t, exec (.pulseCount pair way) s = .next t ∧
        (source ≠ pair ∨ s.odo.estimate = none →
          t.odo.estimate = s.odo.estimate ∧ t.odo.status = s.odo.status ∧
          t.odo.degradedReason = s.odo.degradedReason) ∧
        (∀ e, source = pair → s.odo.estimate = some e →
          let line := lineLength s * 1000
          let wheelDistance := paramValue s.cmc.params 33 * 1000 / paramValue s.cmc.params 34
          let d := match pair with | .tooth => paramValue s.cmc.params 32 * 1000 | .wheel => wheelDistance
          let grown := match pair with
            | .tooth => e.uncertainty
            | .wheel => e.uncertainty + (wheelDistance * paramValue s.cmc.params 35 + 999) / 1000
          let n := match way with | .up => e.nominal + d | .down => e.nominal - d
          t.odo.estimate = some ⟨min n line, min grown line⟩ ∧
          (if s.odo.status = .valid ∧ paramValue s.cmc.params 36 * 1000 < min grown line then
            t.odo.status = .degraded ∧ t.odo.degradedReason = some .cap ∧ t.ssv.blankets.position = true
           else
            t.odo.status = s.odo.status ∧ t.odo.degradedReason = s.odo.degradedReason ∧
            t.ssv.blankets = s.ssv.blankets))) ∧
   (∀ (s : State) (e : Estimate) (pair source : Pair), countsFrom s source → s.odo.estimate = some e →
      (pair = .tooth → meshing s .tooth = .engagement) → (pair = .wheel → meshing s .wheel = .disengagement) →
      let line := lineLength s * 1000
      let wheelDistance := paramValue s.cmc.params 33 * 1000 / paramValue s.cmc.params 34
      let pitch := paramValue s.cmc.params 32
      let moves := source = pair
      let n := match pair with
        | .tooth => if moves then min (e.nominal + pitch * 1000) line else e.nominal
        | .wheel => if moves then min (e.nominal - wheelDistance) line else e.nominal
      let u := match pair with
        | .tooth => if moves then min e.uncertainty line else e.uncertainty
        | .wheel =>
          if moves then min (e.uncertainty + (wheelDistance * paramValue s.cmc.params 35 + 999) / 1000) line
          else e.uncertainty
      let inReach := fun (start : Nat) =>
        n ≤ start * 1000 + (u + 2 * pitch * 1000) ∧ start * 1000 ≤ n + (u + 2 * pitch * 1000)
      let distance := fun (start : Nat) => (start * 1000 - n) + (n - start * 1000)
      ∃ t, exec (.pulseCount pair (match pair with | .tooth => .up | .wheel => .down)) s = .next t ∧
        t.odo.engagement = (match pair with | .tooth => .engaged | .wheel => .free) ∧
        (pair = .tooth → t.odo.watch = .idle) ∧
        (∀ start ∈ entryStarts s, inReach start →
          (∀ other ∈ entryStarts s, inReach other →
            distance start < distance other ∨ distance start = distance other ∧ start ≤ other) →
          t.odo.estimate = some ⟨start * 1000, pitch * 500⟩ ∧ t.odo.status = .valid ∧
          t.odo.degradedReason = none ∧ t.ssv.blankets = { s.ssv.blankets with position := false }) ∧
        ((∀ start ∈ entryStarts s, ¬ inReach start) →
          t.odo.estimate = some ⟨n, u⟩ ∧
          (if s.odo.status = .unknown then t.odo.status = .unknown ∧ t.ssv.blankets = s.ssv.blankets
           else
            t.odo.status = .degraded ∧ t.odo.degradedReason = some .conflict ∧
            t.ssv.blankets = { s.ssv.blankets with position := true } ∧ ∃ x ∈ t.vrl.queue, x.kind = .alarm)))

/-- The emergency causes a count brings: STABLED_MOTION at any count in STABLED and in no other mode (R2, R15);
ROLLBACK when an adding count leaves the accumulator above the allowance in SERVICE or SHUNT (R32); DOOR_MOTION when
the count starts motion with a used leaf not locked (R28, R161); RACK_MISSED, with the watch MISSED, when in SERVICE a
wheel count from the selected source that changes no engagement leaves the minimum position above the ARMED start plus
the entry window (R26). The latch keeps every cause it held.
The missed-entry watch after a count (R25, R26): an engagement leaves it IDLE; a MISSED watch otherwise stays; an ARMED
one goes IDLE when the status is UNKNOWN or the maximum position lies below its start, and is otherwise kept or, passed,
MISSED; an IDLE one is armed in SERVICE with engagement FREE by the lowest RACK_ENTRY start that the maximum position
has newly reached, and stays IDLE with no such start. -/
def Obligations.MotionSetsLatchCauses : Prop :=
  ∀ (s : State) (pair source : Pair) (way : Way), countsFrom s source → ∃ t, exec (.pulseCount pair way) s = .next t ∧
    (∀ c, s.brc.latch.has c = true → t.brc.latch.has c = true) ∧
    (s.cmc.mode = .stabled → t.brc.latch.stabledMotion = true) ∧
    (s.cmc.mode ≠ .stabled → t.brc.latch.stabledMotion = s.brc.latch.stabledMotion) ∧
    ((s.cmc.mode = .service ∨ s.cmc.mode = .shunt) → s.odo.reverse < t.odo.reverse →
      paramValue s.cmc.params 40 * 1000 < t.odo.reverse → t.brc.latch.rollback = true) ∧
    (s.odo.motion = .standstill → everyLeafLocked s.drc = false → t.brc.latch.doorMotion = true) ∧
    (∀ start e, s.odo.watch = .armed start → s.cmc.mode = .service → pair = .wheel → meshing s .wheel = .none →
      source = .wheel → s.odo.status ≠ .unknown → t.odo.estimate = some e →
      (start + paramValue s.cmc.params 37) * 1000 < e.nominal - e.uncertainty →
      t.odo.watch = .missed start ∧ t.brc.latch.rackMissed = true) ∧
    let engages : Prop := s.odo.engagement = .free ∧ t.odo.engagement = .engaged
    let passes := fun (start : Nat) => source = pair ∧ s.cmc.mode = .service ∧ ∃ e, t.odo.estimate = some e ∧
      (start + paramValue s.cmc.params 37) * 1000 < e.nominal - e.uncertainty
    let armedOrMissed := fun (start : Nat) =>
      (passes start → t.odo.watch = .missed start ∧ t.brc.latch.rackMissed = true) ∧
      (¬passes start → t.odo.watch = .armed start)
    let reached := fun (before now start : Nat) =>
      start ∈ entryStarts s ∧ before < start * 1000 ∧ start * 1000 ≤ now
    (engages → t.odo.watch = .idle) ∧
    (∀ start, ¬engages → s.odo.watch = .missed start → t.odo.watch = .missed start) ∧
    (∀ start, ¬engages → s.odo.watch = .armed start →
      (t.odo.status = .unknown → t.odo.watch = .idle) ∧
      ∀ now, maximumIs t now →
        (now < start * 1000 → t.odo.watch = .idle) ∧ (start * 1000 ≤ now → armedOrMissed start)) ∧
    (¬engages → s.odo.watch = .idle →
      (s.cmc.mode ≠ .service ∨ t.odo.engagement ≠ .free ∨ t.odo.status = .unknown → t.odo.watch = .idle) ∧
      ∀ before now, maximumIs s before → maximumIs t now → s.cmc.mode = .service → t.odo.engagement = .free →
        ((∀ start, ¬reached before now start) → t.odo.watch = .idle) ∧
        ∀ start, reached before now start → (∀ other, reached before now other → start ≤ other) →
          armedOrMissed start)

/-- SET_POSITION by the checks of R20 in turn, and what a taken request stores: N and U, U raised to half a pitch on a
RACK segment, the status by the cap, and the watch IDLE; engagement, W, accumulator and standstill state stay. -/
def Obligations.SetPositionJudgedInOrder : Prop :=
  ∀ (s : State) (position uncertainty : Word), s.resetting = false →
    let p := min position.toNat (lineLength s)
    let given := min uncertainty.toNat 50000 * 1000
    let u :=
      if ((containing s p).any fun g => g.record.track == some .rack) = true ∧
          given < paramValue s.cmc.params 32 * 500 then
        paramValue s.cmc.params 32 * 500
      else given
    let valid : Bool := decide (u ≤ paramValue s.cmc.params 36 * 1000)
    ∃ t, exec (.setPosition position uncertainty) s = .next t ∧
      if s.lps.status ≠ .valid then t = answered s 0x12 (refuseDetail 0x02)
      else if s.odo.motion ≠ .standstill then
        t = answered s 0x12 (refuse .refusedMotion)
      else
        t.hlp.slot =
          answer s 0x12
            { code := if position.toNat ≤ lineLength s ∧ uncertainty.toNat ≤ 50000 then .done else .doneClamped } ∧
        t.odo =
          { s.odo with
            estimate := some ⟨p * 1000, u⟩, status := if valid then .valid else .degraded,
            degradedReason := if valid then none else some .cap, watch := .idle } ∧
        t.ssv.blankets = { s.ssv.blankets with position := !valid } ∧
        t.brc.latch = s.brc.latch ∧ t.cmc = s.cmc ∧ t.lps = s.lps ∧ t.rtb = s.rtb ∧ t.sld = s.sld ∧
        t.pending = s.pending

/-! ### Chapter 3: the line profile -/

/-- PROFILE_BEGIN by the checks of R40 and R41 in turn. A taken request discards every segment and starts the load
record afresh; when the profile was VALID, ODO loses its estimate (R21, R45), and otherwise nothing but LPS and the
slot changes. PROFILE_SEGMENT by the checks of R40 and R42 in turn: a taken record, whatever its fields, joins at the
next index and raises the received count; nothing but LPS and the slot changes. The octets of the bodies, two for
each count, are the model's choice (assumption log 3). -/
def Obligations.ProfileLoadJudgedInOrder : Prop :=
   (∀ (s : State) (count : Half) (length : Word), s.resetting = false →
      ∃ t, exec (.profileBegin count length) s = .next t ∧
        if s.sld.status = .loading ∨ s.sld.status = .saving then
          t = answered s 0x20 (refuse .refusedBusy)
        else if s.cmc.mode = .service ∨ s.cmc.mode = .shunt then
          t = answered s 0x20 (refuse .refusedMode)
        else if count.toNat < 1 ∨ 512 < count.toNat ∨ length.toNat < 1000000 ∨ 40000000 < length.toNat then
          t = answered s 0x20 (refuse .refusedRange)
        else
          t.hlp.slot =
            answer s 0x20 { code := .done, body := octets2 count.toNat ++ octets4 length.toNat } ∧
          t.lps =
            { status := .loading, segments := [], announcedCount := count.toNat, receivedCount := 0,
              announcedLength := length.toNat, failure := none } ∧
          (s.lps.status = .valid →
            t.odo = { s.odo with
              status := .unknown, degradedReason := none, estimate := none, watch := t.odo.watch } ∧
            t.odo.watch = (match s.odo.watch with | .missed x => .missed x | _ => .idle) ∧
            t.ssv.blankets = { s.ssv.blankets with position := true }) ∧
          (s.lps.status ≠ .valid → t = { s with lps := t.lps, hlp.slot := t.hlp.slot, hlp.sdo := [] }) ∧
          t.cmc = s.cmc ∧ t.rtb = s.rtb ∧ (∀ c, s.brc.latch.has c = true → t.brc.latch.has c = true) ∧
          t.sld = s.sld ∧ t.pending = s.pending) ∧
   (∀ (s : State) (index : Half) (r : SegmentRecord), s.resetting = false →
      exec (.profileSegment index r) s = .next
        (if s.sld.status = .loading ∨ s.sld.status = .saving then
          answered s 0x21 (refuse .refusedBusy)
        else if s.cmc.mode = .service ∨ s.cmc.mode = .shunt then
          answered s 0x21 (refuse .refusedMode)
        else if s.lps.status ≠ .loading then answered s 0x21 (refuseDetail 0x08)
        else if index.toNat ≠ s.lps.receivedCount ∨ s.lps.announcedCount ≤ s.lps.receivedCount then
          answered s 0x21 (refuse .refusedRange)
        else
          { s with
            lps.segments := s.lps.segments ++ [r], lps.receivedCount := s.lps.receivedCount + 1,
            hlp.sdo := [], hlp.slot := answer s 0x21 { code := .done, body := octets2 (s.lps.receivedCount + 1) } }))

/-- PROFILE_END (R40, R43, R44): refused or outside a load it changes nothing but the slot. In a load the status
becomes VALID exactly when every segment received passes each check of R44 and none is missing; otherwise it is
INVALID, with the index of the first segment that fails and the reason of the first check it fails, or with the
first segment missing. The segments and the load record stay. The body's octets, its status codes and presence
octets among them, are the model's choice (assumption log 3). -/
def Obligations.ProfileEndValidates : Prop :=
  ∀ (s : State), s.resetting = false →
    let segs := s.lps.segments
    let outOfRange := fun (r : SegmentRecord) =>
      (r.kind ≠ 1 ∧ r.kind ≠ 2 ∧ r.kind ≠ 3) ∨ r.gradient.toInt < -300 ∨ 300 < r.gradient.toInt ∨
      12500 < r.limitUp.toNat ∨ 12500 < r.limitDown.toNat ∨ (r.stationPresent ≠ 0 ∧ r.stationPresent ≠ 1) ∨
      (r.stationPresent = 1 ∧
        (r.stationId.toNat < 1 ∨ 250 < r.stationId.toNat ∨ (r.sides ≠ 1 ∧ r.sides ≠ 2 ∧ r.sides ≠ 3) ∨
         (r.releaseOrigin ≠ 1 ∧ r.releaseOrigin ≠ 2)))
    let fails := fun (i : Nat) (r : SegmentRecord) (f : ProfileFault) =>
      match f with
      | .fieldRange => outOfRange r
      | .firstStart => i = 0 ∧ r.start ≠ 0
      | .startOrder => ∃ q, 0 < i ∧ segs[i - 1]? = some q ∧ r.start.toNat ≤ q.start.toNat
      | .startBeyond => s.lps.announcedLength ≤ r.start.toNat
      | .rackSequence =>
        r.track = some .rack ∧ (i = 0 ∨ ∃ q, segs[i - 1]? = some q ∧ q.track = some .adhesion)
      | .entrySequence =>
        r.track = some .rackEntry ∧ (i = 0 ∨ ∃ q, segs[i - 1]? = some q ∧ q.track ≠ some .adhesion)
      | .stationDuplicate =>
        r.isPlatform = true ∧ ∃ j q, j < i ∧ segs[j]? = some q ∧ q.isPlatform = true ∧ q.stationId = r.stationId
      | .incomplete => False
      | .header => False
    let passes := fun (i : Nat) (r : SegmentRecord) => ∀ f, ¬ fails i r f
    ∃ t, exec .profileEnd s = .next t ∧
      if s.sld.status = .loading ∨ s.sld.status = .saving then
        t = answered s 0x22 (refuse .refusedBusy)
      else if s.cmc.mode = .service ∨ s.cmc.mode = .shunt then
        t = answered s 0x22 (refuse .refusedMode)
      else if s.lps.status ≠ .loading then t = answered s 0x22 (refuseDetail 0x08)
      else
        ((t.lps.status = .valid ∧ t.lps.failure = none ∧ (∀ i r, segs[i]? = some r → passes i r) ∧
            s.lps.announcedCount ≤ s.lps.receivedCount ∧
            t.hlp.slot = answer s 0x22 { code := .done, body := [3, 0, 0, 0, 0, 0] }) ∨
         (∃ i f, t.lps.status = .invalid ∧ t.lps.failure = some (i, f) ∧
            (∀ j r, j < i → segs[j]? = some r → passes j r) ∧
            (if f = .incomplete then i = s.lps.receivedCount ∧ s.lps.receivedCount < s.lps.announcedCount ∧
               (∀ j r, segs[j]? = some r → passes j r)
             else ∃ r, segs[i]? = some r ∧ fails i r f ∧ ∀ g, g.code.toNat < f.code.toNat → ¬ fails i r g) ∧
            t.hlp.slot = answer s 0x22 { code := .done, body := [4, 1] ++ octets2 i ++ [1, f.code] })) ∧
        t.lps.segments = segs ∧ t.lps.announcedCount = s.lps.announcedCount ∧
        t.lps.receivedCount = s.lps.receivedCount ∧ t.lps.announcedLength = s.lps.announcedLength ∧
        t.cmc = s.cmc ∧ t.odo = s.odo ∧ t.rtb = s.rtb ∧ t.ssv = s.ssv ∧ t.sld = s.sld ∧ t.pending = s.pending

/-! ### Chapter 4: the restriction table -/

/-- An amendment by the four cases of R57, with the record's state after it; a revocation by the cases of R59; and the
merge of R58, wherever either would give a record a second trailing part: the zone from the lower start to the higher
end, the lower limit, and the union of the two applies-to values. No amendment and no revocation releases a stretch or
a direction before the car is clear of it (R57, R58, R59): with the car span not clear of the old in-force zone,
whatever the old part held at a place in a direction, some part of the record holds after the change with a limit no
higher; and the trailing part is held as well. Clearance (R55) is judged only with status VALID. -/
def Obligations.AmendmentAndRevocation : Prop :=
  (∀ (s : State) (zoneStart zoneEnd : Nat), clearOf s zoneStart zoneEnd = true ↔ spanClear s zoneStart zoneEnd) ∧
  (∀ (a b : TrailingPart),
    let m := mergeTrailing a (some b)
    m.zoneStart = min a.zoneStart b.zoneStart ∧ m.zoneEnd = max a.zoneEnd b.zoneEnd ∧ m.limit = min a.limit b.limit ∧
    (∀ w, m.appliesTo.includes w = (a.appliesTo.includes w || b.appliesTo.includes w)) ∧ mergeTrailing a none = a) ∧
  (∀ (s : State) (r : Restriction) (sequence : Option Byte) (p : NewPart),
    let c := amended s r sequence p
    c.origin = r.origin ∧ c.id = r.id ∧ c.sequence = sequence ∧ c.appliesTo = p.appliesTo ∧ c.life = p.life ∧
    c.inForce = some ⟨p.zoneStart, p.zoneEnd, p.limit⟩ ∧ (c.trailing = none → c.state = .active) ∧
    (c.trailing ≠ none → c.state = .relaxing) ∧ (r.inForce = none → c.trailing = r.trailing) ∧
    ∀ old, r.inForce = some old →
      let covers := p.zoneStart ≤ old.zoneStart ∧ old.zoneEnd ≤ p.zoneEnd ∧ p.limit ≤ old.limit ∧
        ∀ w, r.appliesTo.includes w = true → p.appliesTo.includes w = true
      let clear := clearOf s old.zoneStart old.zoneEnd = true
      (covers ∨ clear → c.trailing = r.trailing) ∧
      (¬covers → ¬clear →
        c.trailing = some (mergeTrailing ⟨old.zoneStart, old.zoneEnd, old.limit, r.appliesTo⟩ r.trailing))) ∧
  (∀ (s : State) (r : Restriction),
    (r.inForce = none → revoked s r = some { r with life := none }) ∧
    ∀ old, r.inForce = some old →
      revoked s r =
        if clearOf s old.zoneStart old.zoneEnd = true then
          if r.trailing = none then none else some { r with inForce := none, life := none }
        else
          some { r with
            inForce := none, life := none,
            trailing := some (mergeTrailing ⟨old.zoneStart, old.zoneEnd, old.limit, r.appliesTo⟩ r.trailing) }) ∧
  (∀ (s : State) (r : Restriction) (sequence : Option Byte) (p : NewPart) (x : Nat) (w : Way),
    let holds := fun (c : Restriction) (limit : Nat) =>
      (∃ q, c.inForce = some q ∧ q.zoneStart ≤ x ∧ x < q.zoneEnd ∧ q.limit ≤ limit ∧ c.appliesTo.includes w = true) ∨
      (∃ q, c.trailing = some q ∧ q.zoneStart ≤ x ∧ x < q.zoneEnd ∧ q.limit ≤ limit ∧ q.appliesTo.includes w = true)
    (∀ old, r.inForce = some old → clearOf s old.zoneStart old.zoneEnd = false → old.zoneStart ≤ x → x < old.zoneEnd →
      r.appliesTo.includes w = true →
      holds (amended s r sequence p) old.limit ∧ ∃ c, revoked s r = some c ∧ holds c old.limit) ∧
    (∀ old, r.trailing = some old → old.zoneStart ≤ x → x < old.zoneEnd → old.appliesTo.includes w = true →
      holds (amended s r sequence p) old.limit ∧ ∃ c, revoked s r = some c ∧ holds c old.limit))

/-- A RESTRICT telegram that reaches RTB, judged by the checks of R62, the sequence of R63 and the cases of R64 and
R65: the record it stores or changes, the reply it queues, and at a NAK FULL the overflow condition, its count, its
blanket, the dialogue's move out of JOINED, and, away from UNJOINED, the new list's pages queued in page order before
or after the reply (R177, R188, R189; the order comes with the command: assumption log 9). The clearance under which a
record changes is spelled in AmendmentAndRevocation. Other slots, and every block but RTB, VRL, SSV's blankets and
attention, stay. A REVOKE telegram that reaches RTB, judged by R62, R63 and the cases of R66: a newer sequence revokes
the record by R59, and nothing else is changed by any case but the reply that is queued. With six replies queued the
gate keeps a RESTRICT or REVOKE from RTB and counts it (R178). -/
def Obligations.RestrictAndRevokeTelegrams : Prop :=
   (∀ (s : State) (h : Header) (f : RestrictFields) (listFirst : Bool), reaches h s →
      countKind .restrictReply s.vrl.queue < 6 →
      let id := f.id.toNat
      let zs := min f.zoneStart.toNat (lineLength s)
      let ze := min f.zoneEnd.toNat (lineLength s)
      let life := if f.lifeFlag = 0 then none else some f.life.toNat
      let limit := min f.limit.toNat (paramValue s.cmc.params 1)
      let reply := fun (outcome code : Byte) => octets2 id ++ [f.sequence, outcome, code]
      let queued := fun (t : State) (body : List Byte) =>
        t.vrl.queue = s.vrl.queue ++ [⟨.restrictReply, s.vrl.uplinkCounter + 1, 0, body⟩] ∧
        t.vrl.uplinkCounter = s.vrl.uplinkCounter + 1 ∧ t.vrl.dialogue = s.vrl.dialogue ∧ t.ssv = s.ssv
      ∃ t, exec (.restrict h f listFirst) s = .next t ∧ heard h s t ∧
        t.cmc = s.cmc ∧ t.odo = s.odo ∧ t.lps = s.lps ∧ t.brc = s.brc ∧ t.drc = s.drc ∧ t.hlp.slot = s.hlp.slot ∧
        t.sld = s.sld ∧ t.pending = s.pending ∧
        match AppliesTo.ofCode f.appliesTo with
        | none => t.rtb = s.rtb ∧ queued t (reply 1 1)
        | some a =>
          if id < 1 ∨ 4095 < id ∨ life = some 0 ∨ ze ≤ zs then t.rtb = s.rtb ∧ queued t (reply 1 1)
          else
            match findRecord s .dispatch id with
            | none =>
              match freeSlot s with
              | some i =>
                slotRecord t i =
                  some ⟨.dispatch, id, some f.sequence, a, some ⟨zs, ze, limit⟩, none, life⟩ ∧
                (∀ j, j ≠ i → slotRecord t j = slotRecord s j) ∧ t.rtb.changeCount = s.rtb.changeCount + 1 ∧
                t.rtb.overflow = s.rtb.overflow ∧ t.rtb.overflowCount = s.rtb.overflowCount ∧
                t.hlp.attention.restriction = true ∧ queued t (reply 0 0)
              | none =>
                (∀ j, slotRecord t j = slotRecord s j) ∧ t.rtb.changeCount = s.rtb.changeCount ∧
                t.rtb.overflow = true ∧ t.rtb.overflowCount = min (s.rtb.overflowCount + 1) 255 ∧
                t.ssv = { s.ssv with blankets := { s.ssv.blankets with tableOverflow := true } } ∧
                (let c := s.vrl.uplinkCounter
                 let q := s.vrl.listCounter + 1
                 let answer := fun (sequence : Byte) => UplinkEntry.mk .restrictReply sequence 0 (reply 1 3)
                 if s.vrl.dialogue = .unjoined then
                   t.vrl.dialogue = .unjoined ∧ t.vrl.queue = s.vrl.queue ++ [answer (c + 1)] ∧
                   t.vrl.uplinkCounter = c + 1 ∧ t.vrl.listCounter = s.vrl.listCounter ∧
                   t.vrl.currentList = s.vrl.currentList
                 else
                   let kept := s.vrl.queue.filter fun e => e.kind != .restrictList
                   let n := BitVec.ofNat 8 (pages q (listEntries s)).length
                   t.vrl.dialogue = .reporting ∧ t.vrl.listCounter = q ∧ t.vrl.currentList = some q ∧
                   t.vrl.uplinkCounter = c + n + 1 ∧
                   t.vrl.queue =
                     if listFirst = true then kept ++ queuedPages c q (listEntries s) ++ [answer (c + n + 1)]
                     else kept ++ [answer (c + 1)] ++ queuedPages (c + 1) q (listEntries s))
            | some (i, r) =>
              ∀ stored, r.sequence = some stored →
                let d := (f.sequence.toNat + 256 - stored.toNat) % 256
                if d = 0 then t.rtb = s.rtb ∧ queued t (reply 0 0)
                else if d ≤ 127 then
                  slotRecord t i = some (amended s r (some f.sequence) ⟨zs, ze, limit, a, life⟩) ∧
                  (∀ j, j ≠ i → slotRecord t j = slotRecord s j) ∧ t.rtb.changeCount = s.rtb.changeCount + 1 ∧
                  t.hlp.attention.restriction = true ∧ queued t (reply 0 0)
                else t.rtb = s.rtb ∧ queued t (reply 1 2)) ∧
   (∀ (s : State) (h : Header) (id : Half) (sequence : Byte), reaches h s →
      (6 ≤ countKind .restrictReply s.vrl.queue →
        exec (.revoke h id sequence) s = .next { s with
          vrl := { noted h s with gateCount := min (s.vrl.gateCount + 1) 65535 } } ∧
        (∀ f listFirst, exec (.restrict h f listFirst) s = .next { s with
          vrl := { noted h s with gateCount := min (s.vrl.gateCount + 1) 65535 } })) ∧
      (countKind .restrictReply s.vrl.queue < 6 →
        let reply := fun (outcome code : Byte) => octets2 id.toNat ++ [sequence, outcome, code]
        let queued := fun (t : State) (body : List Byte) =>
          t.vrl.queue = s.vrl.queue ++ [⟨.restrictReply, s.vrl.uplinkCounter + 1, 0, body⟩]
        ∃ t, exec (.revoke h id sequence) s = .next t ∧ heard h s t ∧ t.vrl.dialogue = s.vrl.dialogue ∧
          t.cmc = s.cmc ∧ t.odo = s.odo ∧ t.lps = s.lps ∧ t.ssv = s.ssv ∧ t.brc = s.brc ∧ t.drc = s.drc ∧
          t.hlp.slot = s.hlp.slot ∧ t.sld = s.sld ∧ t.pending = s.pending ∧
          if id.toNat < 1 ∨ 4095 < id.toNat then t.rtb = s.rtb ∧ queued t (reply 1 1)
          else
            match findRecord s .dispatch id.toNat with
            | none => t.rtb = s.rtb ∧ queued t (reply 0 0)
            | some (i, r) =>
              ∀ stored, r.sequence = some stored →
                let d := (sequence.toNat + 256 - stored.toNat) % 256
                if d = 0 then t.rtb = s.rtb ∧ queued t (reply 0 0)
                else if d ≤ 127 then
                  slotRecord t i = revoked s { r with sequence := some sequence } ∧
                  (∀ j, j ≠ i → slotRecord t j = slotRecord s j) ∧ t.rtb.changeCount = s.rtb.changeCount + 1 ∧
                  t.hlp.attention.restriction = true ∧ queued t (reply 0 0)
                else t.rtb = s.rtb ∧ queued t (reply 1 2)))

/-- ADD_RESTRICTION by the checks of R67 and R68 in turn, and the record an admission stores in the lowest free slot
(R56); a refused request, and every block but RTB and the slot, stays. AMEND_RESTRICTION and REVOKE_RESTRICTION by
the checks of R67, R69 and R70 in turn: the record named is amended or revoked under the clearance rule of R55
(AmendmentAndRevocation), with the slot and the record or the outcome in the body; a refused request changes
nothing but the slot. THE MODEL'S CHOICE: the bodies, with RETIRED 1, CLEARING 2, UNCHANGED 3 (assumption log 3),
and that a revocation of a CLEARING record raises the change count (assumption log 12). -/
def Obligations.CabRestrictionsJudgedInOrder : Prop :=
   (∀ (s : State) (q : RestrictionRequest), s.resetting = false →
      let zs := min q.zoneStart.toNat (lineLength s)
      let ze := min q.zoneEnd.toNat (lineLength s)
      let top := paramValue s.cmc.params 1
      let life := if q.lifeFlag = 0 then none else some (max q.life.toNat 1)
      let clamped := zs ≠ q.zoneStart.toNat ∨ ze ≠ q.zoneEnd.toNat ∨ top < q.limit.toNat ∨ q.lifeFlag ≠ 0 ∧ q.life = 0
      exec (.addRestriction q) s = .next
        (if s.sld.status = .loading then answered s 0x13 (refuse .refusedBusy)
         else if q.origin = 1 then answered s 0x13 (refuse .refusedNotOwner)
         else if q.origin ≠ 2 ∨ q.id.toNat < 1 ∨ 255 < q.id.toNat ∨ findRecord s .cab q.id.toNat ≠ none ∨
             AppliesTo.ofCode q.appliesTo = none ∨ ze ≤ zs then
           answered s 0x13 (refuse .refusedRange)
         else
           match freeSlot s, AppliesTo.ofCode q.appliesTo with
           | some i, some a =>
             let r : Restriction :=
               ⟨.cab, q.id.toNat, none, a, some ⟨zs, ze, min q.limit.toNat top⟩, none, life⟩
             { s with
               rtb.slots := s.rtb.slots.set i (some r), rtb.changeCount := s.rtb.changeCount + 1,
               hlp.sdo := [], hlp.slot := answer s 0x13
                 { code := if clamped then .doneClamped else .done, body := octets1 i ++ recordOctets r } }
           | _, _ => answered s 0x13 (refuse .refusedFull))) ∧
   (∀ (s : State) (q : RestrictionRequest) (origin : Byte) (id : Half), s.resetting = false →
      let zs := min q.zoneStart.toNat (lineLength s)
      let ze := min q.zoneEnd.toNat (lineLength s)
      let top := paramValue s.cmc.params 1
      let life := if q.lifeFlag = 0 then none else some (max q.life.toNat 1)
      let clamped := zs ≠ q.zoneStart.toNat ∨ ze ≠ q.zoneEnd.toNat ∨ top < q.limit.toNat ∨ q.lifeFlag ≠ 0 ∧ q.life = 0
      (exec (.amendRestriction q) s = .next
        (if s.sld.status = .loading then answered s 0x14 (refuse .refusedBusy)
         else if q.origin = 1 then answered s 0x14 (refuse .refusedNotOwner)
         else if q.origin ≠ 2 ∨ q.id.toNat < 1 ∨ 255 < q.id.toNat then
           answered s 0x14 (refuse .refusedRange)
         else
           match findRecord s .cab q.id.toNat with
           | none => answered s 0x14 (refuse .refusedNotFound)
           | some (i, old) =>
             match AppliesTo.ofCode q.appliesTo with
             | none => answered s 0x14 (refuse .refusedRange)
             | some a =>
               if ze ≤ zs then answered s 0x14 (refuse .refusedRange)
               else
                 let r := amended s old none ⟨zs, ze, min q.limit.toNat top, a, life⟩
                 { s with
                   rtb.slots := s.rtb.slots.set i (some r), rtb.changeCount := s.rtb.changeCount + 1,
                   hlp.sdo := [], hlp.slot := answer s 0x14
                     { code := if clamped then .doneClamped else .done, body := octets1 i ++ recordWithState r } })) ∧
      (exec (.revokeRestriction origin id) s = .next
        (if s.sld.status = .loading then answered s 0x15 (refuse .refusedBusy)
         else if origin = 1 then answered s 0x15 (refuse .refusedNotOwner)
         else if origin ≠ 2 ∨ id.toNat < 1 ∨ 255 < id.toNat then
           answered s 0x15 (refuse .refusedRange)
         else
           match findRecord s .cab id.toNat with
           | none => answered s 0x15 (refuse .refusedNotFound)
           | some (i, old) =>
             { s with
               rtb.slots := s.rtb.slots.set i (revoked s old), rtb.changeCount := s.rtb.changeCount + 1,
               hlp.sdo := [], hlp.slot := answer s 0x15
                 { code := .done,
                   body := octets1 i ++
                     [if old.inForce = none then 3 else if revoked s old = none then 1 else 2] } })))

/-- SECOND_TICK (R59): every life falls by 1, a record whose life reaches 0 is revoked by the clearance rule
(AmendmentAndRevocation), a record without a life and a free slot stay; the change count rises exactly when a
record expires, once in all (R51), and RESTRICTION is raised when a DISPATCH record does (R54). That the tick
takes every expiry it brings itself is THE MODEL'S CHOICE (assumption log 9). RESTRICTION_EXPIRY revokes the
record of its slot when that has a life, and nothing otherwise. -/
def Obligations.LivesRunOut : Prop :=
  ∀ (s : State),
    (∃ t, exec .secondTick s = .next t ∧
      (∀ i, slotRecord t i =
        match slotRecord s i with
        | none => none
        | some r =>
          match r.life with
          | none => some r
          | some l => if l ≤ 1 then revoked s r else some { r with life := some (l - 1) }) ∧
      ((∀ i r l, slotRecord s i = some r → r.life = some l → 1 < l) →
        t.rtb.changeCount = s.rtb.changeCount ∧ t.hlp = s.hlp) ∧
      (∀ i r l, slotRecord s i = some r → r.life = some l → l ≤ 1 →
        t.rtb.changeCount = s.rtb.changeCount + 1) ∧
      t.hlp = { s.hlp with attention := { s.hlp.attention with restriction := t.hlp.attention.restriction } } ∧
      (t.hlp.attention.restriction = true ↔ s.hlp.attention.restriction = true ∨
        ∃ i r l, slotRecord s i = some r ∧ r.origin = .dispatch ∧ r.life = some l ∧ l ≤ 1) ∧
      t.rtb.overflow = s.rtb.overflow ∧ t.rtb.overflowCount = s.rtb.overflowCount ∧ t.rtb.secondLeft = 1000 ∧
      t.cmc = s.cmc ∧ t.odo = s.odo ∧ t.lps = s.lps ∧ t.ssv = s.ssv ∧ t.brc = s.brc ∧ t.drc = s.drc ∧
      t.vrl = s.vrl ∧ t.hlp.slot = s.hlp.slot ∧ t.sld = s.sld ∧ t.pending = s.pending) ∧
    (∀ (slot : Fin 32) (r : Restriction), slotRecord s slot.val = some r → r.life ≠ none →
      exec (.restrictionExpiry slot) s = .next
        { s with
          rtb.slots := s.rtb.slots.set slot.val (revoked s r), rtb.changeCount := s.rtb.changeCount + 1,
          hlp.attention := if r.origin = .dispatch then { s.hlp.attention with restriction := true }
            else s.hlp.attention }) ∧
    (∀ (slot : Fin 32), (∀ r, slotRecord s slot.val = some r → r.life = none) →
      exec (.restrictionExpiry slot) s = .next s)

/-- READ_RESTRICTION and FIND_RESTRICTION (R73): the refusals, and the body with the table header and the record
whole; nothing but the slot changes. LOOKUP_LIMIT (R74): a direction other than UP or DOWN is refused; otherwise
the response, clamped when the position lies above the line, gives the base limit of the containing segment, the
lowest limit of a part there with the first 8 records that give it and the count of all, the blankets with their
limits, and the combined limit; nothing but the slot changes. The combined limit is the lowest of the line
maximum, the base limit of the containing segment, every part that applies to the direction and contains the
position, and every active blanket: none of them lies below it, and it is one of them. THE MODEL'S CHOICE: the
header's CLEAR 1 and SET 2, 34 zeros for a free slot, the record's layout and LOOKUP_LIMIT's (assumption log 3),
and the blankets SSV sees during a LINE_RESET (assumption log 4). -/
def Obligations.RestrictionReadsAndLookup : Prop :=
   (∀ (s : State) (slot origin : Byte) (id : Half), s.resetting = false →
      let header := octets1 (heldCount s) ++ [if s.rtb.overflow then 2 else 1] ++ octets1 s.rtb.overflowCount ++
        octets2 s.rtb.changeCount.toNat
      exec (.readRestriction slot) s = .next { s with
        hlp.sdo := [],
        hlp.slot :=
          if 31 < slot.toNat then answer s 0x06 (refuse .refusedRange)
          else
            match slotRecord s slot.toNat with
            | none => answer s 0x06 { code := .done, body := header ++ List.replicate 34 0 }
            | some r => answer s 0x06 { code := .done, body := header ++ [1] ++ recordWithState r } } ∧
      exec (.findRestriction origin id) s = .next { s with
        hlp.sdo := [],
        hlp.slot :=
          if (origin ≠ 1 ∧ origin ≠ 2) ∨ id.toNat < 1 ∨ (origin = 1 ∧ 4095 < id.toNat) ∨
              (origin = 2 ∧ 255 < id.toNat) then
            answer s 0x07 (refuse .refusedRange)
          else
            match findRecord s (if origin = 1 then .dispatch else .cab) id.toNat with
            | none => answer s 0x07 (refuse .refusedNotFound)
            | some (i, r) => answer s 0x07 { code := .done, body := header ++ octets1 i ++ recordWithState r } }) ∧
   (∀ (s : State) (position : Word) (direction : Byte), s.resetting = false →
      match Way.ofCode direction with
      | none =>
        exec (.lookupLimit position direction) s = .next (answered s 0x08 (refuse .refusedRange))
      | some w =>
        let x := min position.toNat (lineLength s)
        let limits := fun (l : Nat) =>
          l = paramValue s.cmc.params 1 ∨ (∃ g, containing s x = some g ∧ l = g.record.limit w) ∨
          (∃ p ∈ appliedParts s w, p.zoneStart ≤ x ∧ x < p.zoneEnd ∧ l = p.limit) ∨
          (∃ b, (seenBlankets s).has b = true ∧ l = blanketLimit s.cmc.params b)
        let covers := fun (zoneStart zoneEnd : Nat) (a : AppliesTo) =>
          decide (zoneStart ≤ x) && decide (x < zoneEnd) && a.includes w
        let limitsOf := fun (r : Restriction) =>
          ((r.inForce.filter fun p => covers p.zoneStart p.zoneEnd r.appliesTo).map InForcePart.limit).toList ++
          ((r.trailing.filter fun p => covers p.zoneStart p.zoneEnd p.appliesTo).map TrailingPart.limit).toList
        let profile := (containing s x).map fun g => g.record.limit w
        let restriction := ((heldRecords s).flatMap fun y => limitsOf y.2).min?
        let names := (heldRecords s).filter fun y => (limitsOf y.2).any fun l => restriction == some l
        let blankets := [Blanket.linkSilence, .tableOverflow, .position, .brake, .noProfile].filter (seenBlankets s).has
        let opt := fun (o : Option Nat) => match o with
          | none => [(0 : Byte), 0, 0]
          | some v => [1] ++ octets2 v
        let v := ([paramValue s.cmc.params 1] ++ profile.toList ++ restriction.toList ++
          blankets.map (blanketLimit s.cmc.params)).min?.getD 0
        (s.lps.status ≠ .valid → profile = none) ∧ limits v ∧ (∀ l, limits l → v ≤ l) ∧
        exec (.lookupLimit position direction) s = .next (answered s 0x08
          { code := if lineLength s < position.toNat then .doneClamped else .done,
            body := octets1 (heldCount s) ++ [if s.rtb.overflow then 2 else 1] ++ octets1 s.rtb.overflowCount ++
              octets2 s.rtb.changeCount.toNat ++ opt profile ++ opt restriction ++ octets1 (min names.length 8) ++
              ((names.take 8).flatMap fun y =>
                [match y.2.origin with | .dispatch => (1 : Byte) | .cab => 2] ++ octets2 y.2.id ++ octets1 y.1) ++
              octets1 names.length ++ octets1 blankets.length ++
              (blankets.flatMap fun b =>
                [match b with
                 | .linkSilence => (1 : Byte) | .tableOverflow => 2 | .position => 3 | .brake => 4 | .noProfile => 5] ++
                octets2 (blanketLimit s.cmc.params b)) ++
              octets2 v }))

/-! ### Chapters 5 and 6: permitted speed, supervision and intervention -/

/-- The targets of a direction (R82, R83, R84), each by its place, its speed and its distance: for UP the line end,
the segment starts and the zone starts ahead of high within the lookahead; for DOWN position 0, the segment ends and
the zone ends at or below low within the lookahead. No other target is taken. The braking span of a target (R86) runs
from low to its place for UP, and from its place to high for DOWN. -/
def Obligations.TargetsAhead : Prop :=
  ∀ (s : State) (low high x v d : Nat),
    let a := paramValue s.cmc.params 9
    let line := lineLength s
    (∀ t ∈ targets s .up low high, t.spanLow = low ∧ t.spanHigh = t.position) ∧
    (∀ t ∈ targets s .down low high, t.spanLow = t.position ∧ t.spanHigh = high) ∧
    ((∃ t ∈ targets s .up low high, t.position = x ∧ t.speed = v ∧ t.distance = d) ↔
      (x = line ∧ v = 0 ∧ d = line - high ∧ line ≤ high + a) ∨
      (∃ g ∈ segments s, x = g.start ∧ v = g.record.limitUp.toNat ∧ d = x - high ∧ high < x ∧ x ≤ high + a) ∨
      (∃ p ∈ appliedParts s .up, x = p.zoneStart ∧ v = p.limit ∧ d = x - high ∧ high < x ∧ x ≤ high + a)) ∧
    ((∃ t ∈ targets s .down low high, t.position = x ∧ t.speed = v ∧ t.distance = d) ↔
      (x = 0 ∧ v = 0 ∧ d = low ∧ low ≤ a) ∨
      (∃ g ∈ segments s, g.last = false ∧ x = g.finish ∧ v = g.record.limitDown.toNat ∧ d = low - x ∧ x ≤ low ∧
        low ≤ x + a) ∨
      (∃ p ∈ appliedParts s .down, x = p.zoneEnd ∧ v = p.limit ∧ d = low - x ∧ x ≤ low ∧ low ≤ x + a))

/-- The effective deceleration of a target (R86, R87, R88): the worst gradient is the least among the segments that
meet the braking span, gravity is 9.81 mm/s² for each per mille of descent rounded up, the adhesion figure
serves as soon as one of them is ADHESION, and the health of the SERVICE channel changes the figure and the kind
the record names (R94). The effective distance of a target (R89): the distance less the reaction distance,
rounded up, and not below 0. The curve speed (R90): v_t below the deceleration floor; otherwise the line maximum
where the radicand reaches its square, and the greatest whole number whose square does not exceed the radicand
where it does not. A target below the line maximum with no effective distance gives v_t in both cases. -/
def Obligations.BrakingCurveOfTarget : Prop :=
   (∀ (s : State) (w : Way) (v : Nat) (t : Target),
      let c := (curve s w v t).record
      let span := overlapping s t.spanLow t.spanHigh
      let directed : Located → Int := fun g => match w with
        | .up => g.record.gradient.toInt
        | .down => -g.record.gradient.toInt
      let adhesion : Bool := span.any fun g => g.record.track == some .adhesion
      let p := s.cmc.params
      (∀ g ∈ span, c.worstGradient ≤ directed g) ∧ (span ≠ [] → ∃ g ∈ span, c.worstGradient = directed g) ∧
      (-c.worstGradient * 981 ≤ c.gravity * 100 ∧ (0 < c.gravity → (c.gravity : Int) * 100 < -c.worstGradient * 981 + 100)) ∧
      c.position = t.position ∧ c.targetSpeed = t.speed ∧ c.distance = t.distance ∧
      c.kind =
        (if s.brc.service.health = .failed ∨ s.brc.service.health = .untested then
          if adhesion then .adhesionEmergency else .rackEmergency
         else if adhesion then .adhesionService else .rackService) ∧
      c.effectiveDeceleration =
        (match s.brc.service.health with
         | .ok => if adhesion then (paramValue p 4 : Int) else paramValue p 2
         | .degraded => ((if adhesion then paramValue p 4 else paramValue p 2) * paramValue p 6 / 100 : Nat)
         | .failed => if adhesion then (paramValue p 5 : Int) else paramValue p 3
         | .untested => if adhesion then (paramValue p 5 : Int) else paramValue p 3) - c.gravity) ∧
   (∀ (s : State) (w : Way) (v : Nat) (t : Target), paramValue s.cmc.params 1 ≤ 12500 →
      let c := curve s w v t
      let run := v * paramValue s.cmc.params 7
      let reaction := if run % 1000 = 0 then run / 1000 else run / 1000 + 1
      let a := c.record.effectiveDeceleration
      let radicand := t.speed ^ 2 + 2 * a.toNat * c.record.effectiveDistance
      let top := paramValue s.cmc.params 1
      c.record.effectiveDistance = t.distance - reaction ∧ (v = 0 → c.record.effectiveDistance = t.distance) ∧
      (c.record.floorApplied = true ↔ a < paramValue s.cmc.params 8) ∧
      (a < paramValue s.cmc.params 8 → c.speed = t.speed) ∧
      (paramValue s.cmc.params 8 ≤ a → top ^ 2 ≤ radicand → c.speed = top) ∧
      (paramValue s.cmc.params 8 ≤ a → radicand < top ^ 2 →
        c.speed ^ 2 ≤ radicand ∧ radicand < (c.speed + 1) ^ 2 ∧ c.speed < top) ∧
      (c.record.effectiveDistance = 0 → t.speed < top → c.speed = t.speed))

/-- The permitted speed of a pass (R81, R91, R92, R93): V_loc is the lowest of the limits that the mode and the status
take, V_perm is not above it nor above the curve of any target below it, and is one of them; in SHUNT and without a
position no target is taken. The record of the pass (R94): evaluation, direction, speed and the number of targets
computed; the governing item where V_perm is V_loc, the first of the limits that equal it in the order line maximum,
blanket causes, segments by index, parts by slot with the in-force part first; and otherwise the target of least
distance among those whose curve is V_perm, at equal distance the line end before a segment, a segment before a part
and the lower slot first, with what the record holds of it. THE MODEL'S CHOICE (assumption log 4): during a LINE_RESET
the blankets are those seen before it. -/
def Obligations.PermittedSpeedIsLowest : Prop :=
  ∀ (s : State) (v : Nat) (w : Way),
    let r := computePass s v w
    let shunt := s.cmc.mode = .shunt
    let limits := fun (l : Nat) =>
      l = paramValue s.cmc.params 1 ∨ (∃ b, (seenBlankets s).has b = true ∧ l = blanketLimit s.cmc.params b) ∨
      (¬shunt ∧ ∃ low high, carSpan s = some (low, high) ∧ ∃ g ∈ overlapping s low high, l = g.record.limit w) ∨
      ((shunt → s.odo.status = .valid) ∧ ∃ low high, carSpan s = some (low, high) ∧
        ∃ p ∈ appliedParts s w, p.zoneStart ≤ high ∧ low < p.zoneEnd ∧ l = p.limit)
    let curves := fun (l : Nat) =>
      ¬shunt ∧ ∃ low high, carSpan s = some (low, high) ∧
        ∃ t ∈ targets s w low high, t.speed < r.localLimit ∧ l = (curve s w v t).speed
    limits r.localLimit ∧ (∀ l, limits l → r.localLimit ≤ l) ∧ r.permitted ≤ r.localLimit ∧
    (∀ l, curves l → r.permitted ≤ l) ∧ (r.permitted = r.localLimit ∨ curves r.permitted) ∧
    let blanketPlace : Blanket → Nat := fun b => match b with
      | .linkSilence => 0 | .tableOverflow => 1 | .position => 2 | .brake => 3 | .noProfile => 4
    let setBlanket := fun (b : Blanket) =>
      (seenBlankets s).has b = true ∧ blanketLimit s.cmc.params b = r.localLimit
    let setSegment := fun (i : Nat) =>
      ¬shunt ∧ ∃ low high, carSpan s = some (low, high) ∧
        ∃ g ∈ overlapping s low high, g.index = i ∧ g.record.limit w = r.localLimit
    let setPart := fun (n : PartName) =>
      (shunt → s.odo.status = .valid) ∧ ∃ low high, carSpan s = some (low, high) ∧
        ∃ p ∈ appliedParts s w, p.zoneStart ≤ high ∧ low < p.zoneEnd ∧ p.name = n ∧ p.limit = r.localLimit
    let governsLocal := fun (item : Governing) =>
      if r.localLimit = paramValue s.cmc.params 1 then item = .lineMaximum
      else
        match item with
        | .lineMaximum => False
        | .blanket b => setBlanket b ∧ ∀ b', setBlanket b' → blanketPlace b ≤ blanketPlace b'
        | .segment i => (∀ b, ¬setBlanket b) ∧ setSegment i ∧ ∀ i', setSegment i' → i ≤ i'
        | .part n =>
          (∀ b, ¬setBlanket b) ∧ (∀ i, ¬setSegment i) ∧ setPart n ∧
          ∀ n', setPart n' → n.slot < n'.slot ∨ n.slot = n'.slot ∧ (n.inForce = true ∨ n'.inForce = false)
        | .lineEnd => False
    let rank : Governing → Nat := fun item => match item with
      | .lineEnd => 0 | .segment _ => 1 | .part n => 2 + n.slot | .lineMaximum => 0 | .blanket _ => 0
    r.permitted ≤ paramValue s.cmc.params 1 ∧ (shunt → r.targets = 0) ∧ (carSpan s = none → r.targets = 0) ∧
    r.direction = w ∧ r.speed = v ∧
    r.evaluation = (if shunt then .shunt else if carSpan s = none then .noPosition else .full) ∧
    (¬shunt → ∀ low high, carSpan s = some (low, high) →
      r.targets = ((targets s w low high).filter fun t => t.speed < r.localLimit).length) ∧
    (r.permitted = r.localLimit → r.target = none ∧ ∃ item, r.governing = some item ∧ governsLocal item) ∧
    (r.permitted < r.localLimit →
      ∃ low high, carSpan s = some (low, high) ∧ ∃ t ∈ targets s w low high,
        t.speed < r.localLimit ∧ (curve s w v t).speed = r.permitted ∧
        r.governing = some t.item ∧ r.target = some (curve s w v t).record ∧
        ∀ t' ∈ targets s w low high, t'.speed < r.localLimit → (curve s w v t').speed = r.permitted →
          t.distance < t'.distance ∨ t.distance = t'.distance ∧ rank t.item ≤ rank t'.item)

/-- SPEED_UPDATE: ODO's speed, travel direction and next window (R29), the values VRL is handed (R30), RTB's release
of trailing parts that the car span is clear of (R55, R60), with the change count up by 1 in all (R51) and
RESTRICTION raised for a DISPATCH record (R54), and V_perm with its record as the computation of the selected
direction gives them, with NEUTRAL that of the direction with the lower result, UP when both give the same (R79,
R91, R94); no supervision outside SERVICE and SHUNT. -/
def Obligations.SpeedUpdate : Prop :=
  ∀ (s : State) (rtbFirst : Bool),
    (∀ zoneStart zoneEnd, clearOf s zoneStart zoneEnd = true ↔ spanClear s zoneStart zoneEnd) ∧
    ∃ t, exec (.speedUpdate rtbFirst) s = .next t ∧
      t.odo.speed = (if s.odo.motion = .standstill then 0
        else min (s.odo.windowSum.natAbs / s.odo.windowLength) 12500) ∧
      t.odo.travel = (if 0 < s.odo.windowSum then .up else if s.odo.windowSum < 0 then .down else s.odo.travel) ∧
      t.odo =
        { s.odo with
          speed := t.odo.speed, travel := t.odo.travel, windowSum := 0,
          windowLength := paramValue s.cmc.params 39, windowLeft := paramValue s.cmc.params 39,
          report :=
            { status := s.odo.status,
              nominal := (handedEstimate s).elim 0 fun e => e.nominal / 1000,
              uncertainty := (handedEstimate s).elim 0 fun e => e.uncertainty / 1000,
              speed := t.odo.speed, travel := t.odo.travel } } ∧
      (∀ i, slotRecord t i =
        match slotRecord s i with
        | none => none
        | some r =>
          if r.trailing.any (fun z => clearOf s z.zoneStart z.zoneEnd) = true then
            if r.inForce = none then none else some { r with trailing := none }
          else some r) ∧
      (let clears := fun (i : Nat) (r : Restriction) =>
         slotRecord s i = some r ∧ ∃ z, r.trailing = some z ∧ clearOf s z.zoneStart z.zoneEnd = true
       ((∃ i r, clears i r) → t.rtb.changeCount = s.rtb.changeCount + 1) ∧
       ((¬∃ i r, clears i r) → t.rtb = s.rtb) ∧
       t.rtb = { s.rtb with slots := t.rtb.slots, changeCount := t.rtb.changeCount } ∧
       (t.hlp.attention.restriction = true ↔
         s.hlp.attention.restriction = true ∨ ∃ i r, clears i r ∧ r.origin = .dispatch)) ∧
      (if s.cmc.mode = .service ∨ s.cmc.mode = .shunt then
        let seen := if rtbFirst then t.rtb else s.rtb
        let held := { s with rtb := seen, odo := t.odo }
        t.ssv.record = computeRecord held t.odo.speed ∧ t.ssv.permitted = t.ssv.record.permitted ∧
        (s.cmc.selected = .up → t.ssv.record = computePass held t.odo.speed .up) ∧
        (s.cmc.selected = .down → t.ssv.record = computePass held t.odo.speed .down) ∧
        (s.cmc.selected = .neutral → t.ssv.record =
          if (computePass held t.odo.speed .down).permitted < (computePass held t.odo.speed .up).permitted then
            computePass held t.odo.speed .down
          else computePass held t.odo.speed .up)
       else t.ssv = s.ssv ∧ t.brc = s.brc ∧ t.vrl = s.vrl) ∧
      t.ssv.blankets = s.ssv.blankets ∧ t.cmc = s.cmc ∧ t.lps = s.lps ∧ t.drc = s.drc ∧ t.hlp.slot = s.hlp.slot ∧
      t.sld = s.sld ∧ t.pending = s.pending

/-- The intervention state after a speed update in SERVICE or SHUNT (R100 to R103, R106), with the overspeed
condition, the two marks, the INTERVENTION demand and the cause OVERSPEED. ACK_INTERVENTION (R104): it ends a service
intervention whose release mark is REACHED, is stored while the mark is NOT_REACHED, and changes nothing in any other
state; DONE in every case with the state after it. -/
def Obligations.InterventionEvaluation : Prop :=
  (∀ (s : State) (rtbFirst : Bool), (s.cmc.mode = .service ∨ s.cmc.mode = .shunt) →
    let p := s.cmc.params
    let unusable := s.brc.service.health = .failed ∨ s.brc.service.health = .untested
    ∃ t, exec (.speedUpdate rtbFirst) s = .next t ∧
    let v := t.odo.speed
    let vPerm := t.ssv.permitted
    let excess := vPerm + paramValue p 11 < v
    let released := v ≤ vPerm - paramValue p 12
    (t.ssv.overspeed = true ↔ excess) ∧
    (s.ssv.state = .normal ∨ s.ssv.state = .warning →
      (excess ∨ vPerm + paramValue p 10 < v ∧ unusable → t.ssv.state = .emergency) ∧
      (¬excess → vPerm + paramValue p 10 < v → ¬unusable →
        t.ssv.state = .service ∧ t.ssv.acknowledged = false ∧ t.ssv.released = false) ∧
      (¬excess → v ≤ vPerm + paramValue p 10 → vPerm < v → t.ssv.state = .warning) ∧
      (v ≤ vPerm → t.ssv.state = .normal)) ∧
    (s.ssv.state = .service →
      (excess ∨ ¬released ∧ unusable → t.ssv.state = .emergency) ∧
      (¬excess → released → s.ssv.acknowledged = true → t.ssv.state = .normal) ∧
      (¬excess → (released → s.ssv.acknowledged = false) → (released ∨ ¬unusable) →
        t.ssv.state = .service ∧ t.ssv.acknowledged = s.ssv.acknowledged ∧ (t.ssv.released = true ↔ released)) ∧
      (t.ssv.state ≠ .service → t.brc.demands.intervention = none)) ∧
    (s.ssv.state = .emergency → t.ssv.state = .emergency ∧ (excess → t.brc.latch.overspeed = true)) ∧
    (t.ssv.state = .service → t.brc.demands.intervention = some (paramValue p 13)) ∧
    (s.ssv.state ≠ .emergency → t.ssv.state = .emergency →
      t.brc.latch.overspeed = true ∧ t.brc.demands.intervention = none) ∧
    (t.ssv.state ≠ s.ssv.state → t.hlp.attention.supervision = true) ∧
    (t.ssv.state ≠ .emergency → t.brc.latch = s.brc.latch)) ∧
  (∀ (s : State), s.resetting = false →
    ∃ t, exec .ackIntervention s = .next t ∧
      t.hlp.slot = answer s 0x16
        { code := .done, body := [(match t.ssv.state with | .normal => 0 | .warning => 1 | .service => 2 | .emergency => 3)] } ∧
      (if s.ssv.state = .service then
        if s.ssv.released = true then
          t.ssv = { s.ssv with state := .normal } ∧ t.brc.demands.intervention = none ∧ t.brc.latch = s.brc.latch ∧
          t.hlp.attention.supervision = true ∧ t.cmc = s.cmc ∧ t.odo = s.odo ∧ t.lps = s.lps ∧ t.rtb = s.rtb ∧
          t.drc = s.drc ∧ t.vrl = s.vrl ∧ t.sld = s.sld ∧ t.pending = s.pending
        else t = { s with ssv.acknowledged := true, hlp.slot := t.hlp.slot, hlp.sdo := [] }
      else t = { s with hlp.slot := t.hlp.slot, hlp.sdo := [] }))

/-! ### Chapters 7 and 8: brakes, latch and brake test -/

/-- FEEDBACK_CHANGE with no brake test running (R112, R114, R115, R120): the reading is stored and the holding
confirmation follows P_h; while the confirmation does not change, or its change leaves release in force as it
was, the channel settles or starts a check by the table of R114, its agreement judged by R115 with the bounds
included for SERVICE and excluded for HOLDING, and nothing else changes. A changed confirmation is DRC's to
judge (R149), which touches no other block than BRC, VRL and HLP: the HOLDING channel then settles or starts a
check by the same table when HRLS stays, and as after a change of its output when door hold moves HRLS (R114,
R119). -/
def Obligations.FeedbackStoredAndSupervised : Prop :=
  ∀ (s : State) (f : Feedback), s.brc.test = none →
    let p := s.cmc.params
    let c := match f with
      | .servicePressure _ => Channel.service | .holdingPressure _ => .holding | .bandSwitch _ => .emergency
    let stored := match f with
      | .servicePressure v => { s with brc.servicePressure := min v 1000 }
      | .holdingPressure v =>
        { s with
          brc.holdingPressure := min v 1000, brc.confirmed := decide (min v 1000 < paramValue p 21) }
      | .bandSwitch b => { s with brc.bandClosed := b }
    let agreement : Prop := match f with
      | .servicePressure v =>
        s.brc.setpoint ≤ min v 1000 + paramValue p 19 ∧ min v 1000 ≤ s.brc.setpoint + paramValue p 19
      | .holdingPressure v =>
        (s.brc.releaseValve = true → paramValue p 22 < min v 1000) ∧
        (s.brc.releaseValve = false → min v 1000 < paramValue p 21)
      | .bandSwitch b => s.brc.dumpValve = !b
    ∃ t, exec (.feedbackChange f) s = .next t ∧
      t.brc.servicePressure = stored.brc.servicePressure ∧ t.brc.holdingPressure = stored.brc.holdingPressure ∧
      t.brc.bandClosed = stored.brc.bandClosed ∧ t.brc.confirmed = stored.brc.confirmed ∧
      (∀ d, (t.brc.channel d).health = (s.brc.channel d).health) ∧
      t.cmc = s.cmc ∧ t.odo = s.odo ∧ t.lps = s.lps ∧ t.rtb = s.rtb ∧ t.ssv = s.ssv ∧ t.hlp.slot = s.hlp.slot ∧
      t.sld = s.sld ∧ t.pending = s.pending ∧
      (stored.brc.confirmed = s.brc.confirmed ∨ DoorLaw s ∧ releaseCondition stored = s.drc.inForce →
        match (s.brc.channel c).supervision with
          | .idle => t = stored
          | .checking _ => (agreement → t = setSupervision c .settled stored) ∧ (¬agreement → t = stored)
          | .settled =>
            (agreement → t = stored) ∧ (¬agreement → t = setSupervision c (.checking (paramValue p 20)) stored)) ∧
      (stored.brc.confirmed ≠ s.brc.confirmed →
        (t.brc.releaseValve = s.brc.releaseValve →
          match s.brc.holding.supervision with
          | .idle => t.brc.holding.supervision = .idle
          | .checking left =>
            (agreement → t.brc.holding.supervision = .settled) ∧
            (¬agreement → t.brc.holding.supervision = .checking left)
          | .settled =>
            (agreement → t.brc.holding.supervision = .settled) ∧
            (¬agreement → t.brc.holding.supervision = .checking (paramValue p 20))) ∧
        (t.brc.releaseValve ≠ s.brc.releaseValve → supervisionResumed t .holding))

/-- CHECK_TIMER_EXPIRY in CHECKING (R113, R116, R99): the health goes one step toward FAILED, the count rises and
stops at 255, the failure record takes output and feedback; a changed health raises BRAKE_HEALTH, a changed SERVICE
health brings the BRAKE blanket; outputs other than those door hold brings, and the other channels' healths, stay.
With no check timer running nothing happens. -/
def Obligations.CheckFailure : Prop :=
  ∀ (s : State) (c : Channel),
    ((∀ left, (s.brc.channel c).supervision ≠ .checking left) → exec (.checkTimerExpiry c) s = .next s) ∧
    (∀ left, (s.brc.channel c).supervision = .checking left →
      let before := (s.brc.channel c).health
      let after := match before with
        | .untested => Health.failed | .ok => .degraded | .degraded => .failed | .failed => .failed
      ∃ t, exec (.checkTimerExpiry c) s = .next t ∧ (t.brc.channel c).health = after ∧
        (t.brc.channel c).failures = min ((s.brc.channel c).failures + 1) 255 ∧
        (t.brc.channel c).lastFailure = some
          (match c with
           | .service => .service s.brc.setpoint s.brc.servicePressure
           | .holding => .holding s.brc.releaseValve s.brc.holdingPressure
           | .emergency => .emergency s.brc.dumpValve s.brc.bandClosed) ∧
        (∀ d, d ≠ c → (t.brc.channel d).health = (s.brc.channel d).health ∧
          (t.brc.channel d).failures = (s.brc.channel d).failures ∧
          (t.brc.channel d).lastFailure = (s.brc.channel d).lastFailure) ∧
        (c ≠ .holding → (t.brc.channel c).supervision = .idle ∧ t.brc.setpoint = s.brc.setpoint ∧
          t.brc.releaseValve = s.brc.releaseValve ∧ t.brc.dumpValve = s.brc.dumpValve ∧ t.brc.latch = s.brc.latch ∧
          t.drc = s.drc) ∧
        (after ≠ before → t.hlp.attention.brakeHealth = true ∧
          ∃ e ∈ t.vrl.queue, e.kind = .alarm ∧ e.attempts = 0) ∧
        t.ssv.blankets = (if c = .service ∧ after ≠ before then { s.ssv.blankets with brake := true }
          else s.ssv.blankets) ∧
        t.cmc = s.cmc ∧ t.odo = s.odo ∧ t.lps = s.lps ∧ t.rtb = s.rtb ∧ t.hlp.slot = s.hlp.slot ∧ t.sld = s.sld ∧
        t.pending = s.pending)

/-- TRIGGER_EMERGENCY adds HOST_REQUEST and a closed loop that opens adds LOOP_OPEN (R125), each with the effects of
R123 and R124 when the latch did not hold it; a cause already held, a loop that closes and a loop that stays as it is
bring nothing of the kind. RESET_EMERGENCY by the checks of R126 in turn, and the emptying of the latch with its
effects (R127): DUMP energized, no EMERGENCY demand and no LATCH demand, EMERGENCY_INTERVENTION ended, and the causes
emptied in the body (the body and the answer to an empty latch: assumption log 3). -/
def Obligations.EmergencyLatchSetAndReset : Prop :=
   (∀ (s : State),
      (s.resetting = false → ∃ t, exec .triggerEmergency s = .next t ∧
        t.hlp.slot = answer s 0x18 { code := .done } ∧
        (s.brc.latch.hostRequest = true → t = { s with hlp.slot := t.hlp.slot, hlp.sdo := [] }) ∧
        (s.brc.latch.hostRequest = false → latched .hostRequest s t ∧ t.brc.loopClosed = s.brc.loopClosed)) ∧
      (∃ t, exec (.loopChange false) s = .next t ∧ t.brc.loopClosed = false ∧ t.hlp.slot = s.hlp.slot ∧
        (s.brc.loopClosed = true → s.brc.latch.loopOpen = false → latched .loopOpen s t) ∧
        (s.brc.loopClosed = false ∨ s.brc.latch.loopOpen = true → t = { s with brc.loopClosed := false })) ∧
      exec (.loopChange true) s = .next { s with brc.loopClosed := true }) ∧
   (∀ (s : State), s.resetting = false →
      let missed : Bool := match s.odo.watch with | .missed _ => true | _ => false
      ∃ t, exec .resetEmergency s = .next t ∧
        if s.brc.latch.any = false then t = answered s 0x17 { code := .done }
        else if s.odo.motion ≠ .standstill then
          t = answered s 0x17 (refuse .refusedMotion)
        else if s.brc.loopClosed = false then t = answered s 0x17 (refuseDetail 0x09)
        else if s.ssv.overspeed = true then t = answered s 0x17 (refuseDetail 0x0A)
        else if missed = true then t = answered s 0x17 (refuseDetail 0x0B)
        else
          t.hlp.slot = answer s 0x17 { code := .done, body := octets2 s.brc.latch.bits.toNat } ∧
          t.brc.latch.any = false ∧ t.brc.demands.emergency = none ∧ t.brc.hold.latch = false ∧
          (s.brc.test = none → t.brc.dumpValve = true) ∧ t.brc.hostHold = s.brc.hostHold ∧
          t.brc.setpoint = largestDemand t.brc.demands ∧ t.hlp.attention.emergency = true ∧
          t.ssv = { s.ssv with state := if s.ssv.state = .emergency then .normal else s.ssv.state } ∧
          t.brc.test = s.brc.test ∧ t.brc.driverLevel = s.brc.driverLevel ∧
          (∀ c, (t.brc.channel c).health = (s.brc.channel c).health) ∧ t.cmc = s.cmc ∧ t.odo = s.odo ∧ t.lps = s.lps ∧
          t.rtb = s.rtb ∧ t.drc = s.drc ∧ t.vrl = s.vrl ∧ t.sld = s.sld ∧ t.pending = s.pending)

/-- DRIVER_BRAKE (R118) and HOLD_REQUEST (R121) by their checks in turn: the driver level or the host hold request
takes the value, and the demands, the setpoint, the holding demands and the permit follow; a refused request changes
nothing but the slot. -/
def Obligations.DriverBrakeAndHoldRequest : Prop :=
  ∀ (s : State) (level : Half) (value : Byte), s.resetting = false →
    let keeps := fun (t : State) =>
      t.brc.latch = s.brc.latch ∧ t.brc.test = s.brc.test ∧
      t.brc.demands.intervention = s.brc.demands.intervention ∧
      (∀ c, (t.brc.channel c).health = (s.brc.channel c).health) ∧ t.cmc = s.cmc ∧ t.odo = s.odo ∧ t.lps = s.lps ∧
      t.rtb = s.rtb ∧ t.ssv = s.ssv ∧ t.drc = s.drc ∧ t.vrl = s.vrl ∧ t.hlp.attention = s.hlp.attention ∧
      t.sld = s.sld ∧ t.pending = s.pending
    (∃ t, exec (.driverBrake level) s = .next t ∧
      if s.brc.test ≠ none then t = answered s 0x19 (refuse .refusedBusy)
      else
        t.brc.driverLevel = min level.toNat 1000 ∧
        t.brc.demands.driver = (if level = 0 then none else some (min level.toNat 1000)) ∧
        t.brc.setpoint = largestDemand t.brc.demands ∧ t.brc.hostHold = s.brc.hostHold ∧
        t.hlp.slot = answer s 0x19
          { code := if level.toNat ≤ 1000 then .done else .doneClamped, body := octets2 t.brc.setpoint } ∧
        keeps t) ∧
    (∃ t, exec (.holdRequest value) s = .next t ∧
      if value ≠ 1 ∧ value ≠ 2 then t = answered s 0x1A (refuse .refusedRange)
      else if s.brc.test ≠ none then t = answered s 0x1A (refuse .refusedBusy)
      else if value = 2 ∧ s.brc.latch.any = true then
        t = answered s 0x1A (refuseDetail 0x07)
      else
        t.brc.hostHold = (if value = 1 then .apply else .release) ∧ t.brc.hold.host = decide (value = 1) ∧
        t.brc.permit = permitCondition t ∧ t.brc.driverLevel = s.brc.driverLevel ∧
        t.hlp.slot = answer s 0x1A { code := .done } ∧ keeps t)

/-- START_BRAKE_TEST by the checks of R132 in turn; an accepted test whose first pass condition does not hold at once
stands in step 1 with its timer full, supervision IDLE on all channels, a cleared result, and the outputs of step 1
(R133, R134, R135). Whatever the feedback, an accepted test is answered ACCEPTED. ABORT_BRAKE_TEST (R138, R139): a
running test ends ABORTED with reason REQUEST and its step, the outcomes so far and every health kept, and BRC stands
as R138 gives it: no TEST demand, the setpoint the largest remaining demand, HRLS and DUMP given back, each channel
CHECKING or SETTLED, the permit evaluated and TEST_DONE raised; with no test running nothing changes but the slot.
DONE in both cases. -/
def Obligations.BrakeTestStartsAndAborts : Prop :=
   (∀ (s : State), s.resetting = false →
      ∃ t, exec .startBrakeTest s = .next t ∧
        if s.brc.test ≠ none then t = answered s 0x1C (refuse .refusedBusy)
        else if s.cmc.mode ≠ .preparation then t = answered s 0x1C (refuse .refusedMode)
        else if s.odo.motion ≠ .standstill then
          t = answered s 0x1C (refuse .refusedMotion)
        else if everyLeafLocked s.drc = false then t = answered s 0x1C (refuseDetail 0x01)
        else if s.brc.latch.any = true then t = answered s 0x1C (refuseDetail 0x07)
        else if s.brc.driverLevel ≠ 0 then t = answered s 0x1C (refuseDetail 0x0C)
        else
          let p := s.cmc.params
          t.hlp.slot = answer s 0x1C { code := .accepted } ∧ t.cmc = s.cmc ∧ t.odo = s.odo ∧ t.lps = s.lps ∧
          t.rtb = s.rtb ∧ t.sld = s.sld ∧ t.pending = s.pending ∧
          (s.brc.servicePressure + paramValue p 19 < 1000 →
            t.brc.test = some
              ⟨.s1, paramValue p 25, paramValue p 19, paramValue p 21, paramValue p 22, paramValue p 25⟩ ∧
            t.brc.result = ⟨.inProgress, ⟨.notRun, .notRun, .notRun, .notRun, .notRun, .notRun⟩, none⟩ ∧
            (∀ c, (t.brc.channel c).supervision = .idle ∧ (t.brc.channel c).health = (s.brc.channel c).health) ∧
            t.brc.demands.test = some 1000 ∧ t.brc.releaseValve = false ∧ t.brc.dumpValve = false ∧
            t.brc.permit = false ∧ t.ssv = s.ssv ∧ t.drc = s.drc ∧ t.vrl = s.vrl)) ∧
   (∀ (s : State), s.resetting = false →
      (s.brc.test = none → exec .abortBrakeTest s = .next (answered s 0x1D { code := .done })) ∧
      (∀ c, s.brc.test = some c →
        ∃ t, exec .abortBrakeTest s = .next t ∧ t.hlp.slot = answer s 0x1D { code := .done } ∧ t.brc.test = none ∧
          t.brc.result = { s.brc.result with overall := .aborted, abort := some (.request, c.step) } ∧
          testEnded t ∧ t.brc.latch = s.brc.latch ∧ t.brc.driverLevel = s.brc.driverLevel ∧
          t.brc.hostHold = s.brc.hostHold ∧ (∀ d, (t.brc.channel d).health = (s.brc.channel d).health) ∧
          t.cmc = s.cmc ∧ t.odo = s.odo ∧ t.lps = s.lps ∧ t.rtb = s.rtb ∧ t.ssv = s.ssv ∧ t.drc = s.drc ∧
          t.vrl = s.vrl ∧ t.sld = s.sld ∧ t.pending = s.pending))

/-- A feedback change that meets the running step's pass condition ends the step with PASS and its time;
STEP_TIMER_EXPIRY ends it with FAIL and the step timeout (R134). Steps ended before keep their outcomes, a later
step runs or the test is over, and at a channel's second step the channel becomes OK when both its steps passed
and FAILED otherwise (R136). At the end of step 6 the overall outcome follows the six, and BRC stands as R137
gives it. Where the step's end brings door hold, by release coming into force, the ended step stands and the
test is aborted with reason DOOR at a later step, the next one when the ended step has set the HOLDING health
(R138). That the ended step stands and the abort falls on a later one is THE MODEL'S CHOICE (assumption log 7),
since R138 gives no order there. With no test running the expiry does nothing. -/
def Obligations.BrakeTestStepEnds : Prop :=
  ∀ (s : State),
    (s.brc.test = none → exec .stepTimerExpiry s = .next s) ∧
    (∀ (c : TestContext) (f : Feedback) (i : Instr) (o : StepOutcome), s.brc.test = some c →
      (i = .stepTimerExpiry ∧ o = .fail c.stepTimeout ∨
       i = .feedbackChange f ∧ o = .pass (c.stepTimeout - c.left) ∧
        (match c.step, f with
         | .s1, .servicePressure v => 1000 ≤ min v 1000 + c.tolerance
         | .s2, .servicePressure v => min v 1000 < c.tolerance
         | .s3, .holdingPressure v => c.releaseThreshold < min v 1000
         | .s4, .holdingPressure v => min v 1000 < c.holdingThreshold
         | .s5, .bandSwitch b => b = false
         | .s6, .bandSwitch b => b = true
         | _, _ => False)) →
      ∃ t, exec i s = .next t ∧ t.brc.result.steps.get c.step = o ∧
        (∀ st, st.number < c.step.number → t.brc.result.steps.get st = s.brc.result.steps.get st) ∧
        (t.brc.test = none ∨ ∃ c', t.brc.test = some c' ∧ c.step.number < c'.step.number) ∧
        (∀ st first, st = c.step → st.firstOfPair = some first →
          (((∃ n, s.brc.result.steps.get first = .pass n) ∧ (∃ n, o = .pass n) →
              (t.brc.channel st.channel).health = .ok) ∧
           (¬((∃ n, s.brc.result.steps.get first = .pass n) ∧ (∃ n, o = .pass n)) →
              (t.brc.channel st.channel).health = .failed))) ∧
        (c.step = .s6 → testEnded t ∧ t.brc.result.abort = s.brc.result.abort ∧
          (t.brc.result.overall = .passed ↔ ∀ st, ∃ n, t.brc.result.steps.get st = .pass n) ∧
          (t.brc.result.overall = .failed ↔ ¬∀ st, ∃ n, t.brc.result.steps.get st = .pass n)) ∧
        (t.brc.test = none → testEnded t) ∧
        (s.drc.doorHold = false → t.drc.doorHold = true →
          t.brc.test = none ∧ t.brc.result.overall = .aborted ∧
          ∃ st, t.brc.result.abort = some (.door, st) ∧ c.step.number < st.number ∧
            (c.step = .s4 → (t.brc.channel .holding).health ≠ (s.brc.channel .holding).health → st = .s5) ∧
            ∀ st', st.number ≤ st'.number → t.brc.result.steps.get st' = s.brc.result.steps.get st') ∧
        t.cmc = s.cmc ∧ t.odo = s.odo ∧ t.lps = s.lps ∧ t.rtb = s.rtb ∧ t.hlp.slot = s.hlp.slot ∧ t.sld = s.sld ∧
        t.pending = s.pending)

/-! ### Chapter 9: passenger doors -/

/-- An accepted SET_PARAMETER 43 … 46 forms the set of leaves again from the mapping with the new value (R142): a drive
that the mapping makes a leaf keeps its record when its side and index stay and has a fresh one otherwise (R144), any
other drive has none, and the mapping conflict flag, door hold and the gangs follow the new set. THE MODEL'S CHOICE
(assumption log 14): a gang keeps its index then. SET_PARAMETER 48 and 49 form and drop the gang of a side (R156): ON,
its index is the highest profile among the side's leaves in a close sequence, or 1, which those leaves take, and its
members are the leaves not ISOLATED; OFF, each leaf keeps what it has. The output lines of a drive (R142, R143): all
off where it is no leaf, and those of its leaf's state otherwise, the profile on PSEL0 and PSEL1 while DCLOSE is on. THE
MODEL'S CHOICE (assumption log 15): a fresh leaf hands a DOOR_STATE, and one that starts ISOLATED raises DOOR. -/
def Obligations.LeafSetAndGangsFormed : Prop :=
  doorOutputs none = ⟨false, false, 0, false⟩ ∧
  (∀ l : Leaf, doorOutputs (some l) =
    match l.state with
    | .locked => ⟨false, false, 0, false⟩ | .unlocked => ⟨false, false, 0, true⟩ | .opening => ⟨true, false, 0, true⟩
    | .opened => ⟨false, false, 0, true⟩ | .closing => ⟨false, true, l.profile, true⟩
    | .locking => ⟨false, true, l.profile, false⟩ | .reversing .drive => ⟨true, false, 0, true⟩
    | .reversing .dwell => ⟨false, false, 0, true⟩ | .held .drive => ⟨true, false, 0, true⟩
    | .held .dwell => ⟨false, false, 0, true⟩ | .isolated _ => ⟨false, false, 0, false⟩) ∧
  ∀ (s : State) (n : Nat) (value : Word), GangLaw s → s.resetting = false → s.sld.status ≠ .loading →
    s.sld.status ≠ .saving → s.cmc.mode ≠ .service → s.cmc.mode ≠ .shunt →
    let free := fun (l : Leaf) => ∀ c, l.state ≠ .isolated c
    (43 ≤ n → n ≤ 46 → ∃ t, exec (.setParameter (BitVec.ofNat 8 n) value) s = .next t ∧
      let p := s.cmc.params.set (n - 1) (min value.toNat 7)
      let fresh := fun (d : Drive) (x : Side × LeafIndex) =>
        Leaf.mk x.1 x.2 (if (s.drc.inputs.get d).lockSw = true then .locked else .isolated .timeout) 1 none false
      t.cmc.params = p ∧ t.drc.inputs = s.drc.inputs ∧ t.drc.doorHold = !everyLeafLocked t.drc ∧
      (t.drc.conflict = true ↔ mappingClash p) ∧
      (∀ d x, mapsTo p d x →
        (∀ l, s.drc.leaves.get d = some l → (l.side, l.index) = x → t.drc.leaves.get d = some l) ∧
        ((∀ l, s.drc.leaves.get d = some l → (l.side, l.index) ≠ x) →
          t.drc.leaves.get d = some (fresh d x) ∧ queuedKind .doorState t.vrl.queue = true ∧
          ((s.drc.inputs.get d).lockSw = false →
            t.hlp.attention.door = true ∧ ∃ e ∈ t.vrl.queue, e.kind = .alarm))) ∧
      (∀ d, (∀ x, ¬mapsTo p d x) → t.drc.leaves.get d = none) ∧
      (∀ side, (t.drc.gang side).map Gang.index = (s.drc.gang side).map Gang.index) ∧
      (∀ side g g', s.drc.gang side = some g → t.drc.gang side = some g' → ∀ d,
        g'.members.get d = true ↔
          ∃ l, t.drc.leaves.get d = some l ∧ l.side = side ∧ free l ∧
            (s.drc.leaves.get d = some l → g.members.get d = true))) ∧
    (LeafSetLaw s → ∀ side, n = (match side with | .left => 48 | .right => 49) →
      ∃ t, exec (.setParameter (BitVec.ofNat 8 n) value) s = .next t ∧
        (∀ other, other ≠ side → t.drc.gang other = s.drc.gang other) ∧
        (value = 0 → t.drc.gang side = none ∧ t.drc.leaves = s.drc.leaves) ∧
        (value ≠ 0 → s.drc.gang side ≠ none → t.drc.gang side = s.drc.gang side ∧ t.drc.leaves = s.drc.leaves) ∧
        (value ≠ 0 → s.drc.gang side = none →
          let sequence := fun (d : Drive) (l : Leaf) => s.drc.leaves.get d = some l ∧ l.side = side ∧
            (l.state = .closing ∨ l.state = .locking ∨ l.state = .reversing .drive ∨ l.state = .reversing .dwell)
          ∃ g, t.drc.gang side = some g ∧
            (∀ d l, sequence d l → l.profile ≤ g.index) ∧ 1 ≤ g.index ∧
            (g.index = 1 ∨ ∃ d l, sequence d l ∧ l.profile = g.index) ∧
            (∀ d, g.members.get d = true ↔ ∃ l, s.drc.leaves.get d = some l ∧ l.side = side ∧ free l) ∧
            ∀ d l, s.drc.leaves.get d = some l →
              (sequence d l → t.drc.leaves.get d = some { l with profile := g.index }) ∧
              (¬sequence d l → t.drc.leaves.get d = some l)))

/-- OPEN_SWITCH, CLOSED_SWITCH and LOCK_SWITCH of a drive that is a leaf (R151, R153, R154, R155, R159): the line's
level is stored, the leaf's record changes as its state calls for, and no other leaf changes. A closed switch lost in
LOCKING sends the leaf back to CLOSING at its profile when no overcurrent or obstruction line is active (an active one:
ClosingStartsFindTheirLines). -/
def Obligations.DoorSwitches : Prop :=
  ∀ (s : State) (d : Drive) (l : Leaf) (on : Bool), s.drc.leaves.get d = some l →
    let p := s.cmc.params
    let i := s.drc.inputs.get d
    let dwell := fun (n : Nat) => if paramValue p n = 0 then none else some (paramValue p n * 1000)
    let after := fun (t : State) (inputs : DoorInputs) (leaf : Leaf) =>
      t.drc.inputs = s.drc.inputs.set d inputs ∧ t.drc.leaves.get d = some leaf ∧
      (∀ e, e ≠ d → t.drc.leaves.get e = s.drc.leaves.get e) ∧ t.drc.release = s.drc.release ∧
      t.drc.inForce = s.drc.inForce ∧ t.cmc = s.cmc ∧ t.odo = s.odo ∧ t.lps = s.lps ∧ t.rtb = s.rtb ∧ t.ssv = s.ssv ∧
      t.hlp.slot = s.hlp.slot ∧ t.sld = s.sld ∧ t.pending = s.pending
    (∃ t, exec (.openSwitch d on) s = .next t ∧
      after t { i with openSw := on }
        (if on = true then
          match l.state with
          | .opening => { l with state := .opened, timer := dwell 30, lockLost := false }
          | .reversing .drive => { l with state := .reversing .dwell, timer := some (paramValue p 29) }
          | .held .drive => { l with state := .held .dwell, timer := dwell 31 }
          | _ => l
         else l)) ∧
    (l.state ≠ .locking ∨ on = true ∨ i.ovc = false ∧ i.edge = false ∧ i.force = false →
      ∃ t, exec (.closedSwitch d on) s = .next t ∧
        after t { i with closedSw := on }
          (match l.state with
           | .closing =>
             if on = true then
               if i.lockSw then { l with state := .locked, profile := 1, timer := none, lockLost := false }
               else { l with state := .locking, timer := some (paramValue p 27), lockLost := false }
             else l
           | .locking =>
             if on = true then l else { l with state := .closing, timer := some (paramValue p 26), lockLost := false }
           | _ => l)) ∧
    (∃ t, exec (.lockSwitch d on) s = .next t ∧ (l.state = .locked → on = false → t.hlp.attention.door = true) ∧
      after t { i with lockSw := on }
        (match l.state with
         | .locking => if on = true then { l with state := .locked, profile := 1, timer := none } else l
         | .locked => { l with lockLost := !on }
         | _ => l))

/-- OBSTRUCTION, OVERCURRENT and DOOR_BUTTON of a drive that is a leaf (R151, R154, R155, R157): an overcurrent isolates
in every state but LOCKED and ISOLATED; of a leaf that is no gang member an obstruction in CLOSING reverses it at the
next profile or, at the last, brings it to HELD, and a button with release in force opens it (a gang member:
GangMovesTogether). Otherwise only the line is stored. THE MODEL'S CHOICE: a leaf whose open switch is already made
enters phase DWELL, or OPEN, at once (assumption log 6), and the profile after 2 in the SHORT sequence is 3
(assumption log 14). -/
def Obligations.DoorLines : Prop :=
  ∀ (s : State) (d : Drive) (l : Leaf) (line : ObstructionLine) (on : Bool), s.drc.leaves.get d = some l →
    let p := s.cmc.params
    let i := s.drc.inputs.get d
    let dwell := fun (n : Nat) => if paramValue p n = 0 then none else some (paramValue p n * 1000)
    let next := if paramValue p 47 = 1 then 3 else min (l.profile + 1) 3
    let after := fun (t : State) (inputs : DoorInputs) (leaf : Leaf) =>
      t.drc.inputs = s.drc.inputs.set d inputs ∧ t.drc.leaves.get d = some leaf ∧
      (∀ e, e ≠ d → t.drc.leaves.get e = s.drc.leaves.get e) ∧ t.drc.release = s.drc.release ∧
      t.drc.inForce = s.drc.inForce ∧ t.cmc = s.cmc ∧ t.odo = s.odo ∧ t.lps = s.lps ∧ t.rtb = s.rtb ∧ t.ssv = s.ssv ∧
      t.hlp.slot = s.hlp.slot ∧ t.sld = s.sld ∧ t.pending = s.pending
    (gangMember s l.side d = false → ∃ t, exec (.obstruction d line on) s = .next t ∧
      (l.state = .closing → on = true → l.profile = 3 → t.hlp.attention.door = true) ∧
      after t (match line with | .edge => { i with edge := on } | .force => { i with force := on })
        (if l.state = .closing ∧ on = true then
          if l.profile = 3 then
            if i.openSw then { l with state := .held .dwell, timer := dwell 31, lockLost := false }
            else { l with state := .held .drive, timer := some (paramValue p 28), lockLost := false }
          else if i.openSw then
            { l with
              state := .reversing .dwell, profile := next, timer := some (paramValue p 29), lockLost := false }
          else
            { l with
              state := .reversing .drive, profile := next, timer := some (paramValue p 28), lockLost := false }
         else l)) ∧
    (∃ t, exec (.overcurrent d on) s = .next t ∧
      (on = true → l.state ≠ .locked → (∀ c, l.state ≠ .isolated c) →
        t.hlp.attention.door = true ∧ ∃ e ∈ t.vrl.queue, e.kind = .alarm) ∧
      after t { i with ovc := on }
        (if on = true ∧ l.state ≠ .locked ∧ (∀ c ∈ [IsolationCause.overcurrent, .timeout, .host], l.state ≠ .isolated c)
          then isolatedBy .overcurrent l
         else l)) ∧
    (gangMember s l.side d = false → ∃ t, exec (.doorButton d on) s = .next t ∧
      after t { i with btn := on }
        (if on = true ∧ s.drc.inForce = some l.side then openedByRelease s d l else l))

/-- The attempt timers of a leaf (R151 to R155): each expiry, in the state its timer runs in. The open timeout, the
travel limit and the lock timeout isolate with cause TIMEOUT; the reverse time ends phase DRIVE; with the lines that
end CLOSING at once inactive, the reopen dwell puts the leaf in CLOSING at its profile, and the two dwells that a gang
shares put a leaf that is no gang member in CLOSING at profile 1 (a gang member: GangMovesTogether; active lines:
ClosingStartsFindTheirLines). A drive with no timer running has no expiry. -/
def Obligations.DoorTimers : Prop :=
  ∀ (s : State) (d : Drive),
    let p := s.cmc.params
    let dwell := fun (n : Nat) => if paramValue p n = 0 then none else some (paramValue p n * 1000)
    let after := fun (t : State) (leaf : Leaf) =>
      t.drc.inputs = s.drc.inputs ∧ t.drc.leaves.get d = some leaf ∧
      (∀ e, e ≠ d → t.drc.leaves.get e = s.drc.leaves.get e) ∧ t.drc.release = s.drc.release ∧
      t.drc.inForce = s.drc.inForce ∧ t.cmc = s.cmc ∧ t.odo = s.odo ∧ t.lps = s.lps ∧ t.rtb = s.rtb ∧ t.ssv = s.ssv ∧
      t.hlp.slot = s.hlp.slot ∧ t.sld = s.sld ∧ t.pending = s.pending
    let expiries : List Instr :=
      [.openTimeout d, .travelLimit d, .lockTimeout d, .autoCloseDwell d, .reverseTime d, .reopenDwell d,
       .holdRetryInterval d]
    ((∀ l, s.drc.leaves.get d = some l → l.timer = none) → ∀ c ∈ expiries, exec c s = .next s) ∧
    (∀ l, s.drc.leaves.get d = some l → l.timer ≠ none →
      (∀ c ∈ [(Instr.openTimeout d, LeafState.opening), (.travelLimit d, .closing), (.lockTimeout d, .locking)],
        ∃ t, exec c.1 s = .next t ∧
          (l.state = c.2 → t.hlp.attention.door = true ∧ ∃ e ∈ t.vrl.queue, e.kind = .alarm) ∧
          after t (if l.state = c.2 then { l with state := .isolated .timeout, timer := none, lockLost := false } else l)) ∧
      (∃ t, exec (.reverseTime d) s = .next t ∧
        after t
          (match l.state with
           | .reversing .drive => { l with state := .reversing .dwell, timer := some (paramValue p 29) }
           | .held .drive => { l with state := .held .dwell, timer := dwell 31 }
           | _ => l)) ∧
      (quietDrive s d →
        (∃ t, exec (.reopenDwell d) s = .next t ∧
          after t (if l.state = .reversing .dwell then closingAt s l.profile l else l)) ∧
        (gangMember s l.side d = false →
          ∀ c ∈ [(Instr.autoCloseDwell d, LeafState.opened), (.holdRetryInterval d, .held .dwell)],
            ∃ t, exec c.1 s = .next t ∧ after t (if l.state = c.2 then closingAt s 1 l else l))))

/-- A ganged side moves together (R156), its members' lines that end CLOSING at once being inactive where they start
to close (active ones: ClosingStartsFindTheirLines). An obstruction on a member in CLOSING sends every member in
CLOSING or LOCKING to REVERSING at the next profile of the gang index, which takes it, or to HELD when the index
was the last. A button on a member that can be opened opens every such member, and on another member does nothing.
A member's auto-close dwell closes every member in UNLOCKED, OPENING and OPEN at gang index 1, and CLOSE_SIDE its
whole side. FORCE_CLOSE on a HELD member and the retry interval return every HELD member to CLOSING, at gang index
3 and 1. A leaf leaves the gang when it is isolated and rejoins it when it becomes LOCKED. Other leaves stay. THE
MODEL'S CHOICE (assumption log 14): in the SHORT sequence the next profile after gang index 2 is 3. -/
def Obligations.GangMovesTogether : Prop :=
  ∀ (s : State) (d : Drive) (l : Leaf) (g : Gang), s.drc.leaves.get d = some l → s.drc.gang l.side = some g →
    let member := fun (e : Drive) (m : Leaf) => m.side = l.side ∧ g.members.get e = true
    let unlocked := fun (m : Leaf) => m.state = .unlocked ∨ m.state = .opening ∨ m.state = .opened
    let held := fun (m : Leaf) => m.state = .held .drive ∨ m.state = .held .dwell
    let next := if paramValue s.cmc.params 47 = 1 then 3 else min (g.index + 1) 3
    let keeps := fun (t : State) =>
      t.cmc = s.cmc ∧ t.odo = s.odo ∧ t.lps = s.lps ∧ t.rtb = s.rtb ∧ t.ssv = s.ssv ∧ t.hlp.slot = s.hlp.slot ∧
      t.sld = s.sld ∧ t.pending = s.pending
    let closes := fun (c : Instr) (index k : Nat) (moved : Drive → Leaf → Prop) =>
      ∃ t, exec c s = .next t ∧ t.drc.gang l.side = some { g with index := index } ∧
        (∀ e m, s.drc.leaves.get e = some m →
          (moved e m → t.drc.leaves.get e = some (closingAt s k m)) ∧ (¬moved e m → t.drc.leaves.get e = some m)) ∧
        (requestParts c = none → keeps t)
    let joins := fun (c : Instr) (joined : Bool) =>
      ∃ t, exec c s = .next t ∧ t.drc.gang l.side = some { g with members := g.members.set d joined }
    (∀ line, l.state = .closing → g.members.get d = true →
      ∃ t, exec (.obstruction d line true) s = .next t ∧ keeps t ∧
        t.drc.gang l.side = some (if g.index = 3 then g else { g with index := next }) ∧
        (∀ e m, s.drc.leaves.get e = some m → member e m → (m.state = .closing ∨ m.state = .locking) →
          ∃ m' phase, t.drc.leaves.get e = some m' ∧
            if g.index = 3 then m'.state = .held phase ∧ m'.profile = m.profile
            else m'.state = .reversing phase ∧ m'.profile = next) ∧
        (∀ e m, s.drc.leaves.get e = some m → ¬(member e m ∧ (m.state = .closing ∨ m.state = .locking)) →
          t.drc.leaves.get e = some m)) ∧
    (g.members.get d = true → s.drc.inForce = some l.side →
      ∃ t, exec (.doorButton d true) s = .next t ∧ keeps t ∧
        if l.state = .locked ∨ l.state = .unlocked ∨ l.state = .opened then
          (∀ e m, s.drc.leaves.get e = some m →
            (member e m → t.drc.leaves.get e = some (openedByRelease s e m)) ∧
            (¬member e m → t.drc.leaves.get e = some m)) ∧
          ∃ g', t.drc.gang l.side = some g' ∧ g'.index = g.index ∧
            ∀ e, g'.members.get e = true ↔ g.members.get e = true ∧ ¬isolatedAtUnlock s l.side e
        else t.drc.leaves = s.drc.leaves ∧ t.drc.gang l.side = some g) ∧
    (g.members.get d = true → l.state = .opened → l.timer ≠ none →
      quietWhere (fun e m => member e m ∧ unlocked m) s →
      closes (.autoCloseDwell d) 1 1 fun e m => member e m ∧ unlocked m) ∧
    (s.resetting = false → quietWhere (fun _ m => m.side = l.side ∧ unlocked m) s →
      ∀ index, ((∃ e m, s.drc.leaves.get e = some m ∧ member e m ∧ unlocked m) → index = 1) →
        ((¬∃ e m, s.drc.leaves.get e = some m ∧ member e m ∧ unlocked m) → index = g.index) →
        closes (.closeSide l.side.code) index 1 fun _ m => m.side = l.side ∧ unlocked m) ∧
    (g.members.get d = true → held l → quietWhere (fun e m => member e m ∧ held m) s →
      ∀ c k, (c = .forceClose (BitVec.ofNat 8 (driveNumber d)) ∧ k = 3 ∧ s.resetting = false ∨
          c = .holdRetryInterval d ∧ k = 1 ∧ l.state = .held .dwell ∧ l.timer ≠ none) →
        closes c k k fun e m => member e m ∧ held m) ∧
    (l.timer ≠ none →
      ∀ c ∈ [(Instr.openTimeout d, LeafState.opening), (.travelLimit d, .closing), (.lockTimeout d, .locking)],
        l.state = c.2 → joins c.1 false) ∧
    ((∀ c, l.state ≠ .isolated c) →
      (l.state ≠ .locked → joins (.overcurrent d true) false) ∧
      (s.resetting = false → (l.state = .locked → s.drc.inForce = some l.side) →
        joins (.isolate (BitVec.ofNat 8 (driveNumber d))) false)) ∧
    (l.state = .locking → joins (.lockSwitch d true) true) ∧
    (l.state = .closing → (s.drc.inputs.get d).lockSw = true → joins (.closedSwitch d true) true) ∧
    (∀ c, l.state = .isolated c → s.resetting = false → s.odo.motion = .standstill →
      (s.drc.inputs.get d).lockSw = true → joins (.restore (BitVec.ofNat 8 (driveNumber d))) true)

/-- What leaves find as they start to close, gang members and their lines included (R152 to R156, R158; the order D1
first and of the lines at one leaf, and gang index 1 where a loss of release finds HELD members only, are THE
MODEL'S CHOICE of assumption log 6; that an active overcurrent line isolates whatever the cause was before
RESTORE, and that profile 3 follows 2 in SHORT, of assumption log 14): those that start are put in CLOSING
together, and each becomes what `closedTogether` says, its gang what `gangClosed` says. The starts are the reopen
dwell at the leaf's profile; the auto-close dwell and CLOSE_SIDE at profile 1; the retry interval at 1 and
FORCE_CLOSE at 3; RESTORE at 1 where the lock switch does not confirm; a closed switch lost in LOCKING at the
leaf's profile; and release that stops being in force at 1, by DRC's judgement or at any event of R149 (with
values pending, in a state of the leaf set and the gangs that the parameters give: EveryStepKeepsDoorLaw). -/
def Obligations.ClosingStartsFindTheirLines : Prop :=
  ∀ (s : State),
    let finds := fun (t u : State) (k : Nat) (starts : Drive → Leaf → Bool) =>
      (∀ d, t.drc.leaves.get d = closedTogether u k starts d) ∧
      ∀ side g, u.drc.gang side = some g → t.drc.gang side = some (gangClosed u k starts side g)
    let gives := fun (c : Instr) (u : State) (k : Nat) (starts : Drive → Leaf → Bool) =>
      ∃ t, exec c s = .next t ∧ finds t u k starts ∧ t.drc.inputs = u.drc.inputs ∧ t.cmc = s.cmc ∧ t.odo = s.odo ∧
        t.lps = s.lps ∧ t.rtb = s.rtb ∧ t.ssv = s.ssv ∧ t.sld = s.sld ∧ t.pending = s.pending
    let unlocked := fun (m : Leaf) => m.state == .unlocked || m.state == .opening || m.state == .opened
    let held := fun (m : Leaf) => m.state == .held .drive || m.state == .held .dwell
    (∀ d l, s.drc.leaves.get d = some l →
      let number := BitVec.ofNat 8 (driveNumber d)
      let only := fun (e : Drive) (_ : Leaf) => e == d
      let together := fun (p : Leaf → Bool) (e : Drive) (m : Leaf) =>
        if gangMember s l.side d then m.side == l.side && gangMember s l.side e && p m else e == d
      (l.timer ≠ none →
        (l.state = .reversing .dwell → gives (.reopenDwell d) s l.profile only) ∧
        (l.state = .opened →
          gives (.autoCloseDwell d) (gangStarts s l.side 1 (together unlocked)) 1 (together unlocked)) ∧
        (l.state = .held .dwell →
          gives (.holdRetryInterval d) (gangStarts s l.side 1 (together held)) 1 (together held))) ∧
      (l.state = .locking →
        gives (.closedSwitch d false)
          { s with drc.inputs := s.drc.inputs.set d { s.drc.inputs.get d with closedSw := false } } l.profile only) ∧
      (s.resetting = false →
        (held l = true →
          gives (.forceClose number) (gangStarts s l.side 3 (together held)) 3 (together held)) ∧
        (∀ c, l.state = .isolated c → s.odo.motion = .standstill → (s.drc.inputs.get d).lockSw = false →
          gives (.restore number) s 1 only))) ∧
    ∀ (side : Side),
      let closing := fun (_ : Drive) (m : Leaf) => m.side == side && unlocked m
      let losing := fun (_ : Drive) (m : Leaf) => m.side == side && (unlocked m || held m)
      (s.resetting = false → gives (.closeSide side.code) (gangStarts s side 1 closing) 1 closing) ∧
      (s.drc.inForce = some side →
        (releaseCondition s ≠ some side → ∀ d l, s.drc.leaves.get d = some l → l.side = side →
          (judgeRelease s).drc.leaves.get d = closedTogether (gangStarts s side 1 losing) 1 losing d) ∧
        (s.resetting = false → s.drc.release ≠ none → ∀ argument,
          gives (.doorCommandWithdraw argument) (gangStarts s side 1 losing) 1 losing) ∧
        ∀ pair way, ∃ t, exec (.pulseCount pair way) s = .next t ∧
          (s.odo.motion = .standstill → finds t (gangStarts s side 1 losing) 1 losing)) ∧
      ∀ (c : Instr) (t : State), ¬(∃ pins, c = .powerOn pins) → ¬(∃ image, c = .settingsLoadEnd image) → c ≠ .drcLineReset → exec c s = .next t →
        (s.cmc.pendingSet = emptyPending ∨ LeafSetLaw s ∧ GangLaw s) →
        s.drc.inForce = some side → t.drc.inForce ≠ some side →
        ∀ d l, s.drc.leaves.get d = some l → l.side = side →
          t.drc.leaves.get d = closedTogether (gangStarts { s with cmc := t.cmc } side 1 losing) 1 losing d

/-- When release is in force (R149): a record stands, the mode is not STABLED, the car stands still, the holding brake
is confirmed applied, the HOLDING channel is not FAILED, and the record's platform contains the car span on its
side, or, for a local release, the mode is PREPARATION or SHUNT. What a change of it does (R150): a side that
gains release has its LOCKED leaves unlocked, or isolated where the overcurrent line is active; a side that loses
it has its leaves in UNLOCKED, OPENING, OPEN and HELD put in CLOSING at profile 1, with a gang they belong to at
index 1 (their lines that end CLOSING at once being inactive; active ones: ClosingStartsFindTheirLines). Leaves of
the other side and in other states stay. DRC's own judgement and the commands that bring an event of R149 move the
leaves so and no further, those that are no door command or telegram with the rest of DRC's state kept (where the
pending set may apply: with none pending, or a leaf set and gangs as the parameters give them,
EveryStepKeepsDoorLaw); and after each command that changes what R149 lists, and after a SET_POSITION taken,
release in force and door hold are those of the new state. THE MODEL'S CHOICE (assumption log 6): a gang whose
members a loss of release finds HELD only takes index 1 too. -/
def Obligations.ReleaseInForceAndItsChanges : Prop :=
  (∀ (s : State) (side : Side),
    releaseCondition s = some side ↔
      ∃ r, s.drc.release = some r ∧ r.side = side ∧ s.cmc.mode ≠ .stabled ∧ s.odo.motion = .standstill ∧
        s.brc.confirmed = true ∧ s.brc.holding.health ≠ .failed ∧
        (r.station = none → s.cmc.mode = .preparation ∨ s.cmc.mode = .shunt) ∧
        (∀ station, r.station = some station →
          ∃ g low high, platformOf s station = some g ∧ carSpan s = some (low, high) ∧
            g.record.hasSide side = true ∧ g.start ≤ low ∧ high ≤ g.finish)) ∧
  (∀ (s : State), quietWhere (fun _ l => s.drc.inForce = some l.side ∧ unclosed l) s →
    let moves := fun (t : State) =>
      (∀ d l, s.drc.leaves.get d = some l →
        t.drc.leaves.get d = some (movedByRelease { s with cmc := t.cmc } t.drc.inForce d l)) ∧
      (∀ d, s.drc.leaves.get d = none → t.drc.leaves.get d = none) ∧
      (∀ side, s.drc.gang side = none → t.drc.gang side = none) ∧
      ∀ side g, s.drc.gang side = some g →
        let closing := s.drc.inForce = some side ∧ t.drc.inForce ≠ s.drc.inForce ∧
          ∃ d l, s.drc.leaves.get d = some l ∧ l.side = side ∧ g.members.get d = true ∧ unclosed l
        ∃ g', t.drc.gang side = some g' ∧ (closing → g'.index = 1) ∧ (¬closing → g'.index = g.index) ∧
          ∀ d, g'.members.get d = true ↔ g.members.get d = true ∧
            ¬(t.drc.inForce = some side ∧ t.drc.inForce ≠ s.drc.inForce ∧ isolatedAtUnlock s side d)
    (judgeRelease s).drc.inForce = releaseCondition s ∧ moves (judgeRelease s) ∧
    (∀ (c : Instr) (sideCode argument station : Byte) (h : Header),
      c ∈ [Instr.doorCommandRelease sideCode, .doorCommandWithdraw argument, .doorRelease h station sideCode,
          .doorWithdraw h station] →
      ∃ t, exec c s = .next t ∧ moves t) ∧
    ∀ (c : Instr) (pair : Pair) (way : Way) (f : Feedback) (mode : Byte) (count : Half) (x y : Word) (ch : Channel),
      c ∈ [Instr.pulseCount pair way, .standstillExpiry, .setMode mode, .lineReset, .setPosition x y,
          .profileBegin count x, .profileEnd, .odoLineReset, .feedbackChange f, .checkTimerExpiry ch, .startBrakeTest,
          .stepTimerExpiry] →
      (c = .standstillExpiry ∨ c = .setMode mode → s.cmc.pendingSet = emptyPending ∨ LeafSetLaw s ∧ GangLaw s) →
      ∃ t, exec c s = .next t ∧ moves t ∧
        t.drc = { s.drc with
          leaves := t.drc.leaves, gangLeft := t.drc.gangLeft, gangRight := t.drc.gangRight,
          inForce := t.drc.inForce, doorHold := t.drc.doorHold, reportDue := t.drc.reportDue }) ∧
  (∀ (s t : State) (c : Instr), exec c s = .next t →
    t.drc.release ≠ s.drc.release ∨ t.cmc.mode ≠ s.cmc.mode ∨ t.odo.motion ≠ s.odo.motion ∨
      t.odo.status ≠ s.odo.status ∨ t.brc.confirmed ≠ s.brc.confirmed ∨
      t.brc.holding.health ≠ s.brc.holding.health ∨
      (t.lps.status = .valid ∧ s.lps.status ≠ .valid) ∨
      (t.lps.status ≠ .valid ∧ s.lps.status = .valid ∧ s.sld.status ≠ .loading) ∨
      (s.resetting = false ∧ s.lps.status = .valid ∧ s.odo.motion = .standstill ∧ ∃ x y, c = .setPosition x y) →
    t.drc.inForce = releaseCondition t ∧ t.drc.doorHold = !everyLeafLocked t.drc)

/-- DOOR_COMMAND RELEASE, WITHDRAW and an unknown door command (R148): the checks in turn; a release taken stores its
record, a withdrawal removes the record that stands, and either judges release in force anew; everything else changes
nothing but the slot. DOOR_RELEASE and DOOR_WITHDRAW telegrams (R146, R147): a release judged by its checks in turn is
stored, or refused with its reason as the last refused release; a withdrawal removes a RADIO record of its station and
nothing else. A change raises DOOR, queues a DOOR_STATE and leaves release in force as R149 gives it. -/
def Obligations.DoorReleasesJudgedInOrder : Prop :=
   (∀ (s : State) (sideCode argument command : Byte), s.resetting = false →
      let keeps := fun (t : State) =>
        t.cmc = s.cmc ∧ t.odo = s.odo ∧ t.lps = s.lps ∧ t.rtb = s.rtb ∧ t.ssv = s.ssv ∧ t.sld = s.sld ∧
        t.pending = s.pending ∧ t.drc.lastRefused = s.drc.lastRefused
      let stores := fun (t : State) (r : Release) =>
        t.hlp.slot = answer s 0x1B { code := .done } ∧ t.drc.release = some r ∧ t.drc.inForce = releaseCondition t ∧
        queuedKind .doorState t.vrl.queue = true ∧ keeps t
      (∃ t, exec (.doorCommandRelease sideCode) s = .next t ∧
        if sideCode ≠ 1 ∧ sideCode ≠ 2 then t = answered s 0x1B (refuse .refusedRange)
        else
          let side : Side := if sideCode = 1 then .left else .right
          if s.cmc.mode = .stabled then t = answered s 0x1B (refuse .refusedMode)
          else
            match s.drc.release with
            | some r =>
              t = answered s 0x1B (if r.side = side then { code := .done } else refuseDetail 0x0F)
            | none =>
              if s.cmc.mode = .service then
                match cabPlatform s with
                | none => t = answered s 0x1B (refuseDetail 0x0D)
                | some g =>
                  if g.record.hasSide side = true then stores t ⟨side, .cab, some g.record.stationId⟩
                  else t = answered s 0x1B (refuseDetail 0x0E)
              else if s.odo.motion = .standstill then stores t ⟨side, .cab, none⟩
              else t = answered s 0x1B (refuse .refusedMotion)) ∧
      (∃ t, exec (.doorCommandWithdraw argument) s = .next t ∧ t.hlp.slot = answer s 0x1B { code := .done } ∧
        (s.drc.release = none → t = { s with hlp.slot := t.hlp.slot, hlp.sdo := [] }) ∧
        (s.drc.release ≠ none → t.drc.release = none ∧ t.drc.inForce = none ∧
          queuedKind .doorState t.vrl.queue = true ∧ keeps t)) ∧
      exec (.unknownDoorCommand command argument) s =
        .next (answered s 0x1B (refuse .refusedRange))) ∧
   (∀ (s : State) (h : Header) (station sideCode : Byte), reaches h s →
      let keeps := fun (t : State) =>
        heard h s t ∧ t.cmc = s.cmc ∧ t.odo = s.odo ∧ t.lps = s.lps ∧ t.rtb = s.rtb ∧ t.ssv = s.ssv ∧
        t.hlp.slot = s.hlp.slot ∧ t.sld = s.sld ∧ t.pending = s.pending
      let told := fun (t : State) => t.hlp.attention.door = true ∧ queuedKind .doorState t.vrl.queue = true
      (∃ t, exec (.doorRelease h station sideCode) s = .next t ∧ keeps t ∧ told t ∧
        let refusedFor := fun (reason : RefusedReason) =>
          t.drc.lastRefused = some ⟨station, sideCode, reason⟩ ∧ t.drc.release = s.drc.release ∧
          t.drc.leaves = s.drc.leaves
        if s.cmc.mode = .stabled then refusedFor .mode
        else
          match platformOf s station with
          | none => refusedFor .noPlatform
          | some g =>
            if ¬(sideCode = 1 ∧ g.record.hasSide .left = true ∨ sideCode = 2 ∧ g.record.hasSide .right = true) then
              refusedFor .side
            else if g.record.releaseOrigin ≠ 1 then refusedFor .origin
            else
              let r : Release := ⟨if sideCode = 1 then .left else .right, .radio, some station⟩
              if s.drc.release = none ∨ s.drc.release = some r then
                t.drc.release = some r ∧ t.drc.inForce = releaseCondition t ∧ t.drc.lastRefused = s.drc.lastRefused
              else refusedFor .otherRelease) ∧
      (∃ t, exec (.doorWithdraw h station) s = .next t ∧ keeps t ∧ t.drc.lastRefused = s.drc.lastRefused ∧
        if s.drc.release = some ⟨.left, .radio, some station⟩ ∨ s.drc.release = some ⟨.right, .radio, some station⟩ then
          t.drc.release = none ∧ t.drc.inForce = none ∧ told t
        else t.drc = s.drc ∧ t.brc = s.brc ∧ t.vrl.queue = s.vrl.queue ∧ t.hlp = s.hlp))

/-- OPEN_SIDE and CLOSE_SIDE (R151, R152): their refusals; OPEN_SIDE opens the leaves of its side while release is
in force, and CLOSE_SIDE puts those in UNLOCKED, OPENING and OPEN, with none of their lines active that end
CLOSING at once, in CLOSING at profile 1, ganged or not. The other side's leaves, and leaves in other states,
stay; so does the release. FORCE_CLOSE, ISOLATE and RESTORE (R155, R157, R158): each refusal in turn, the
answers that change nothing but the slot, and what a taken command makes of the leaf it names, with none of its
lines active that end CLOSING at once (FORCE_CLOSE on a gang member: GangMovesTogether; active lines:
ClosingStartsFindTheirLines). THE MODEL'S CHOICE (assumption log 14): RESTORE of a leaf whose overcurrent line
is active isolates it with cause OVERCURRENT whatever its cause was; a leaf whose open switch is already made is
OPEN at once (assumption log 6). -/
def Obligations.DoorCommandsOnSidesAndLeaves : Prop :=
   (∀ (s : State) (sideCode : Byte), s.resetting = false →
      let keeps := fun (t : State) =>
        t.drc.inputs = s.drc.inputs ∧ t.drc.release = s.drc.release ∧ t.drc.inForce = s.drc.inForce ∧ t.cmc = s.cmc ∧
        t.odo = s.odo ∧ t.lps = s.lps ∧ t.rtb = s.rtb ∧ t.ssv = s.ssv ∧ t.sld = s.sld ∧ t.pending = s.pending
      (sideCode ≠ 1 → sideCode ≠ 2 →
        exec (.openSide sideCode) s = .next (answered s 0x1B (refuse .refusedRange)) ∧
        exec (.closeSide sideCode) s = .next (answered s 0x1B (refuse .refusedRange))) ∧
      (∀ side : Side, sideCode = (match side with | .left => 1 | .right => 2) →
        (s.drc.inForce ≠ some side →
          exec (.openSide sideCode) s = .next (answered s 0x1B (refuseDetail 0x11))) ∧
        (s.drc.inForce = some side → ∃ t, exec (.openSide sideCode) s = .next t ∧
          t.hlp.slot = answer s 0x1B { code := .done } ∧ keeps t ∧
          ∀ d l, s.drc.leaves.get d = some l →
            t.drc.leaves.get d = some (if l.side = side then openedByRelease s d l else l)) ∧
        (quietWhere (fun _ l => l.side = side ∧ (l.state = .unlocked ∨ l.state = .opening ∨ l.state = .opened)) s →
          ∃ t, exec (.closeSide sideCode) s = .next t ∧ t.hlp.slot = answer s 0x1B { code := .done } ∧ keeps t ∧
            ∀ d l, s.drc.leaves.get d = some l →
              t.drc.leaves.get d = some
                (if l.side = side ∧ (l.state = .unlocked ∨ l.state = .opening ∨ l.state = .opened) then
                  closingAt s 1 l
                 else l)))) ∧
   (∀ (s : State) (drive : Byte), s.resetting = false →
      let only := fun (c : Instr) (r : Reply) => exec c s = .next (answered s 0x1B r)
      let makes := fun (c : Instr) (d : Drive) (leaf : Leaf) =>
        ∃ t, exec c s = .next t ∧ t.hlp.slot = answer s 0x1B { code := .done } ∧ t.drc.leaves.get d = some leaf ∧
          (∀ e, e ≠ d → t.drc.leaves.get e = s.drc.leaves.get e) ∧ t.drc.inputs = s.drc.inputs ∧
          t.drc.release = s.drc.release ∧ queuedKind .doorState t.vrl.queue = true ∧ t.cmc = s.cmc ∧ t.odo = s.odo ∧
          t.lps = s.lps ∧ t.rtb = s.rtb ∧ t.ssv = s.ssv ∧ t.sld = s.sld ∧ t.pending = s.pending
      (namedLeaf s drive = none →
        only (.forceClose drive) (refuse .refusedRange) ∧ only (.isolate drive) (refuse .refusedRange) ∧
        only (.restore drive) (refuse .refusedRange)) ∧
      (∀ d l, namedLeaf s drive = some (d, l) →
        let i := s.drc.inputs.get d
        (l.isHeld = false → only (.forceClose drive) (refuseDetail 0x12)) ∧
        (l.isHeld = true → gangMember s l.side d = false → quietDrive s d →
          makes (.forceClose drive) d (closingAt s 3 l)) ∧
        (∀ c, l.state = .isolated c → only (.isolate drive) { code := .done }) ∧
        (l.state = .locked → s.drc.inForce ≠ some l.side → only (.isolate drive) (refuseDetail 0x10)) ∧
        ((∀ c, l.state ≠ .isolated c) → (l.state = .locked → s.drc.inForce = some l.side) →
          makes (.isolate drive) d (isolatedBy .host l)) ∧
        ((∀ c, l.state ≠ .isolated c) → only (.restore drive) (refuseDetail 0x13)) ∧
        (∀ c, l.state = .isolated c →
          (s.odo.motion ≠ .standstill → only (.restore drive) (refuse .refusedMotion)) ∧
          (s.odo.motion = .standstill → i.lockSw = true →
            makes (.restore drive) d { l with state := .locked, profile := 1, timer := none }) ∧
          (s.odo.motion = .standstill → i.lockSw = false → i.ovc = true →
            makes (.restore drive) d { isolatedBy .overcurrent l with profile := 1 }) ∧
          (s.odo.motion = .standstill → i.lockSw = false → quietDrive s d →
            makes (.restore drive) d (closingAt s 1 l)))))

/-! ### Chapters 10 and 11: the valley radio link -/

/-- FRAME_DROPPED (R168): a frame of an uplink kind or for another car is foreign; one for this car whose kind is
not in the table, whose body has not its kind's length, whose source is no dispatch address or whose beacon or
notice fields lie out of range is malformed; each is counted and dropped, with the receiver in SEARCH and CHBUSY
as the frame's end finds it, and nothing else changes. FRAMING and CHECK latch their error with its count (R165,
R166, R170). While VRL sends, none of it is heard (R167). A frame whose kind and body are those of a telegram is
that telegram (R168, R184): FRAME_DROPPED on it does what the telegram's own command does with the fields read
high octet first, CHBUSY as the frame's end finds it, and the reply of a NAK FULL first (assumption log 9). -/
def Obligations.CompletedFramesJudged : Prop :=
   (∀ (s : State) (f : Frame) (busy : Bool),
      let n := f.body.length
      let octet := fun (i : Nat) => ((f.body[i]?).getD 0).toNat
      let uplink := 0x81 ≤ f.kind.toNat ∧ f.kind.toNat ≤ 0x85
      let mine := f.destination = 0 ∨ f.destination.toNat = paramValue s.cmc.params 42
      let wellFormed :=
        (f.kind = 1 ∧ n = 5 ∧ 1 ≤ octet 0 ∧ octet 0 ≤ 63 ∧ 1 ≤ octet 1 ∧ octet 1 ≤ 16 ∧
          20 ≤ octet 2 * 256 + octet 3 ∧ octet 2 * 256 + octet 3 ≤ 500 ∧ 1 ≤ octet 4 ∧ octet 4 ≤ 16) ∨
        (f.kind = 2 ∧ n = 17) ∨ (f.kind = 3 ∧ n = 3) ∨ (f.kind = 4 ∧ n = 1) ∨ (f.kind = 5 ∧ n = 2) ∨
        (f.kind = 6 ∧ n = 1) ∨ (f.kind = 7 ∧ n = 0) ∨ (f.kind = 8 ∧ 2 ≤ n ∧ n ≤ 49) ∨ (f.kind = 9 ∧ n = 1)
      let quiet := s.vrl.transmission = none
      (quiet → uplink ∨ ¬mine → exec (.frameDropped ⟨f, busy⟩) s = .next { s with
        vrl := { s.vrl with
          receiver := .search 0, chBusy := busy, foreignCount := min (s.vrl.foreignCount + 1) 65535 } }) ∧
      (quiet → ¬uplink → mine → ¬(wellFormed ∧ f.source.toNat ≤ 63) → exec (.frameDropped ⟨f, busy⟩) s =
        .next { s with
          vrl := { s.vrl with
            receiver := .search 0, chBusy := busy, malformedCount := min (s.vrl.malformedCount + 1) 65535 } }) ∧
      (quiet → exec .framing s = .next { s with
        vrl := { s.vrl with
          receiver := .search 0,
          errors := { s.vrl.errors with framing := true, framingCount := min (s.vrl.errors.framingCount + 1) 65535 } },
        hlp.attention := { s.hlp.attention with radio := true } }) ∧
      (quiet → exec .check s = .next { s with
        vrl := { s.vrl with
          receiver := .search 0,
          errors := { s.vrl.errors with check := true, checkCount := min (s.vrl.errors.checkCount + 1) 65535 } },
        hlp.attention := { s.hlp.attention with radio := true } }) ∧
      (s.vrl.transmission ≠ none → ∀ bit, ∀ c ∈ [Instr.frameDropped ⟨f, busy⟩, .framing, .check, .receivedBit bit],
        exec c s = .next s)) ∧
   (∀ (s : State) (h : Header) (b : BeaconFields) (r : RestrictFields) (id : Half) (x y : Byte) (text : List Byte)
      (busy : Bool), s.vrl.transmission = none →
      let arrived := { s with vrl.chBusy := busy }
      let frame := fun (kind : Byte) (body : List Byte) =>
        exec (.frameDropped ⟨⟨h.destination, h.source, kind, h.linkSequence, body⟩, busy⟩) s
      frame 0x01 ([b.zone, b.slotCount] ++ octets2 b.slotLength.toNat ++ [b.interval]) = exec (.beacon h b busy) s ∧
      frame 0x02 (octets2 r.id.toNat ++ [r.sequence] ++ octets4 r.zoneStart.toNat ++ octets4 r.zoneEnd.toNat ++
        [r.appliesTo] ++ octets2 r.limit.toNat ++ [r.lifeFlag] ++ octets2 r.life.toNat) = exec (.restrict h r false) arrived ∧
      frame 0x03 (octets2 id.toNat ++ [x]) = exec (.revoke h id x) arrived ∧ frame 0x04 [x] = exec (.syncDone h x) arrived ∧
      frame 0x05 [x, y] = exec (.doorRelease h x y) arrived ∧ frame 0x06 [x] = exec (.doorWithdraw h x) arrived ∧
      frame 0x07 [] = exec (.poll h) arrived ∧ frame 0x08 (x :: text) = exec (.notice h x text) arrived ∧
      frame 0x09 [x] = exec (.ack h x) arrived)

/-- BEACON (R172, R187): the context with the car's slot, the window timer at the car's slot, and an UNJOINED car's
move to REPORTING with a new list queued in place of older pages: its pages at the tail in page order, with the
sequences that follow (R177, R186, R188). In slot 0 the car's window starts in the same event
(assumption log 9). Nothing else changes. -/
def Obligations.BeaconTaken : Prop :=
  ∀ (s : State) (h : Header) (f : BeaconFields) (busy : Bool), reaches h s →
    1 ≤ f.zone.toNat → f.zone.toNat ≤ 63 → 1 ≤ f.slotCount.toNat → f.slotCount.toNat ≤ 16 →
    20 ≤ f.slotLength.toNat → f.slotLength.toNat ≤ 500 → 1 ≤ f.interval.toNat → f.interval.toNat ≤ 16 →
    let slot := paramValue s.cmc.params 42 % f.slotCount.toNat
    let taken := { noted h s with
      beacon := some ⟨f.zone, f.slotCount.toNat, f.slotLength.toNat, f.interval.toNat, slot⟩,
      windowTimer := some (slot * f.slotLength.toNat), chBusy := busy }
    ∃ u,
      (if s.vrl.dialogue = .unjoined then
        u.vrl.listCounter = s.vrl.listCounter + 1 ∧ u.vrl.currentList = some (s.vrl.listCounter + 1) ∧
        u.vrl.queue = (s.vrl.queue.filter fun e => e.kind != .restrictList) ++
          queuedPages s.vrl.uplinkCounter (s.vrl.listCounter + 1) (listEntries s) ∧
        u.vrl.uplinkCounter =
          s.vrl.uplinkCounter + BitVec.ofNat 8 (pages (s.vrl.listCounter + 1) (listEntries s)).length ∧
        u = { s with
          vrl := { taken with
            dialogue := .reporting, listCounter := u.vrl.listCounter, currentList := u.vrl.currentList,
            queue := u.vrl.queue, uplinkCounter := u.vrl.uplinkCounter },
          hlp.attention := { s.hlp.attention with dialogue := true } }
       else u = { s with vrl := taken }) ∧
      exec (.beacon h f busy) s = if slot = 0 then exec (.windowStart busy) u else .next u

/-- The restriction list (R72, R188): its entries are the DISPATCH records held, each with its id and stored sequence,
in ascending order of id, on one page up to 16 entries and on two otherwise, the first one full. An alarm cause handed
to VRL (R177, R185): a queued ALARM takes the union of its bits and the cause's, a new sequence and attempt count 0 in
its place; otherwise a new ALARM with the one bit goes to the head, or behind a head that has been sent. DRC's state
handed to VRL: a queued DOOR_STATE is refreshed in its place, and otherwise a new one joins at the tail, with the 37
octets of R185. TRIGGER_EMERGENCY hands HOST_REQUEST so, and a refused radio release DRC's state. -/
def Obligations.UplinkTelegramsQueued : Prop :=
  (∀ (s : State) (q : Byte),
      let l := listEntries s
      l.Pairwise (fun a b => a.id ≤ b.id) ∧
      (∀ id, (id ∈ l.map ListEntry.id) ↔ ∃ x ∈ heldRecords s, x.2.origin = .dispatch ∧ x.2.id = id) ∧
      (∀ x ∈ heldRecords s, x.2.origin = .dispatch → ∀ sequence, x.2.sequence = some sequence →
        ⟨x.2.id, sequence⟩ ∈ l) ∧ l.length = ((heldRecords s).filter fun x => x.2.origin == .dispatch).length ∧
      (l.length ≤ 16 → pages q l = [[1, 1, q, BitVec.ofNat 8 l.length] ++ l.flatMap fun e => octets2 e.id ++ [e.sequence]]) ∧
      (16 < l.length → pages q l =
        [[1, 2, q, 16] ++ (l.take 16).flatMap (fun e => octets2 e.id ++ [e.sequence]),
         [2, 2, q, BitVec.ofNat 8 (l.length - 16)] ++ (l.drop 16).flatMap fun e => octets2 e.id ++ [e.sequence]])) ∧
  (∀ (s : State) (c : AlarmCause),
    let bit := match c with
      | .latch .powerOn => 0 | .latch .overspeed => 1 | .latch .rollback => 2 | .latch .rackMissed => 3
      | .latch .stabledMotion => 4 | .latch .doorMotion => 5 | .latch .loopOpen => 6 | .latch .hostRequest => 7
      | .latch .testMotion => 8 | .brakeFault => 9 | .positionConflict => 10 | .doorFault => 11
    let high : Byte := BitVec.ofNat 8 (2 ^ bit / 256)
    let low : Byte := BitVec.ofNat 8 (2 ^ bit)
    let t := handAlarm c s
    let next := s.vrl.uplinkCounter + 1
    let alarm : UplinkEntry := ⟨.alarm, next, 0, [high, low]⟩
    t = { s with vrl.queue := t.vrl.queue, vrl.uplinkCounter := next } ∧
    ((∀ e ∈ s.vrl.queue, e.kind ≠ .alarm) → t.vrl.queue =
      match s.vrl.queue with
      | [] => [alarm]
      | e :: rest => if e.attempts = 0 then alarm :: e :: rest else e :: alarm :: rest) ∧
    (∀ before after a b attempts sequence, s.vrl.queue = before ++ [⟨.alarm, sequence, attempts, [a, b]⟩] ++ after →
      (∀ e ∈ before ++ after, e.kind ≠ .alarm) →
      t.vrl.queue = before ++ [⟨.alarm, next, 0, [a ||| high, b ||| low]⟩] ++ after)) ∧
  (∀ (s : State),
    let leaf := fun (l : Option Leaf) => match l with
      | none => List.replicate 7 (0 : Byte)
      | some l =>
        [1, (match l.side with | .left => 1 | .right => 2), (match l.index with | .valley => 1 | .mountain => 2),
         (match l.state with
          | .locked => 1 | .unlocked => 2 | .opening => 3 | .opened => 4 | .closing => 5 | .reversing _ => 6
          | .locking => 7 | .held _ => 8 | .isolated _ => 9),
         BitVec.ofNat 8 l.profile,
         (match l.state with
          | .isolated .overcurrent => 1 | .isolated .timeout => 2 | .isolated .host => 3 | _ => 0),
         if l.lockLost then 1 else 0]
    let release : List Byte := match s.drc.release with
      | none => [0, 0, 0, 0, 0]
      | some r =>
        [1, (match r.side with | .left => 1 | .right => 2), (match r.origin with | .radio => 1 | .cab => 2),
         r.station.getD 0, if s.drc.inForce = none then 0 else 1]
    let refused : List Byte := match s.drc.lastRefused with
      | none => [0, 0, 0, 0]
      | some r =>
        [1, r.station, r.side,
         (match r.reason with | .mode => 1 | .noPlatform => 2 | .side => 3 | .origin => 4 | .otherRelease => 5)]
    let body := leaf s.drc.leaves.d1 ++ leaf s.drc.leaves.d2 ++ leaf s.drc.leaves.d3 ++ leaf s.drc.leaves.d4 ++
      release ++ refused
    let t := handDoorState s
    let next := s.vrl.uplinkCounter + 1
    t = { s with vrl.queue := t.vrl.queue, vrl.uplinkCounter := next } ∧ body.length = 37 ∧
    ((∀ e ∈ s.vrl.queue, e.kind ≠ .doorState) → t.vrl.queue = s.vrl.queue ++ [⟨.doorState, next, 0, body⟩]) ∧
    (∀ before after e, s.vrl.queue = before ++ [e] ++ after → e.kind = .doorState →
      (∀ x ∈ before ++ after, x.kind ≠ .doorState) →
      t.vrl.queue = before ++ [⟨.doorState, next, 0, body⟩] ++ after)) ∧
  (∀ (s : State) (h : Header) (station sideCode : Byte),
    (s.resetting = false → s.brc.latch.hostRequest = false →
      ∃ t, exec .triggerEmergency s = .next t ∧ t.vrl = (handAlarm (.latch .hostRequest) s).vrl) ∧
    (reaches h s → s.cmc.mode = .stabled →
      ∃ t, exec (.doorRelease h station sideCode) s = .next t ∧
        t.vrl.queue = (handDoorState { s with drc := t.drc }).vrl.queue))

/-- POLL, ACK and SYNC_DONE (R169, R174, R179, R190): the poll mark, the removal of an uplink queue head with the
sequence acknowledged, and at a SYNC_DONE that answers the current list in REPORTING the entry to JOINED with the
overflow condition and both radio causes gone and every list page dropped; otherwise nothing but what a valid telegram
changes. NOTICE (R180): a repeated number is dropped; otherwise the notice joins at the tail, or with four queued
takes the place of the newest, marked overwritten, with OVERRUN latched; NOTICE is raised when the threshold is
reached. -/
def Obligations.PollAckSyncDoneAndNotice : Prop :=
   (∀ (s : State) (h : Header) (x : Byte), reaches h s →
      exec (.poll h) s = .next { s with vrl := { noted h s with pollMark := true } } ∧
      exec (.ack h x) s = .next { s with
        vrl := { noted h s with
          queue := match s.vrl.queue with
            | [] => []
            | e :: rest => if e.sequence = x then rest else e :: rest } } ∧
      exec (.syncDone h x) s = .next
        (if s.vrl.dialogue = .reporting ∧ s.vrl.currentList = some x then
          { s with
            vrl := { noted h s with
              dialogue := .joined, queue := s.vrl.queue.filter fun e => e.kind != .restrictList },
            rtb := { s.rtb with overflow := false, overflowCount := 0 },
            ssv.blankets := { s.ssv.blankets with linkSilence := false, tableOverflow := false },
            hlp.attention := { s.hlp.attention with dialogue := true } }
         else { s with vrl := noted h s })) ∧
   (∀ (s : State) (h : Header) (number : Byte) (text : List Byte), reaches h s → 1 ≤ text.length → text.length ≤ 48 →
      ∃ t, exec (.notice h number text) s = .next t ∧
        if s.vrl.lastNotice = some number then t = { s with vrl := noted h s }
        else
          t.vrl.lastNotice = some number ∧
          (s.vrl.notices.length < 4 → t.vrl.notices = s.vrl.notices ++ [⟨number, text, h.source, false⟩] ∧
            t.vrl.errors = s.vrl.errors) ∧
          (4 ≤ s.vrl.notices.length → t.vrl.notices = s.vrl.notices.take 3 ++ [⟨number, text, h.source, true⟩] ∧
            t.vrl.errors =
              { s.vrl.errors with overrun := true, overrunCount := min (s.vrl.errors.overrunCount + 1) 65535 } ∧
            t.hlp.attention.radio = true) ∧
          (t.hlp.attention.notice = true ↔
            s.hlp.attention.notice = true ∨ paramValue s.cmc.params 52 ≤ t.vrl.notices.length) ∧
          t = { s with
            vrl := { noted h s with
              lastNotice := some number, notices := t.vrl.notices, errors := t.vrl.errors },
            hlp.attention := { s.hlp.attention with
              notice := t.hlp.attention.notice, radio := t.hlp.attention.radio } })

/-- WINDOW_START (R174, R175, R176) by its cases in turn: no effect without a window scheduled; UNUSED while UNJOINED;
the window count raised and MISSED on a busy channel; a POSITION, with the
octets of R185, at the poll mark; the queue head, or at its fourth
attempt without an ACK the dialogue's fall to UNJOINED; a POSITION when the report interval is reached; UNUSED
otherwise. A telegram sent asserts TXEN with the frame of R164 and leaves the receiver in SEARCH. SILENCE_EXPIRY
(R171, R186, R191) brings the dialogue to UNJOINED with the LINK_SILENCE cause; TRANSMISSION_END (R167, R175) releases
TXEN with the receiver in SEARCH. With no silence timer running, or nothing being sent, nothing happens. -/
def Obligations.WindowsAndTransmissions : Prop :=
   (∀ (s : State) (busy : Bool),
      let count := min (s.vrl.windowCount + 1) 255
      let r := s.odo.report
      let opened := { s.vrl with windowTimer := none, chBusy := busy, windowCount := count }
      let sends := fun (t : State) (kind : SentKind) (code sequence : Byte) (body : List Byte) =>
        t.vrl.lastWindow = some (.used kind sequence) ∧ t.vrl.receiver = .search 0 ∧
        t.vrl.transmission = some
          ⟨airFrame 0 (BitVec.ofNat 8 (paramValue s.cmc.params 42)) code sequence body, paramValue s.cmc.params 50⟩
      let position := fun (t : State) =>
        sends t .position 0x81 (s.vrl.uplinkCounter + 1)
          ([(match r.status with | .unknown => 0 | .valid => 1 | .degraded => 2)] ++ octets4 r.nominal ++
           octets4 r.uncertainty ++ octets2 r.speed ++
           [(match r.travel with | .none => 0 | .up => 1 | .down => 2),
            (match s.cmc.mode with | .stabled => 1 | .preparation => 2 | .service => 3 | .shunt => 4),
            (match s.vrl.beacon with | none => 0 | some b => b.zone),
            (match s.ssv.state with | .normal => 0 | .warning => 1 | .service => 2 | .emergency => 3)]) ∧
        t = { s with
          vrl := { opened with
            windowCount := 0, uplinkCounter := s.vrl.uplinkCounter + 1, pollMark := false,
            lastWindow := t.vrl.lastWindow, receiver := t.vrl.receiver, transmission := t.vrl.transmission } }
      ∃ t, exec (.windowStart busy) s = .next t ∧
        if s.vrl.windowTimer = none then t = s
        else if s.vrl.dialogue = .unjoined then
          t = { s with vrl := { s.vrl with windowTimer := none, chBusy := busy, lastWindow := some .unused } }
        else if busy = true then
          t = { s with
            vrl := { opened with missedCount := min (s.vrl.missedCount + 1) 65535, lastWindow := some .missed } }
        else if s.vrl.pollMark = true then position t
        else
          match s.vrl.queue with
          | e :: rest =>
            if e.attempts < 4 then
              sends t (.queued e.kind)
                (match e.kind with | .restrictReply => 0x82 | .restrictList => 0x83 | .doorState => 0x84 | .alarm => 0x85)
                e.sequence e.body ∧
              t = { s with
                vrl := { opened with
                  queue := { e with attempts := e.attempts + 1 } :: rest, lastWindow := t.vrl.lastWindow,
                  receiver := t.vrl.receiver, transmission := t.vrl.transmission } }
            else
              t = { s with
                vrl := { opened with
                  queue := { e with attempts := 0 } :: rest, dialogue := .unjoined, lastWindow := some .unused },
                ssv.blankets := { s.ssv.blankets with linkSilence := true },
                hlp.attention := { s.hlp.attention with dialogue := true } }
          | [] =>
            if (s.vrl.beacon.any fun b => b.interval ≤ count) = true then position t
            else t = { s with vrl := { opened with lastWindow := some .unused } }) ∧
   (∀ (s : State),
      exec .silenceExpiry s = .next
        (if s.vrl.silenceTimer = none then s
         else if s.vrl.dialogue = .unjoined then { s with vrl.silenceTimer := none }
         else
          { s with
            vrl := { s.vrl with silenceTimer := none, dialogue := .unjoined },
            ssv.blankets := { s.ssv.blankets with linkSilence := true },
            hlp.attention := { s.hlp.attention with dialogue := true } }) ∧
      exec .transmissionEnd s = .next
        (if s.vrl.transmission = none then s
         else { s with vrl := { s.vrl with transmission := none, receiver := .search 0 } }))

/-- RECEIVED_BIT (R164, R165, R166): in SEARCH the history takes the bit and the sync word starts the length octet.
The bits of a whole frame on the air, most significant first, after a receiver in SEARCH with an empty history, do
what FRAME_DROPPED does with that frame and CHBUSY as the last bit finds it: no bit of it is lost, and its length,
octets and CRC are taken where R164 puts them. With a length octet below 4 or above 68 the bits up to it do what FRAMING
does (R165), and the bits of a frame with another CRC what CHECK does (R166). -/
def Obligations.ReceivedBitsAreTheFrame : Prop :=
  ∀ (s : State), s.vrl.transmission = none →
    (∀ (history : Half) (bit busy : Bool), s.vrl.receiver = .search history →
      let next := (history <<< 1) ||| (if bit then 1 else 0)
      exec (.receivedBit ⟨bit, busy⟩) s = .next { s with
        vrl := { s.vrl with
          receiver := if next = 0xB42D then .length 0 0 else .search next, chBusy := busy } }) ∧
    (∀ (f : Frame) (arrivals : List (Arrival Bool)) (busy : Bool), s.vrl.receiver = .search 0 → f.body.length ≤ 64 →
      arrivals.map Arrival.what = bitsOf (airFrame f.destination f.source f.kind f.linkSequence f.body) →
      arrivals.getLast?.map Arrival.busy = some busy →
      runAll (arrivals.map .receivedBit) s = exec (.frameDropped ⟨f, busy⟩) s) ∧
    (∀ (length : Byte) (arrivals : List (Arrival Bool)) (busy : Bool), s.vrl.receiver = .search 0 →
      length.toNat < 4 ∨ 68 < length.toNat → arrivals.map Arrival.what = bitsOf [0xB4, 0x2D, length] →
      arrivals.getLast?.map Arrival.busy = some busy →
      runAll (arrivals.map .receivedBit) s = exec .framing { s with vrl.chBusy := busy }) ∧
    (∀ (length : Byte) (octets : List Byte) (crc : Half) (arrivals : List (Arrival Bool)) (busy : Bool),
      s.vrl.receiver = .search 0 → 4 ≤ length.toNat → length.toNat ≤ 68 → octets.length = length.toNat →
      crc ≠ crc16 (length :: octets) →
      arrivals.map Arrival.what = bitsOf ([0xB4, 0x2D, length] ++ octets ++ octets2 crc.toNat) →
      arrivals.getLast?.map Arrival.busy = some busy →
      runAll (arrivals.map .receivedBit) s = exec .check { s with vrl.chBusy := busy })

/-! ### Chapter 12: host link, response slot, attention and stored settings -/

/-- While a LINE_RESET is in progress (R194, R196) every host request but READ_RESPONSE, and every transaction that
holds no READ_RESPONSE, is ignored; that a format error is ignored then is assumption log 11. HOST_FRAME_REJECTED
(R194): a transaction with a wrong address is ignored, and so is one with no octet (assumption log 1); one whose code
is not in the table, whose length is not its code's, or whose body falls short is answered REFUSED_FORMAT under its
code, and one that ends before its code under a code that is left open (assumption log 1); nothing else changes. In
every transaction that is no READ_RESPONSE, answered or ignored, the part sends 00h for each octet on SDO. -/
def Obligations.TransactionsIgnoredOrAnswered : Prop :=
   (∀ (s : State), s.resetting = true →
      (∀ c, requestParts c ≠ none → c ≠ .readResponse → exec c s = .next { s with hlp.sdo := [] }) ∧
      (∀ octets, judgeTransaction octets ≠ .request .readResponse →
        exec (.hostFrameRejected octets) s = .next { s with hlp.sdo := [] })) ∧
   (∀ (s : State) (address code length : Byte) (rest : List Byte), s.resetting = false →
      let format := fun (q : Byte) => Host.Outcome.next (answered s q (refuse .refusedFormat))
      (address ≠ 0xA5 → exec (.hostFrameRejected (address :: rest)) s = .next { s with hlp.sdo := [] }) ∧
      exec (.hostFrameRejected []) s = .next { s with hlp.sdo := [] } ∧
      (∃ q, exec (.hostFrameRejected [0xA5]) s = format q) ∧
      exec (.hostFrameRejected [0xA5, code]) s = format code ∧
      (requestLength code ≠ some length.toNat ∨ rest.length < length.toNat →
        exec (.hostFrameRejected ([0xA5, code, length] ++ rest)) s = format code)) ∧
   (∀ (s t : State) (c : Instr), requestParts c ≠ none ∧ c ≠ .readResponse ∨
        (∃ octets, c = .hostFrameRejected octets ∧ judgeTransaction octets ≠ .request .readResponse) →
      exec c s = .next t → ∀ i, sdoOctet t i = 0)

/-- READ_RESPONSE (R196): the part sends the state and the contents of the slot from the octet after the body length
on, an EMPTY or PENDING slot with zeros and 00h beyond the frame, and an UNREAD response becomes READ; no
response is placed, so nothing else changes. It is answered during a LINE_RESET too. READ_ATTENTION gives the
pending set and empties it, SET_ATTENTION_MASK takes bits 0 to 9 (R198); READ_NOTICE gives and removes the
oldest notice (R181); CLEAR_RADIO_ERRORS gives the errors as they stood and clears set and counts (R170). The
octets of these bodies where R197 leaves them open, the six zeros of an empty notice queue and the overwritten
mark's code among them, are assumption log 3's. -/
def Obligations.SlotAttentionNoticesAndErrors : Prop :=
   (∀ (s : State),
      exec .readResponse s = .next
        (let frame := fun (r : Response) =>
          [r.request, r.code.code, r.detail, if r.lost then (1 : Byte) else 0] ++ octets2 r.body.length ++ r.body
         match s.hlp.slot with
         | .empty => { s with hlp.sdo := [0x00, 0, 0, 0, 0, 0, 0] }
         | .pending _ => { s with hlp.sdo := [0x01, 0x26, 0, 0, 0, 0, 0] }
         | .unread r => { s with hlp := { s.hlp with sdo := [0x02] ++ frame r, slot := .read r } }
         | .read r => { s with hlp.sdo := [0x03] ++ frame r })) ∧
   (∀ (s t : State) (i : Nat), exec .readResponse s = .next t →
      (i < 3 → sdoOctet t i = 0) ∧ (3 + t.hlp.sdo.length ≤ i → sdoOctet t i = 0) ∧
      (∀ o, t.hlp.sdo[i]? = some o → sdoOctet t (i + 3) = o)) ∧
   (∀ (s : State), attnLow s.hlp = true ↔ ∃ c, s.hlp.attention.has c = true ∧ s.hlp.mask.has c = true) ∧
   (∀ (s : State) (mask : Half), s.resetting = false →
      exec .readAttention s = .next { s with
        hlp := { s.hlp with
          slot := answer s 0x02 { code := .done, body := octets2 s.hlp.attention.bits.toNat },
          attention := ⟨false, false, false, false, false, false, false, false, false, false⟩, sdo := [] } } ∧
      (∃ t, exec (.setAttentionMask mask) s = .next t ∧
        t = { s with hlp := { s.hlp with slot := t.hlp.slot, mask := t.hlp.mask, sdo := [] } } ∧
        t.hlp.slot = answer s 0x03 { code := .done, body := octets2 (mask.toNat % 1024) } ∧
        (∀ c, t.hlp.mask.has c = mask.getLsbD
          (match c with
           | .supervision => 0 | .emergency => 1 | .brakeHealth => 2 | .testDone => 3 | .door => 4 | .dialogue => 5
           | .radio => 6 | .notice => 7 | .restriction => 8 | .settings => 9))) ∧
      exec .readNotice s = .next
        (match s.vrl.notices with
         | [] => answered s 0x0A { code := .done, body := [0, 0, 0, 0, 0, 0] }
         | n :: rest =>
           { s with
             vrl.notices := rest,
             hlp.sdo := [], hlp.slot := answer s 0x0A
               { code := .done,
                 body := [1, n.number, BitVec.ofNat 8 n.text.length] ++ n.text ++
                   [n.source, if n.overwritten then 1 else 2, BitVec.ofNat 8 rest.length] } }) ∧
      exec .clearRadioErrors s = .next { s with
        vrl.errors := ⟨false, false, false, 0, 0, 0⟩,
        hlp.sdo := [], hlp.slot := answer s 0x25 { code := .done, body := errorOctets s.vrl.errors } })

/-- The octets of every host request spell it (R194, R195): the transaction that the request's code, body length and
fields give, with any octets after it, is judged as that request, every operand as it was. -/
def Obligations.TransactionsSpellRequests : Prop :=
  ∀ (c : Instr) (octets extra : List Byte), transactionOf c = some octets → c.wellFormed = true →
    judgeTransaction (octets ++ extra) = .request c

/-- READ_POSITION (R33): the estimate with its retained mark, the motion, the engagement, the source, the watch, the
accumulator and the totals, each where the rule lists it; nothing but the slot changes. READ_STATUS, READ_DOORS,
READ_TEST_RESULT and READ_RADIO (R140, R162, R182, R203): each answers with its whole body, and the test's code by
whether a test runs; nothing but the slot changes. THE MODEL'S CHOICE: the codes, the layout of the flags and of
the optional fields (assumption log 3), and the blankets shown during a LINE_RESET (assumption log 4), and that
all parts of READ_STATUS are of one state (assumption log 16). -/
def Obligations.ReadRequestsAnswerOnly : Prop :=
   (∀ (s : State) (source : Pair), countsFrom s source → s.resetting = false →
      let o := s.odo
      let mm := fun (um : Nat) => octets4 (um / 1000)
      let status : List Byte := [match o.status with | .unknown => 0 | .valid => 1 | .degraded => 2]
      let reason : List Byte := match o.degradedReason with
        | none => [0, 0] | some .cap => [1, 1] | some .conflict => [1, 2]
      let estimate : List Byte := match o.estimate with
        | none => List.replicate 18 0
        | some e =>
          [1] ++ mm e.nominal ++ mm e.uncertainty ++ mm (e.nominal - e.uncertainty) ++
          mm (min (e.nominal + e.uncertainty) (lineLength s * 1000)) ++ [if o.status = .unknown then 1 else 0]
      let motion : List Byte :=
        [(match o.travel with | .none => 0 | .up => 1 | .down => 2),
         (match o.motion with | .standstill => 1 | .moving => 2),
         (match o.engagement with | .engaged => 1 | .free => 2),
         (match source with | .tooth => 1 | .wheel => 2)]
      let watch : List Byte := match o.watch with
        | .idle => [1, 0, 0, 0, 0, 0] | .armed x => [2, 1] ++ octets4 x | .missed x => [3, 1] ++ octets4 x
      let totals := octets4 o.toothTotal.toNat ++ octets4 o.wheelTotal.toNat ++ octets2 o.toothIllegal ++
        octets2 o.wheelIllegal
      exec .readPosition s = .next (answered s 0x05
          { code := .done,
            body := status ++ reason ++ estimate ++ octets2 o.speed ++ motion ++ watch ++ mm o.reverse ++ totals })) ∧
   (∀ (s : State), s.resetting = false →
      let opt := fun (width : Nat) (o : Option (List Byte)) => match o with
        | none => List.replicate (width + 1) 0
        | some l => (1 : Byte) :: l
      let set := fun (l : List Bool) => octets2 (l.zipIdx.map fun x => if x.1 then 2 ^ x.2 else 0).sum
      let yes : Bool → Byte := fun b => if b then 1 else 0
      let signed := fun (z : Int) => octets2 (z % 65536).toNat
      let side : Side → Byte := fun x => match x with | .left => 1 | .right => 2
      let health : Channel → Byte := fun c =>
        match (s.brc.channel c).health with | .untested => 1 | .ok => 2 | .degraded => 3 | .failed => 4
      let valve : Bool → Byte := fun b => if b then 1 else 2
      let band : Bool → Byte := fun b => if b then 1 else 2
      let kind : SentKind → Byte := fun x => match x with
        | .position => 0x81 | .queued .restrictReply => 0x82 | .queued .restrictList => 0x83
        | .queued .doorState => 0x84 | .queued .alarm => 0x85
      let settings : List Byte :=
        [(match s.sld.status with
          | .loading => 1 | .loaded => 2 | .absent => 3 | .corrupt => 4 | .saving => 5 | .saved => 6 | .writeFailed => 7),
         if s.sld.clampMark then 2 else 1, BitVec.ofNat 8 s.sld.straps,
         (match s.cmc.mode with | .stabled => 1 | .preparation => 2 | .service => 3 | .shunt => 4),
         (match s.cmc.selected with | .up => 1 | .down => 2 | .neutral => 3),
         BitVec.ofNat 8 ((List.range 31).filter fun i => (pendingValue s.cmc.pendingSet (i + 1)).isSome).length]
      let profile : List Byte :=
        [(match s.lps.status with | .empty => 1 | .loading => 2 | .valid => 3 | .invalid => 4)] ++
        octets2 s.lps.announcedCount ++ octets2 s.lps.receivedCount ++ octets4 s.lps.announcedLength ++
        opt 2 (s.lps.failure.map fun f => octets2 f.1) ++
        opt 1 (s.lps.failure.map fun f =>
          [(match f.2 with
            | .fieldRange => 1 | .firstStart => 2 | .startOrder => 3 | .startBeyond => 4 | .rackSequence => 5
            | .entrySequence => 6 | .stationDuplicate => 7 | .incomplete => 8 | .header => 9)]) ++
        octets4 (lineLength s)
      let mark := fun (b : Bool) => opt 1 (if s.ssv.state = .service then some [if b then 1 else 2] else none)
      let governing := fun (x : Governing) =>
        (match x with
         | .lineMaximum => [(1 : Byte)] | .blanket _ => [2] | .segment _ => [3] | .part _ => [4] | .lineEnd => [5]) ++
        opt 1 (match x with
          | .blanket b => some [(match b with
              | .linkSilence => 1 | .tableOverflow => 2 | .position => 3 | .brake => 4 | .noProfile => 5)]
          | _ => none) ++
        opt 2 (match x with | .segment i => some (octets2 i) | _ => none) ++
        opt 5 (match x with
          | .part n => some ([BitVec.ofNat 8 n.slot, (match n.origin with | .dispatch => 1 | .cab => 2)] ++
              octets2 n.id ++ [if n.inForce then 1 else 2])
          | _ => none)
      let r := s.ssv.record
      let b := seenBlankets s
      let supervision : List Byte :=
        set [b.linkSilence, b.tableOverflow, b.position, b.brake, b.noProfile] ++
        [(match s.ssv.state with | .normal => 0 | .warning => 1 | .service => 2 | .emergency => 3)] ++
        mark s.ssv.acknowledged ++ mark s.ssv.released ++ [if s.ssv.overspeed then 1 else 2] ++
        [(match r.evaluation with | .idle => 1 | .full => 2 | .noPosition => 3 | .shunt => 4),
         (match r.direction with | .up => 1 | .down => 2)] ++
        octets2 r.localLimit ++ octets2 r.permitted ++ octets2 r.speed ++ opt 12 (r.governing.map governing) ++
        opt 22 (r.target.map fun x =>
          octets4 x.position ++ octets2 x.targetSpeed ++ octets4 x.distance ++ octets4 x.effectiveDistance ++
          signed x.worstGradient ++ octets2 x.gravity ++
          [(match x.kind with
            | .rackService => 1 | .rackEmergency => 2 | .adhesionService => 3 | .adhesionEmergency => 4)] ++
          signed x.effectiveDeceleration ++ [yes x.floorApplied]) ++
        octets2 r.targets
      let channel := fun (c : Channel) (width : Nat) =>
        let x := s.brc.channel c
        [health c, (match x.supervision with | .idle => 1 | .checking _ => 2 | .settled => 3),
         BitVec.ofNat 8 x.failures] ++
        opt width (x.lastFailure.map fun f => match f with
          | .service o p => octets2 o ++ octets2 p
          | .holding e p => [valve e] ++ octets2 p
          | .emergency e c => [valve e, band c])
      let demands := [((1 : Byte), s.brc.demands.driver), (2, s.brc.demands.intervention),
        (3, s.brc.demands.doorHold), (4, s.brc.demands.test), (5, s.brc.demands.emergency)].filterMap fun x =>
          x.2.map fun level => [x.1] ++ octets2 level
      let h := s.brc.hold
      let latch := s.brc.latch
      let brakes : List Byte :=
        channel .service 4 ++ channel .holding 3 ++ channel .emergency 2 ++ octets2 s.brc.setpoint ++
        [BitVec.ofNat 8 demands.length] ++ demands.flatten ++ octets2 s.brc.driverLevel ++
        octets2 s.brc.servicePressure ++ octets2 s.brc.holdingPressure ++
        [band s.brc.bandClosed, valve s.brc.releaseValve, valve s.brc.dumpValve] ++
        set [h.mode, h.door, h.latch, h.host, h.auto] ++
        [yes s.brc.confirmed, (match s.brc.hostHold with | .apply => 1 | .release => 2), yes s.brc.permit,
         if s.brc.loopClosed then 2 else 1] ++
        set [latch.powerOn, latch.overspeed, latch.rollback, latch.rackMissed, latch.stabledMotion, latch.doorMotion,
          latch.loopOpen, latch.hostRequest, latch.testMotion] ++
        [if s.brc.test = none then 1 else 2]
      let attention := fun (x : AttentionSet) =>
        set [x.supervision, x.emergency, x.brakeHealth, x.testDone, x.door, x.dialogue, x.radio, x.notice,
          x.restriction, x.settings]
      let dialogue : Byte := match s.vrl.dialogue with | .unjoined => 1 | .reporting => 2 | .joined => 3
      let mapping := [43, 44, 45, 46].flatMap fun n =>
        let v := paramValue s.cmc.params n
        [if v % 2 = 1 then (1 : Byte) else 2, if v / 2 % 2 = 1 then 2 else 1, if v / 4 % 2 = 1 then 2 else 1]
      let leaf := fun (l : Leaf) =>
        let phase : Option Phase := match l.state with | .reversing p => some p | .held p => some p | _ => none
        [(match l.state with
          | .locked => (1 : Byte) | .unlocked => 2 | .opening => 3 | .opened => 4 | .closing => 5 | .reversing _ => 6
          | .locking => 7 | .held _ => 8 | .isolated _ => 9), BitVec.ofNat 8 l.profile] ++
        opt 1 (phase.map fun p => [(match p with | .drive => 1 | .dwell => 2)]) ++
        opt 1 (match l.state with
          | .isolated .overcurrent => some [1] | .isolated .timeout => some [2] | .isolated .host => some [3]
          | _ => none) ++
        [yes l.lockLost] ++ opt 4 (l.timer.map octets4)
      let gang := fun (g : Option Gang) => opt 3 (g.map fun g => [BitVec.ofNat 8 g.index] ++
        set [g.members.d1, g.members.d2, g.members.d3, g.members.d4])
      let doors : List Byte :=
        mapping ++ [if s.drc.conflict then 1 else 2] ++ opt 12 (s.drc.leaves.d1.map leaf) ++
        opt 12 (s.drc.leaves.d2.map leaf) ++ opt 12 (s.drc.leaves.d3.map leaf) ++ opt 12 (s.drc.leaves.d4.map leaf) ++
        opt 5 (s.drc.release.map fun r =>
          [side r.side, (match r.origin with | .radio => 1 | .cab => 2)] ++
          opt 2 (r.station.map fun n => octets2 n.toNat)) ++
        [yes s.drc.inForce.isSome] ++
        opt 4 (s.drc.lastRefused.map fun r => octets2 r.station.toNat ++
          [r.side, (match r.reason with
            | .mode => 1 | .noPlatform => 2 | .side => 3 | .origin => 4 | .otherRelease => 5)]) ++
        [yes s.drc.doorHold] ++ gang s.drc.gangLeft ++ gang s.drc.gangRight
      let o := s.brc.result
      let outcomes := [o.steps.s1, o.steps.s2, o.steps.s3, o.steps.s4, o.steps.s5, o.steps.s6]
      let result : List Byte :=
        [(match o.overall with | .none => (1 : Byte) | .inProgress => 2 | .passed => 3 | .failed => 4 | .aborted => 5)] ++
        (outcomes.map fun x => match x with | .pass _ => (1 : Byte) | .fail _ => 2 | .notRun => 3) ++
        (outcomes.flatMap fun x => opt 4 (match x with
          | .pass n => some (octets4 n) | .fail n => some (octets4 n) | .notRun => none)) ++
        opt 1 (o.abort.map fun a =>
          [(match a.1 with | .motion => 1 | .request => 2 | .lineReset => 3 | .latch => 4 | .door => 5)]) ++
        opt 1 (o.abort.map fun a => [BitVec.ofNat 8 a.2.number]) ++ [health .service, health .holding, health .emergency]
      let v := s.vrl
      let radio : List Byte :=
        [(match v.receiver with | .search _ => (1 : Byte) | .length .. => 2 | .body .. => 3 | .check .. => 4),
         if v.transmission = none then 0 else 1] ++
        set [v.errors.framing, v.errors.check, v.errors.overrun] ++ octets2 v.errors.framingCount ++
        octets2 v.errors.checkCount ++ octets2 v.errors.overrunCount ++ octets2 v.validCount ++
        octets2 v.foreignCount ++ octets2 v.malformedCount ++ octets2 v.gateCount ++ octets2 v.missedCount ++
        opt 1 (v.lastSource.map fun x => [x]) ++ opt 1 (v.lastSequence.map fun x => [x]) ++
        (match v.silenceTimer with | none => [2, 0, 0, 0, 0] | some left => [1] ++ octets4 left) ++ [dialogue] ++
        opt 1 (v.currentList.map fun x => [x]) ++
        opt 7 (v.beacon.map fun x =>
          [x.zone, BitVec.ofNat 8 x.slotCount] ++ octets4 x.slotLength ++ [BitVec.ofNat 8 x.interval]) ++
        opt 1 (v.beacon.map fun x => [BitVec.ofNat 8 x.slot]) ++
        [BitVec.ofNat 8 v.windowCount, if v.pollMark then 1 else 2] ++
        opt 4 (v.lastWindow.map fun w => match w with
          | .used x sequence => [1, 1, kind x, sequence] | .missed => [2, 0, 0, 0] | .unused => [3, 0, 0, 0]) ++
        [v.uplinkCounter, BitVec.ofNat 8 v.queue.length] ++
        (v.queue.flatMap fun e => [kind (.queued e.kind), e.sequence, BitVec.ofNat 8 e.attempts]) ++
        [BitVec.ofNat 8 v.notices.length]
      let answers := fun (c : Instr) (q : Byte) (code : ResponseCode) (body : List Byte) =>
        exec c s = .next (answered s q { code := code, body := body })
      answers .readStatus 0x04 .done
        (settings ++ profile ++ supervision ++ brakes ++ [yes s.drc.doorHold, yes s.drc.inForce.isSome, dialogue] ++
         attention s.hlp.attention ++ attention s.hlp.mask) ∧
      answers .readDoors 0x09 .done doors ∧
      (∀ x, s.brc.test = some x →
        answers .readTestResult 0x0B .inProgress ([BitVec.ofNat 8 x.step.number] ++ result)) ∧
      (s.brc.test = none → answers .readTestResult 0x0B .done result) ∧ answers .readRadio 0x0C .done radio)

/-- POWER_ON (R14, R34, R38, R75, R95, R111, R129, R131, R144, R183, R186, R196, R198, R199, R201): the start values
of every block, with the straps' parameter values and the defaults of the rest, and, from the pins, the loop's cause
and each leaf LOCKED or ISOLATED; the ALARM and the DOOR_STATE in the uplink queue. THE MODEL'S CHOICE: that the
commands that wait stay, and profile index 1 for an ISOLATED leaf (assumption log 2), and the ALARM before the
DOOR_STATE (assumption log 12). -/
def Obligations.PowerOnStartValues : Prop :=
  ∀ (s : State) (pins : PowerOnPins),
    let straps := (if pins.cfg0 then 1 else 0) + (if pins.cfg1 then 2 else 0) + (if pins.cfg2 then 4 else 0)
    let row : List Nat := match straps with
      | 0 => [2600, 3500, 1000, 1300, 2400, 64, 9600] | 1 => [2400, 3300, 950, 1250, 2400, 64, 4800]
      | 2 => [2800, 3700, 1100, 1400, 2600, 96, 9600] | 3 => [2200, 3000, 900, 1200, 2200, 64, 2400]
      | 4 => [3000, 3800, 1200, 1500, 2800, 128, 9600] | 5 => [2000, 2800, 800, 1100, 2000, 48, 1200]
      | 6 => [2600, 3500, 1000, 1300, 2450, 96, 19200] | _ => [1800, 2600, 700, 1000, 1800, 32, 4800]
    let leaf := fun (d : Drive) (side : Side) (index : LeafIndex) =>
      some (Leaf.mk side index (if (pins.doors.get d).lockSw then .locked else .isolated .timeout) 1 none false)
    ∃ t, exec (.powerOn pins) s = .next t ∧ t.pending = s.pending ∧ t.cmc.mode = .stabled ∧
      t.cmc.selected = .neutral ∧ t.cmc.pendingSet = emptyPending ∧ t.sld = ⟨straps, .loading, false, none, []⟩ ∧
      [2, 3, 4, 5, 33, 34, 50].map (paramValue t.cmc.params) = row ∧
      (∀ x ∈
        [(1, 6900), (6, 70), (7, 1500), (8, 250), (9, 1500000), (10, 300), (11, 800), (12, 200), (13, 600), (14, 2800),
         (15, 2800), (16, 1400), (17, 2800), (18, 1400), (19, 80), (20, 800), (21, 150), (22, 700), (23, 300), (24, 1),
         (25, 3000), (26, 4000), (27, 1000), (28, 800), (29, 2000), (30, 0), (31, 0), (32, 100), (35, 10), (36, 20000),
         (37, 6000), (38, 1500), (39, 250), (40, 300), (41, 20000), (42, 1), (43, 1), (44, 5), (45, 3), (46, 7), (47, 0),
         (48, 0), (49, 0), (51, 20), (52, 3)],
        paramValue t.cmc.params x.1 = x.2) ∧
      t.odo.estimate = none ∧ t.odo.status = .unknown ∧ t.odo.engagement = .free ∧ t.odo.watch = .idle ∧
      t.odo.motion = .standstill ∧ t.odo.speed = 0 ∧ t.odo.toothTotal = 0 ∧ t.odo.wheelTotal = 0 ∧ t.odo.reverse = 0 ∧
      t.lps.status = .empty ∧ t.lps.segments = [] ∧ heldRecords t = [] ∧ t.rtb.overflow = false ∧
      t.ssv.blankets = ⟨true, false, true, false, false⟩ ∧ t.ssv.state = .normal ∧ t.ssv.permitted = 0 ∧
      t.brc.latch = ⟨true, false, false, false, false, false, !pins.loopClosed, false, false⟩ ∧
      t.brc.dumpValve = false ∧ t.brc.releaseValve = false ∧ t.brc.setpoint = 1000 ∧ t.brc.permit = false ∧
      t.brc.hostHold = .apply ∧ t.brc.test = none ∧
      (∀ c, t.brc.channel c = ⟨.untested, .idle, 0, none⟩) ∧
      t.drc.leaves =
        ⟨leaf .d1 .left .valley, leaf .d2 .left .mountain, leaf .d3 .right .valley, leaf .d4 .right .mountain⟩ ∧
      t.drc.release = none ∧ t.drc.inForce = none ∧ t.drc.gangLeft = none ∧ t.drc.gangRight = none ∧
      t.vrl.dialogue = .unjoined ∧ t.vrl.windowCount = 255 ∧ t.vrl.beacon = none ∧ t.vrl.notices = [] ∧
      t.vrl.silenceTimer = some 20000 ∧ (t.vrl.queue.map fun e => (e.kind, e.attempts)) = [(.alarm, 0), (.doorState, 0)] ∧
      (t.vrl.queue.head?.map UplinkEntry.body) = some
        [if (Drive.all.all fun d => (pins.doors.get d).lockSw) then 0x00 else 0x08,
         if pins.loopClosed then 0x01 else 0x41] ∧
      t.hlp.slot = .empty ∧ t.hlp.attention.emergency = true ∧ (∀ c, t.hlp.mask.has c = true)

/-- SETTINGS_LOAD_END (R49, R201) during the start-up load: no signature leaves every value as it was, ABSENT; a wrong
format or CRC likewise with SETTINGS raised, CORRUPT; a good image makes its values active, each clamped to its range
with the clamp mark, and hands its profile block to LPS. After the load nothing happens. SAVE_SETTINGS by the checks
of R202 in turn: an accepted save takes the values and writes their image from offset 0 on with 00h there. SAVE_END:
the signature C3h is written at offset 0 last, and only where the image reads back as meant; SAVED exactly when both
read back right, WRITE_FAILED otherwise, with SETTINGS raised. With no save in progress a SAVE_END changes nothing.
THE MODEL'S CHOICE (assumption log 12): a load record with a bad header is kept, SAVED exactly then, the writes stand
from the accepting event on, and an empty profile block has line length 0 (assumption log 14). -/
def Obligations.SettingsLoadedAndSaved : Prop :=
   (∀ (s : State) (image : List Byte),
      let octet := fun (i : Nat) => (image[i]?).getD 0xFF
      let raw := fun (n : Nat) => ((storedValues image)[n - 1]?).getD 0
      let margin := max 100 (min (raw 10) 1500)
      let block := storedProfile image
      (s.sld.status ≠ .loading → exec (.settingsLoadEnd image) s = .next s) ∧
      (s.sld.status = .loading → ∃ t, exec (.settingsLoadEnd image) s = .next t ∧
        if octet 0 ≠ 0xC3 then t = { s with sld.status := .absent }
        else if octet 1 ≠ 0x01 ∨ imageCrcAgrees image = false then
          t = { s with sld.status := .corrupt, hlp.attention := { s.hlp.attention with settings := true } }
        else
          t.sld = { s.sld with status := .loaded, clampMark := t.sld.clampMark } ∧
          (t.sld.clampMark = true ↔ ∃ n ∈ List.range 53, 1 ≤ n ∧ paramValue t.cmc.params n ≠ raw n) ∧
          (∀ n, 1 ≤ n → n ≤ 52 → n ≠ 11 → paramValue t.cmc.params n =
            if n = 10 then margin else clampParam n 0 (raw n)) ∧
          paramValue t.cmc.params 11 = max (margin + 1) (min (raw 11) 2000) ∧
          t.cmc = { s.cmc with params := t.cmc.params } ∧
          (block.count = 0 → t.lps = s.lps) ∧
          (block.count ≠ 0 → 512 < block.count ∨ block.length < 1000000 ∨ 40000000 < block.length →
            t.lps = { s.lps with status := .invalid, segments := [], failure := some (0, .header) }) ∧
          (1 ≤ block.count → block.count ≤ 512 → 1000000 ≤ block.length → block.length ≤ 40000000 →
            t.lps = endLoad
              { status := .loading, segments := block.segments, announcedCount := block.count,
                receivedCount := block.segments.length, announcedLength := block.length, failure := none }) ∧
          t.odo = s.odo ∧ t.rtb = s.rtb ∧ t.ssv = s.ssv ∧ t.hlp.slot = s.hlp.slot ∧ t.pending = s.pending)) ∧
   (∀ (s : State) (readBack : List Byte) (signature : Byte),
      let image := imageOctets 0x00 s.cmc.params
        (if s.lps.status = .valid then ⟨s.lps.segments.length, s.lps.announcedLength, s.lps.segments⟩ else ⟨0, 0, []⟩)
      image.head? = some 0x00 ∧
      (s.resetting = false → exec .saveSettings s = .next
        (if s.sld.status = .saving then answered s 0x24 (refuse .refusedBusy)
         else if s.cmc.mode ≠ .preparation then answered s 0x24 (refuse .refusedMode)
         else
          { s with
            sld := { s.sld with
              status := .saving, saveImage := some image, writes := image.zipIdx.map fun x => (x.2, x.1) },
            hlp.sdo := [], hlp.slot := answer s 0x24 { code := .accepted } })) ∧
      exec (.saveEnd readBack signature) s = .next
        (if s.sld.status = .saving then
          { s with
            sld := { s.sld with
              status := if s.sld.saveImage = some readBack ∧ signature = 0xC3 then .saved else .writeFailed,
              saveImage := none,
              writes := s.sld.writes ++ (if s.sld.saveImage = some readBack then [(0, 0xC3)] else []) },
            hlp.attention := { s.hlp.attention with settings := true } }
         else s))

/-- What a save writes, a start-up load reads back (R200): from the image of any parameter values below 2³² and any
profile block of up to 512 segments, with the signature written, the load reads the signature, the format, the same
values and the same block, and the CRC agrees. The image is laid out as R200 says: signature, format, each
parameter's value in 4 octets from offset 2 on, the segment count at 210, the line length at 212, the records of 15
octets in the order of R195 from 216 on, and the CRC over offset 1 to the last octet before it. -/
def Obligations.StoredImageReadsBack : Prop :=
  ∀ (p : Table Nat 52) (b : ProfileBlock), (∀ v ∈ p.list, v < 2 ^ 32) → b.count = b.segments.length → b.count ≤ 512 →
    b.length < 2 ^ 32 →
    let image := imageOctets 0xC3 p b
    readOctets image 0 2 = [0xC3, 0x01] ∧ storedValues image = p.list ∧ storedProfile image = b ∧
    imageCrcAgrees image = true ∧ image.length = 218 + 15 * b.count ∧
    (∀ n, 1 ≤ n → n ≤ 52 → (image.drop (2 + 4 * (n - 1))).take 4 = octets4 (paramValue p n)) ∧
    (image.drop 210).take 2 = octets2 b.count ∧ (image.drop 212).take 4 = octets4 b.length ∧
    (∀ i r, b.segments[i]? = some r → (image.drop (216 + 15 * i)).take 15 =
      octets4 r.start.toNat ++ [r.kind] ++ octets2 r.gradient.toNat ++ octets2 r.limitUp.toNat ++
      octets2 r.limitDown.toNat ++ [r.stationPresent, r.stationId, r.sides, r.releaseOrigin]) ∧
    image.drop (216 + 15 * b.count) = octets2 (crc16 ((image.drop 1).take (215 + 15 * b.count))).toNat

/-! ### What every step keeps -/

/-- The reset state is the power-on state with the pins of assumption log 2 and an empty queue: THE MODEL'S CHOICE of
pins; the values themselves are those of PowerOnStartValues. The reset state satisfies each law that the statements
below claim of every step. -/
def Obligations.ResetIsPowerOnAndLawful : Prop :=
   State.reset.pending = [] ∧
   (∀ (s : State), exec (.powerOn resetPins) s = .next { State.reset with pending := s.pending }) ∧
   (BlanketLaw State.reset ∧ QueueLaw State.reset ∧ TableLaw State.reset ∧ DoorLaw State.reset ∧ ParamsLaw State.reset ∧
    BrakesLaw State.reset)

/-- Every step keeps the blanket set the one its causes give (R97, R98, R99, R186): JOINED exactly without a radio
cause, UNJOINED only with LINK_SILENCE, POSITION exactly without a VALID status, BRAKE exactly with a DEGRADED or
FAILED SERVICE channel, NO_PROFILE exactly in SHUNT. One case is apart (assumption log 4): RTB's part of a LINE_RESET
when VRL has taken its part, the car has joined since and has taken a NAK FULL; R76 then removes TABLE_OVERFLOW while
R97 ties it to the dialogue. The removal is taken, REPORTING then stands without a radio cause until the next change of
the dialogue, and every step keeps what is left of the law. -/
def Obligations.EveryStepKeepsBlanketLaw : Prop :=
  ∀ (s t : State), step s = .next t →
    (BlanketLaw s → ¬RejoinedBeforeTablePart s → BlanketLaw t) ∧ (CausesLaw s → CausesLaw t) ∧
    (BlanketLaw s → RejoinedBeforeTablePart s →
      t.vrl.dialogue = .reporting ∧ t.ssv.blankets.linkSilence = false ∧ t.ssv.blankets.tableOverflow = false)

/-- Every step keeps the caps of the uplink queue (R176, R178): at most six RESTRICT_REPLY, two RESTRICT_LIST, one
DOOR_STATE and one ALARM. -/
def Obligations.EveryStepKeepsQueueCaps : Prop := ∀ (s t : State), QueueLaw s → step s = .next t → QueueLaw t

/-- Every step keeps each pair (origin, id) in at most one slot of the restriction table (R51), and each record as R52
says: the id in its origin's range, a sequence exactly for DISPATCH, at least one part, zones whose start is below
their end, and a life only with an in-force part. -/
def Obligations.EveryStepKeepsTableLaw : Prop := ∀ (s t : State), TableLaw s → step s = .next t → TableLaw t

/-- Every step keeps door hold present exactly while a used leaf is not locked, and DOOR_MOTION in the latch while ODO
reports MOVING with a used leaf not locked (R160, R161); the leaves and the conflict flag those that the active mapping
gives (R142); and a gang context at a side exactly while its ganging is ON, with members among the side's leaves not
ISOLATED, gang and profile indexes in 1 … 3 (R143, R156). -/
def Obligations.EveryStepKeepsDoorLaw : Prop := ∀ (s t : State), DoorLaw s → step s = .next t → DoorLaw t

/-- Every step keeps every active and pending parameter value in its range with the emergency margin above the service
margin, pending values to SERVICE and SHUNT, and the mode STABLED during the start-up load (R11, R12, R14). -/
def Obligations.EveryStepKeepsParamsLaw : Prop := ∀ (s t : State), ParamsLaw s → step s = .next t → ParamsLaw t

/-- Every step keeps BRC's demands, holding demands, permit and outputs the ones their sources give, and a brake test
apart from a set latch (R112, R117, R119, R122, R132, R138); so that in every state that satisfies the law a set latch
means DUMP de-energized, setpoint 1000, no permit and the spring brake applied (R124). -/
def Obligations.EveryStepKeepsBrakesLaw : Prop :=
  (∀ (s t : State), ParamsLaw s → BrakesLaw s → step s = .next t → BrakesLaw t) ∧
  (∀ (s : State), ParamsLaw s → BrakesLaw s → LatchLaw s ∧ PermitLaw s)
end

