-- ==== Sys2Proof/Laws/Frames.lean ====
section
/-! SUPPORT. What each shared operation leaves alone: one lemma for each operation,
    so that no later proof unfolds the
operation for a frame. -/

set_option linter.unusedTactic false

namespace Sys2Proof.Machine

/-- A fold of steps that keep a value keeps it. -/
theorem foldl_keeps {α β : Type} (g : State → β) {f : State → α → State} (h : ∀ s a, g (f s a) = g s) :
    ∀ (l : List α) (s : State), g (l.foldl f s) = g s
  | [], _ => rfl
  | a :: l, s => by rw [List.foldl_cons, foldl_keeps g h l, h]

@[simp] theorem raise_keeps (c : Attention) (s : State) :
    (raise c s).cmc = s.cmc ∧ (raise c s).odo = s.odo ∧ (raise c s).lps = s.lps ∧ (raise c s).rtb = s.rtb ∧
    (raise c s).ssv = s.ssv ∧ (raise c s).brc = s.brc ∧ (raise c s).drc = s.drc ∧ (raise c s).vrl = s.vrl ∧
    (raise c s).sld = s.sld ∧ (raise c s).pending = s.pending := by
  simp [raise]

@[simp] theorem putBlanket_keeps (p : Bool) (b : Blanket) (s : State) :
    (putBlanket p b s).cmc = s.cmc ∧ (putBlanket p b s).odo = s.odo ∧ (putBlanket p b s).lps = s.lps ∧
    (putBlanket p b s).rtb = s.rtb ∧ (putBlanket p b s).brc = s.brc ∧ (putBlanket p b s).drc = s.drc ∧
    (putBlanket p b s).vrl = s.vrl ∧ (putBlanket p b s).hlp = s.hlp ∧ (putBlanket p b s).sld = s.sld ∧
    (putBlanket p b s).pending = s.pending := by
  simp [putBlanket]

@[simp] theorem place_keeps (q : Byte) (lost : Bool) (r : Reply) (s : State) :
    (place q lost r s).cmc = s.cmc ∧ (place q lost r s).odo = s.odo ∧ (place q lost r s).lps = s.lps ∧
    (place q lost r s).rtb = s.rtb ∧ (place q lost r s).ssv = s.ssv ∧ (place q lost r s).brc = s.brc ∧
    (place q lost r s).drc = s.drc ∧ (place q lost r s).vrl = s.vrl ∧ (place q lost r s).sld = s.sld ∧
    (place q lost r s).pending = s.pending := by
  simp [place]

@[simp] theorem quietSdo_keeps (s : State) :
    (quietSdo s).cmc = s.cmc ∧ (quietSdo s).odo = s.odo ∧ (quietSdo s).lps = s.lps ∧ (quietSdo s).rtb = s.rtb ∧
    (quietSdo s).ssv = s.ssv ∧ (quietSdo s).brc = s.brc ∧ (quietSdo s).drc = s.drc ∧ (quietSdo s).vrl = s.vrl ∧
    (quietSdo s).sld = s.sld ∧ (quietSdo s).pending = s.pending := by
  simp [quietSdo]

@[simp] theorem enqueueTail_keeps (k : UplinkKind) (b : List Byte) (s : State) :
    (enqueueTail k b s).cmc = s.cmc ∧ (enqueueTail k b s).odo = s.odo ∧ (enqueueTail k b s).lps = s.lps ∧
    (enqueueTail k b s).rtb = s.rtb ∧ (enqueueTail k b s).ssv = s.ssv ∧ (enqueueTail k b s).brc = s.brc ∧
    (enqueueTail k b s).drc = s.drc ∧ (enqueueTail k b s).hlp = s.hlp ∧ (enqueueTail k b s).sld = s.sld ∧
    (enqueueTail k b s).pending = s.pending := by
  simp [enqueueTail]

@[simp] theorem refreshKind_keeps (k : UplinkKind) (f : List Byte → List Byte) (s : State) :
    (refreshKind k f s).cmc = s.cmc ∧ (refreshKind k f s).odo = s.odo ∧ (refreshKind k f s).lps = s.lps ∧
    (refreshKind k f s).rtb = s.rtb ∧ (refreshKind k f s).ssv = s.ssv ∧ (refreshKind k f s).brc = s.brc ∧
    (refreshKind k f s).drc = s.drc ∧ (refreshKind k f s).hlp = s.hlp ∧ (refreshKind k f s).sld = s.sld ∧
    (refreshKind k f s).pending = s.pending := by
  simp [refreshKind]

@[simp] theorem handDoorState_keeps (s : State) :
    (handDoorState s).cmc = s.cmc ∧ (handDoorState s).odo = s.odo ∧ (handDoorState s).lps = s.lps ∧
    (handDoorState s).rtb = s.rtb ∧ (handDoorState s).ssv = s.ssv ∧ (handDoorState s).brc = s.brc ∧
    (handDoorState s).drc = s.drc ∧ (handDoorState s).hlp = s.hlp ∧ (handDoorState s).sld = s.sld ∧
    (handDoorState s).pending = s.pending := by
  simp only [handDoorState]
  repeat' split
  all_goals simp

@[simp] theorem handAlarm_keeps (c : AlarmCause) (s : State) :
    (handAlarm c s).cmc = s.cmc ∧ (handAlarm c s).odo = s.odo ∧ (handAlarm c s).lps = s.lps ∧
    (handAlarm c s).rtb = s.rtb ∧ (handAlarm c s).ssv = s.ssv ∧ (handAlarm c s).brc = s.brc ∧
    (handAlarm c s).drc = s.drc ∧ (handAlarm c s).hlp = s.hlp ∧ (handAlarm c s).sld = s.sld ∧
    (handAlarm c s).pending = s.pending := by
  simp only [handAlarm]
  repeat' split
  all_goals simp

@[simp] theorem dropPages_keeps (s : State) :
    (dropPages s).cmc = s.cmc ∧ (dropPages s).odo = s.odo ∧ (dropPages s).lps = s.lps ∧
    (dropPages s).rtb = s.rtb ∧ (dropPages s).ssv = s.ssv ∧ (dropPages s).brc = s.brc ∧
    (dropPages s).drc = s.drc ∧ (dropPages s).hlp = s.hlp ∧ (dropPages s).sld = s.sld ∧
    (dropPages s).pending = s.pending := by
  simp [dropPages]

@[simp] theorem setSupervision_keeps (c : Channel) (x : Supervision) (s : State) :
    (setSupervision c x s).cmc = s.cmc ∧ (setSupervision c x s).odo = s.odo ∧
    (setSupervision c x s).lps = s.lps ∧ (setSupervision c x s).rtb = s.rtb ∧
    (setSupervision c x s).ssv = s.ssv ∧ (setSupervision c x s).drc = s.drc ∧
    (setSupervision c x s).vrl = s.vrl ∧ (setSupervision c x s).hlp = s.hlp ∧
    (setSupervision c x s).sld = s.sld ∧ (setSupervision c x s).pending = s.pending := by
  simp [setSupervision]

@[simp] theorem outputChanged_keeps (c : Channel) (s : State) :
    (outputChanged c s).cmc = s.cmc ∧ (outputChanged c s).odo = s.odo ∧ (outputChanged c s).lps = s.lps ∧
    (outputChanged c s).rtb = s.rtb ∧ (outputChanged c s).ssv = s.ssv ∧ (outputChanged c s).drc = s.drc ∧
    (outputChanged c s).vrl = s.vrl ∧ (outputChanged c s).hlp = s.hlp ∧ (outputChanged c s).sld = s.sld ∧
    (outputChanged c s).pending = s.pending := by
  simp only [outputChanged]
  repeat' split
  all_goals simp

@[simp] theorem driveSetpoint_keeps (v : Nat) (s : State) :
    (driveSetpoint v s).cmc = s.cmc ∧ (driveSetpoint v s).odo = s.odo ∧ (driveSetpoint v s).lps = s.lps ∧
    (driveSetpoint v s).rtb = s.rtb ∧ (driveSetpoint v s).ssv = s.ssv ∧ (driveSetpoint v s).drc = s.drc ∧
    (driveSetpoint v s).vrl = s.vrl ∧ (driveSetpoint v s).hlp = s.hlp ∧ (driveSetpoint v s).sld = s.sld ∧
    (driveSetpoint v s).pending = s.pending := by
  simp only [driveSetpoint]
  repeat' split
  all_goals simp

@[simp] theorem driveReleaseValve_keeps (v : Bool) (s : State) :
    (driveReleaseValve v s).cmc = s.cmc ∧ (driveReleaseValve v s).odo = s.odo ∧
    (driveReleaseValve v s).lps = s.lps ∧ (driveReleaseValve v s).rtb = s.rtb ∧
    (driveReleaseValve v s).ssv = s.ssv ∧ (driveReleaseValve v s).drc = s.drc ∧
    (driveReleaseValve v s).vrl = s.vrl ∧ (driveReleaseValve v s).hlp = s.hlp ∧
    (driveReleaseValve v s).sld = s.sld ∧ (driveReleaseValve v s).pending = s.pending := by
  simp only [driveReleaseValve]
  repeat' split
  all_goals simp

@[simp] theorem driveDumpValve_keeps (v : Bool) (s : State) :
    (driveDumpValve v s).cmc = s.cmc ∧ (driveDumpValve v s).odo = s.odo ∧ (driveDumpValve v s).lps = s.lps ∧
    (driveDumpValve v s).rtb = s.rtb ∧ (driveDumpValve v s).ssv = s.ssv ∧ (driveDumpValve v s).drc = s.drc ∧
    (driveDumpValve v s).vrl = s.vrl ∧ (driveDumpValve v s).hlp = s.hlp ∧ (driveDumpValve v s).sld = s.sld ∧
    (driveDumpValve v s).pending = s.pending := by
  simp only [driveDumpValve]
  repeat' split
  all_goals simp

@[simp] theorem formDemands_keeps (s : State) :
    (formDemands s).cmc = s.cmc ∧ (formDemands s).odo = s.odo ∧ (formDemands s).lps = s.lps ∧
    (formDemands s).rtb = s.rtb ∧ (formDemands s).ssv = s.ssv ∧ (formDemands s).drc = s.drc ∧
    (formDemands s).vrl = s.vrl ∧ (formDemands s).hlp = s.hlp ∧ (formDemands s).sld = s.sld ∧
    (formDemands s).pending = s.pending := by
  simp [formDemands]

@[simp] theorem settle_keeps (s : State) :
    (settle s).cmc = s.cmc ∧ (settle s).odo = s.odo ∧ (settle s).lps = s.lps ∧ (settle s).rtb = s.rtb ∧
    (settle s).ssv = s.ssv ∧ (settle s).drc = s.drc ∧ (settle s).vrl = s.vrl ∧ (settle s).hlp = s.hlp ∧
    (settle s).sld = s.sld ∧ (settle s).pending = s.pending := by
  simp [settle]

@[simp] theorem changeHealth_keeps (c : Channel) (h : Health) (s : State) :
    (changeHealth c h s).cmc = s.cmc ∧ (changeHealth c h s).odo = s.odo ∧ (changeHealth c h s).lps = s.lps ∧
    (changeHealth c h s).rtb = s.rtb ∧ (changeHealth c h s).drc = s.drc ∧ (changeHealth c h s).vrl = s.vrl ∧
    (changeHealth c h s).sld = s.sld ∧ (changeHealth c h s).pending = s.pending := by
  simp only [changeHealth]
  repeat' split
  all_goals simp

@[simp] theorem faultAlarm_keeps (c : Channel) (h : Health) (s : State) :
    (faultAlarm c h s).cmc = s.cmc ∧ (faultAlarm c h s).odo = s.odo ∧ (faultAlarm c h s).lps = s.lps ∧
    (faultAlarm c h s).rtb = s.rtb ∧ (faultAlarm c h s).ssv = s.ssv ∧ (faultAlarm c h s).brc = s.brc ∧
    (faultAlarm c h s).drc = s.drc ∧ (faultAlarm c h s).hlp = s.hlp ∧ (faultAlarm c h s).sld = s.sld ∧
    (faultAlarm c h s).pending = s.pending := by
  simp only [faultAlarm]
  repeat' split
  all_goals simp

@[simp] theorem checkFailure_keeps (c : Channel) (s : State) :
    (checkFailure c s).cmc = s.cmc ∧ (checkFailure c s).odo = s.odo ∧ (checkFailure c s).lps = s.lps ∧
    (checkFailure c s).rtb = s.rtb ∧ (checkFailure c s).drc = s.drc ∧ (checkFailure c s).sld = s.sld ∧
    (checkFailure c s).pending = s.pending := by
  simp [checkFailure]

@[simp] theorem resumeSupervision_keeps (s : State) :
    (resumeSupervision s).cmc = s.cmc ∧ (resumeSupervision s).odo = s.odo ∧ (resumeSupervision s).lps = s.lps ∧
    (resumeSupervision s).rtb = s.rtb ∧ (resumeSupervision s).ssv = s.ssv ∧ (resumeSupervision s).drc = s.drc ∧
    (resumeSupervision s).vrl = s.vrl ∧ (resumeSupervision s).hlp = s.hlp ∧ (resumeSupervision s).sld = s.sld ∧
    (resumeSupervision s).pending = s.pending := by
  simp [resumeSupervision]

@[simp] theorem testOver_keeps (r : TestResult) (s : State) :
    (testOver r s).cmc = s.cmc ∧ (testOver r s).odo = s.odo ∧ (testOver r s).lps = s.lps ∧
    (testOver r s).rtb = s.rtb ∧ (testOver r s).ssv = s.ssv ∧ (testOver r s).drc = s.drc ∧
    (testOver r s).vrl = s.vrl ∧ (testOver r s).sld = s.sld ∧ (testOver r s).pending = s.pending := by
  simp [testOver]

@[simp] theorem abortTest_keeps (r : AbortReason) (s : State) :
    (abortTest r s).cmc = s.cmc ∧ (abortTest r s).odo = s.odo ∧ (abortTest r s).lps = s.lps ∧
    (abortTest r s).rtb = s.rtb ∧ (abortTest r s).ssv = s.ssv ∧ (abortTest r s).drc = s.drc ∧
    (abortTest r s).vrl = s.vrl ∧ (abortTest r s).sld = s.sld ∧ (abortTest r s).pending = s.pending := by
  simp only [abortTest]
  repeat' split
  all_goals simp

@[simp] theorem addLatchCause_keeps (c : LatchCause) (s : State) :
    (addLatchCause c s).cmc = s.cmc ∧ (addLatchCause c s).odo = s.odo ∧ (addLatchCause c s).lps = s.lps ∧
    (addLatchCause c s).rtb = s.rtb ∧ (addLatchCause c s).ssv = s.ssv ∧ (addLatchCause c s).drc = s.drc ∧
    (addLatchCause c s).sld = s.sld ∧ (addLatchCause c s).pending = s.pending := by
  simp only [addLatchCause]
  repeat' split
  all_goals simp

@[simp] theorem addLatchIf_keeps (b : Bool) (c : LatchCause) (s : State) :
    (addLatchIf b c s).cmc = s.cmc ∧ (addLatchIf b c s).odo = s.odo ∧ (addLatchIf b c s).lps = s.lps ∧
    (addLatchIf b c s).rtb = s.rtb ∧ (addLatchIf b c s).ssv = s.ssv ∧ (addLatchIf b c s).drc = s.drc ∧
    (addLatchIf b c s).sld = s.sld ∧ (addLatchIf b c s).pending = s.pending := by
  simp only [addLatchIf]
  repeat' split
  all_goals simp

@[simp] theorem testMotion_keeps (s : State) :
    (testMotion s).cmc = s.cmc ∧ (testMotion s).odo = s.odo ∧ (testMotion s).lps = s.lps ∧
    (testMotion s).rtb = s.rtb ∧ (testMotion s).ssv = s.ssv ∧ (testMotion s).drc = s.drc ∧
    (testMotion s).sld = s.sld ∧ (testMotion s).pending = s.pending := by
  simp only [testMotion]
  repeat' split
  all_goals simp

@[simp] theorem setGang_keeps (x : Side) (g : Option Gang) (s : State) :
    (setGang x g s).cmc = s.cmc ∧ (setGang x g s).odo = s.odo ∧ (setGang x g s).lps = s.lps ∧
    (setGang x g s).rtb = s.rtb ∧ (setGang x g s).ssv = s.ssv ∧ (setGang x g s).brc = s.brc ∧
    (setGang x g s).vrl = s.vrl ∧ (setGang x g s).hlp = s.hlp ∧ (setGang x g s).sld = s.sld ∧
    (setGang x g s).pending = s.pending := by
  simp only [setGang]
  repeat' split
  all_goals simp

@[simp] theorem setLeaf_keeps (d : Drive) (l : Leaf) (s : State) :
    (setLeaf d l s).cmc = s.cmc ∧ (setLeaf d l s).odo = s.odo ∧ (setLeaf d l s).lps = s.lps ∧
    (setLeaf d l s).rtb = s.rtb ∧ (setLeaf d l s).ssv = s.ssv ∧ (setLeaf d l s).brc = s.brc ∧
    (setLeaf d l s).vrl = s.vrl ∧ (setLeaf d l s).hlp = s.hlp ∧ (setLeaf d l s).sld = s.sld ∧
    (setLeaf d l s).pending = s.pending := by
  simp [setLeaf]

@[simp] theorem dueReport_keeps (s : State) :
    (dueReport s).cmc = s.cmc ∧ (dueReport s).odo = s.odo ∧ (dueReport s).lps = s.lps ∧
    (dueReport s).rtb = s.rtb ∧ (dueReport s).ssv = s.ssv ∧ (dueReport s).brc = s.brc ∧
    (dueReport s).vrl = s.vrl ∧ (dueReport s).hlp = s.hlp ∧ (dueReport s).sld = s.sld ∧
    (dueReport s).pending = s.pending := by
  simp [dueReport]

@[simp] theorem enterState_keeps (d : Drive) (x : LeafState) (k : Nat) (t : Timer) (s : State) :
    (enterState d x k t s).cmc = s.cmc ∧ (enterState d x k t s).odo = s.odo ∧
    (enterState d x k t s).lps = s.lps ∧ (enterState d x k t s).rtb = s.rtb ∧
    (enterState d x k t s).ssv = s.ssv ∧ (enterState d x k t s).brc = s.brc ∧
    (enterState d x k t s).vrl = s.vrl ∧ (enterState d x k t s).hlp = s.hlp ∧
    (enterState d x k t s).sld = s.sld ∧ (enterState d x k t s).pending = s.pending := by
  simp only [enterState]
  repeat' split
  all_goals simp

@[simp] theorem setMember_keeps (x : Side) (d : Drive) (b : Bool) (s : State) :
    (setMember x d b s).cmc = s.cmc ∧ (setMember x d b s).odo = s.odo ∧ (setMember x d b s).lps = s.lps ∧
    (setMember x d b s).rtb = s.rtb ∧ (setMember x d b s).ssv = s.ssv ∧ (setMember x d b s).brc = s.brc ∧
    (setMember x d b s).vrl = s.vrl ∧ (setMember x d b s).hlp = s.hlp ∧ (setMember x d b s).sld = s.sld ∧
    (setMember x d b s).pending = s.pending := by
  simp [setMember]

@[simp] theorem setGangIndex_keeps (x : Side) (k : Nat) (s : State) :
    (setGangIndex x k s).cmc = s.cmc ∧ (setGangIndex x k s).odo = s.odo ∧ (setGangIndex x k s).lps = s.lps ∧
    (setGangIndex x k s).rtb = s.rtb ∧ (setGangIndex x k s).ssv = s.ssv ∧ (setGangIndex x k s).brc = s.brc ∧
    (setGangIndex x k s).vrl = s.vrl ∧ (setGangIndex x k s).hlp = s.hlp ∧ (setGangIndex x k s).sld = s.sld ∧
    (setGangIndex x k s).pending = s.pending := by
  simp [setGangIndex]

@[simp] theorem isolationAlarm_keeps (c : IsolationCause) (s : State) :
    (isolationAlarm c s).cmc = s.cmc ∧ (isolationAlarm c s).odo = s.odo ∧ (isolationAlarm c s).lps = s.lps ∧
    (isolationAlarm c s).rtb = s.rtb ∧ (isolationAlarm c s).ssv = s.ssv ∧ (isolationAlarm c s).brc = s.brc ∧
    (isolationAlarm c s).drc = s.drc ∧ (isolationAlarm c s).hlp = s.hlp ∧ (isolationAlarm c s).sld = s.sld ∧
    (isolationAlarm c s).pending = s.pending := by
  simp only [isolationAlarm]
  repeat' split
  all_goals simp

@[simp] theorem isolateLeaf_keeps (d : Drive) (c : IsolationCause) (s : State) :
    (isolateLeaf d c s).cmc = s.cmc ∧ (isolateLeaf d c s).odo = s.odo ∧ (isolateLeaf d c s).lps = s.lps ∧
    (isolateLeaf d c s).rtb = s.rtb ∧ (isolateLeaf d c s).ssv = s.ssv ∧ (isolateLeaf d c s).brc = s.brc ∧
    (isolateLeaf d c s).sld = s.sld ∧ (isolateLeaf d c s).pending = s.pending := by
  simp only [isolateLeaf]
  repeat' split
  all_goals simp

@[simp] theorem enterLocked_keeps (d : Drive) (s : State) :
    (enterLocked d s).cmc = s.cmc ∧ (enterLocked d s).odo = s.odo ∧ (enterLocked d s).lps = s.lps ∧
    (enterLocked d s).rtb = s.rtb ∧ (enterLocked d s).ssv = s.ssv ∧ (enterLocked d s).brc = s.brc ∧
    (enterLocked d s).vrl = s.vrl ∧ (enterLocked d s).hlp = s.hlp ∧ (enterLocked d s).sld = s.sld ∧
    (enterLocked d s).pending = s.pending := by
  simp only [enterLocked]
  repeat' split
  all_goals simp

@[simp] theorem enterLocking_keeps (d : Drive) (s : State) :
    (enterLocking d s).cmc = s.cmc ∧ (enterLocking d s).odo = s.odo ∧ (enterLocking d s).lps = s.lps ∧
    (enterLocking d s).rtb = s.rtb ∧ (enterLocking d s).ssv = s.ssv ∧ (enterLocking d s).brc = s.brc ∧
    (enterLocking d s).vrl = s.vrl ∧ (enterLocking d s).hlp = s.hlp ∧ (enterLocking d s).sld = s.sld ∧
    (enterLocking d s).pending = s.pending := by
  simp only [enterLocking]
  repeat' split
  all_goals simp

@[simp] theorem enterOpened_keeps (d : Drive) (s : State) :
    (enterOpened d s).cmc = s.cmc ∧ (enterOpened d s).odo = s.odo ∧ (enterOpened d s).lps = s.lps ∧
    (enterOpened d s).rtb = s.rtb ∧ (enterOpened d s).ssv = s.ssv ∧ (enterOpened d s).brc = s.brc ∧
    (enterOpened d s).vrl = s.vrl ∧ (enterOpened d s).hlp = s.hlp ∧ (enterOpened d s).sld = s.sld ∧
    (enterOpened d s).pending = s.pending := by
  simp only [enterOpened]
  repeat' split
  all_goals simp

@[simp] theorem enterOpening_keeps (d : Drive) (s : State) :
    (enterOpening d s).cmc = s.cmc ∧ (enterOpening d s).odo = s.odo ∧ (enterOpening d s).lps = s.lps ∧
    (enterOpening d s).rtb = s.rtb ∧ (enterOpening d s).ssv = s.ssv ∧ (enterOpening d s).brc = s.brc ∧
    (enterOpening d s).vrl = s.vrl ∧ (enterOpening d s).hlp = s.hlp ∧ (enterOpening d s).sld = s.sld ∧
    (enterOpening d s).pending = s.pending := by
  simp only [enterOpening]
  repeat' split
  all_goals simp

@[simp] theorem setPhase_keeps (d : Drive) (l : Leaf) (x : LeafState) (t : Timer) (s : State) :
    (setPhase d l x t s).cmc = s.cmc ∧ (setPhase d l x t s).odo = s.odo ∧ (setPhase d l x t s).lps = s.lps ∧
    (setPhase d l x t s).rtb = s.rtb ∧ (setPhase d l x t s).ssv = s.ssv ∧ (setPhase d l x t s).brc = s.brc ∧
    (setPhase d l x t s).vrl = s.vrl ∧ (setPhase d l x t s).hlp = s.hlp ∧ (setPhase d l x t s).sld = s.sld ∧
    (setPhase d l x t s).pending = s.pending := by
  simp [setPhase]

@[simp] theorem endDrive_keeps (d : Drive) (s : State) :
    (endDrive d s).cmc = s.cmc ∧ (endDrive d s).odo = s.odo ∧ (endDrive d s).lps = s.lps ∧
    (endDrive d s).rtb = s.rtb ∧ (endDrive d s).ssv = s.ssv ∧ (endDrive d s).brc = s.brc ∧
    (endDrive d s).vrl = s.vrl ∧ (endDrive d s).hlp = s.hlp ∧ (endDrive d s).sld = s.sld ∧
    (endDrive d s).pending = s.pending := by
  simp only [endDrive]
  repeat' split
  all_goals simp

@[simp] theorem enterReversing_keeps (d : Drive) (k : Nat) (s : State) :
    (enterReversing d k s).cmc = s.cmc ∧ (enterReversing d k s).odo = s.odo ∧
    (enterReversing d k s).lps = s.lps ∧ (enterReversing d k s).rtb = s.rtb ∧
    (enterReversing d k s).ssv = s.ssv ∧ (enterReversing d k s).brc = s.brc ∧
    (enterReversing d k s).vrl = s.vrl ∧ (enterReversing d k s).hlp = s.hlp ∧
    (enterReversing d k s).sld = s.sld ∧ (enterReversing d k s).pending = s.pending := by
  simp only [enterReversing]
  repeat' split
  all_goals simp

@[simp] theorem enterHeld_keeps (d : Drive) (s : State) :
    (enterHeld d s).cmc = s.cmc ∧ (enterHeld d s).odo = s.odo ∧ (enterHeld d s).lps = s.lps ∧
    (enterHeld d s).rtb = s.rtb ∧ (enterHeld d s).ssv = s.ssv ∧ (enterHeld d s).brc = s.brc ∧
    (enterHeld d s).vrl = s.vrl ∧ (enterHeld d s).sld = s.sld ∧ (enterHeld d s).pending = s.pending := by
  simp only [enterHeld]
  repeat' split
  all_goals simp

@[simp] theorem obstruct_keeps (d : Drive) (s : State) :
    (obstruct d s).cmc = s.cmc ∧ (obstruct d s).odo = s.odo ∧ (obstruct d s).lps = s.lps ∧
    (obstruct d s).rtb = s.rtb ∧ (obstruct d s).ssv = s.ssv ∧ (obstruct d s).brc = s.brc ∧
    (obstruct d s).vrl = s.vrl ∧ (obstruct d s).sld = s.sld ∧ (obstruct d s).pending = s.pending := by
  have a_cmc (k : Nat) (l : List Drive) (s : State) : (l.foldl (fun s d => enterReversing d k s) s).cmc = s.cmc :=
    foldl_keeps (·.cmc) (fun s d => by simp) l s
  have b_cmc (l : List Drive) (s : State) : (l.foldl (fun s d => enterHeld d s) s).cmc = s.cmc :=
    foldl_keeps (·.cmc) (fun s d => by simp) l s
  have a_odo (k : Nat) (l : List Drive) (s : State) : (l.foldl (fun s d => enterReversing d k s) s).odo = s.odo :=
    foldl_keeps (·.odo) (fun s d => by simp) l s
  have b_odo (l : List Drive) (s : State) : (l.foldl (fun s d => enterHeld d s) s).odo = s.odo :=
    foldl_keeps (·.odo) (fun s d => by simp) l s
  have a_lps (k : Nat) (l : List Drive) (s : State) : (l.foldl (fun s d => enterReversing d k s) s).lps = s.lps :=
    foldl_keeps (·.lps) (fun s d => by simp) l s
  have b_lps (l : List Drive) (s : State) : (l.foldl (fun s d => enterHeld d s) s).lps = s.lps :=
    foldl_keeps (·.lps) (fun s d => by simp) l s
  have a_rtb (k : Nat) (l : List Drive) (s : State) : (l.foldl (fun s d => enterReversing d k s) s).rtb = s.rtb :=
    foldl_keeps (·.rtb) (fun s d => by simp) l s
  have b_rtb (l : List Drive) (s : State) : (l.foldl (fun s d => enterHeld d s) s).rtb = s.rtb :=
    foldl_keeps (·.rtb) (fun s d => by simp) l s
  have a_ssv (k : Nat) (l : List Drive) (s : State) : (l.foldl (fun s d => enterReversing d k s) s).ssv = s.ssv :=
    foldl_keeps (·.ssv) (fun s d => by simp) l s
  have b_ssv (l : List Drive) (s : State) : (l.foldl (fun s d => enterHeld d s) s).ssv = s.ssv :=
    foldl_keeps (·.ssv) (fun s d => by simp) l s
  have a_brc (k : Nat) (l : List Drive) (s : State) : (l.foldl (fun s d => enterReversing d k s) s).brc = s.brc :=
    foldl_keeps (·.brc) (fun s d => by simp) l s
  have b_brc (l : List Drive) (s : State) : (l.foldl (fun s d => enterHeld d s) s).brc = s.brc :=
    foldl_keeps (·.brc) (fun s d => by simp) l s
  have a_vrl (k : Nat) (l : List Drive) (s : State) : (l.foldl (fun s d => enterReversing d k s) s).vrl = s.vrl :=
    foldl_keeps (·.vrl) (fun s d => by simp) l s
  have b_vrl (l : List Drive) (s : State) : (l.foldl (fun s d => enterHeld d s) s).vrl = s.vrl :=
    foldl_keeps (·.vrl) (fun s d => by simp) l s
  have a_sld (k : Nat) (l : List Drive) (s : State) : (l.foldl (fun s d => enterReversing d k s) s).sld = s.sld :=
    foldl_keeps (·.sld) (fun s d => by simp) l s
  have b_sld (l : List Drive) (s : State) : (l.foldl (fun s d => enterHeld d s) s).sld = s.sld :=
    foldl_keeps (·.sld) (fun s d => by simp) l s
  have a_pending (k : Nat) (l : List Drive) (s : State) : (l.foldl (fun s d => enterReversing d k s) s).pending = s.pending :=
    foldl_keeps (·.pending) (fun s d => by simp) l s
  have b_pending (l : List Drive) (s : State) : (l.foldl (fun s d => enterHeld d s) s).pending = s.pending :=
    foldl_keeps (·.pending) (fun s d => by simp) l s
  simp only [obstruct]
  repeat' split
  all_goals simp [a_cmc, b_cmc, a_odo, b_odo, a_lps, b_lps, a_rtb, b_rtb, a_ssv, b_ssv, a_brc, b_brc, a_vrl,
    b_vrl, a_sld, b_sld, a_pending, b_pending]

@[simp] theorem closingEntry_keeps (d : Drive) (s : State) :
    (closingEntry d s).cmc = s.cmc ∧ (closingEntry d s).odo = s.odo ∧ (closingEntry d s).lps = s.lps ∧
    (closingEntry d s).rtb = s.rtb ∧ (closingEntry d s).ssv = s.ssv ∧ (closingEntry d s).brc = s.brc ∧
    (closingEntry d s).sld = s.sld ∧ (closingEntry d s).pending = s.pending := by
  simp only [closingEntry]
  repeat' split
  all_goals simp

@[simp] theorem setClosing_keeps (d : Drive) (k : Nat) (s : State) :
    (setClosing d k s).cmc = s.cmc ∧ (setClosing d k s).odo = s.odo ∧ (setClosing d k s).lps = s.lps ∧
    (setClosing d k s).rtb = s.rtb ∧ (setClosing d k s).ssv = s.ssv ∧ (setClosing d k s).brc = s.brc ∧
    (setClosing d k s).vrl = s.vrl ∧ (setClosing d k s).hlp = s.hlp ∧ (setClosing d k s).sld = s.sld ∧
    (setClosing d k s).pending = s.pending := by
  simp [setClosing]

@[simp] theorem startClosing_keeps (l : List Drive) (k : Nat) (s : State) :
    (startClosing l k s).cmc = s.cmc ∧ (startClosing l k s).odo = s.odo ∧ (startClosing l k s).lps = s.lps ∧
    (startClosing l k s).rtb = s.rtb ∧ (startClosing l k s).ssv = s.ssv ∧ (startClosing l k s).brc = s.brc ∧
    (startClosing l k s).sld = s.sld ∧ (startClosing l k s).pending = s.pending := by
  simp only [startClosing]
  refine ⟨(foldl_keeps (·.cmc) (fun s d => by simp) _ _).trans (foldl_keeps (·.cmc) (fun s d => by simp) _ _),
    (foldl_keeps (·.odo) (fun s d => by simp) _ _).trans (foldl_keeps (·.odo) (fun s d => by simp) _ _),
    (foldl_keeps (·.lps) (fun s d => by simp) _ _).trans (foldl_keeps (·.lps) (fun s d => by simp) _ _),
    (foldl_keeps (·.rtb) (fun s d => by simp) _ _).trans (foldl_keeps (·.rtb) (fun s d => by simp) _ _),
    (foldl_keeps (·.ssv) (fun s d => by simp) _ _).trans (foldl_keeps (·.ssv) (fun s d => by simp) _ _),
    (foldl_keeps (·.brc) (fun s d => by simp) _ _).trans (foldl_keeps (·.brc) (fun s d => by simp) _ _),
    (foldl_keeps (·.sld) (fun s d => by simp) _ _).trans (foldl_keeps (·.sld) (fun s d => by simp) _ _),
    (foldl_keeps (·.pending) (fun s d => by simp) _ _).trans (foldl_keeps (·.pending) (fun s d => by simp) _ _)⟩

@[simp] theorem closeLeaves_keeps (x : Side) (l : List Drive) (s : State) :
    (closeLeaves x l s).cmc = s.cmc ∧ (closeLeaves x l s).odo = s.odo ∧ (closeLeaves x l s).lps = s.lps ∧
    (closeLeaves x l s).rtb = s.rtb ∧ (closeLeaves x l s).ssv = s.ssv ∧ (closeLeaves x l s).brc = s.brc ∧
    (closeLeaves x l s).sld = s.sld ∧ (closeLeaves x l s).pending = s.pending := by
  simp only [closeLeaves]
  repeat' split
  all_goals simp

@[simp] theorem closeWithGang_keeps (d : Drive) (s : State) :
    (closeWithGang d s).cmc = s.cmc ∧ (closeWithGang d s).odo = s.odo ∧ (closeWithGang d s).lps = s.lps ∧
    (closeWithGang d s).rtb = s.rtb ∧ (closeWithGang d s).ssv = s.ssv ∧ (closeWithGang d s).brc = s.brc ∧
    (closeWithGang d s).sld = s.sld ∧ (closeWithGang d s).pending = s.pending := by
  simp only [closeWithGang]
  repeat' split
  all_goals simp

@[simp] theorem enterUnlocked_keeps (d : Drive) (s : State) :
    (enterUnlocked d s).cmc = s.cmc ∧ (enterUnlocked d s).odo = s.odo ∧ (enterUnlocked d s).lps = s.lps ∧
    (enterUnlocked d s).rtb = s.rtb ∧ (enterUnlocked d s).ssv = s.ssv ∧ (enterUnlocked d s).brc = s.brc ∧
    (enterUnlocked d s).vrl = s.vrl ∧ (enterUnlocked d s).hlp = s.hlp ∧ (enterUnlocked d s).sld = s.sld ∧
    (enterUnlocked d s).pending = s.pending := by
  simp only [enterUnlocked]
  repeat' split
  all_goals simp

@[simp] theorem openLeaf_keeps (d : Drive) (s : State) :
    (openLeaf d s).cmc = s.cmc ∧ (openLeaf d s).odo = s.odo ∧ (openLeaf d s).lps = s.lps ∧
    (openLeaf d s).rtb = s.rtb ∧ (openLeaf d s).ssv = s.ssv ∧ (openLeaf d s).brc = s.brc ∧
    (openLeaf d s).sld = s.sld ∧ (openLeaf d s).pending = s.pending := by
  simp only [openLeaf, unlockLeaf]
  repeat' split
  all_goals simp

@[simp] theorem unlockSide_keeps (x : Side) (s : State) :
    (unlockSide x s).cmc = s.cmc ∧ (unlockSide x s).odo = s.odo ∧ (unlockSide x s).lps = s.lps ∧
    (unlockSide x s).rtb = s.rtb ∧ (unlockSide x s).ssv = s.ssv ∧ (unlockSide x s).brc = s.brc ∧
    (unlockSide x s).sld = s.sld ∧ (unlockSide x s).pending = s.pending := by
  simp only [unlockSide]
  refine ⟨foldl_keeps (·.cmc) ?_ _ _, foldl_keeps (·.odo) ?_ _ _, foldl_keeps (·.lps) ?_ _ _,
    foldl_keeps (·.rtb) ?_ _ _, foldl_keeps (·.ssv) ?_ _ _, foldl_keeps (·.brc) ?_ _ _,
    foldl_keeps (·.sld) ?_ _ _, foldl_keeps (·.pending) ?_ _ _⟩ <;>
    (intro s d; unfold unlockLeaf; split <;> simp)

@[simp] theorem closeOnLoss_keeps (x : Side) (s : State) :
    (closeOnLoss x s).cmc = s.cmc ∧ (closeOnLoss x s).odo = s.odo ∧ (closeOnLoss x s).lps = s.lps ∧
    (closeOnLoss x s).rtb = s.rtb ∧ (closeOnLoss x s).ssv = s.ssv ∧ (closeOnLoss x s).brc = s.brc ∧
    (closeOnLoss x s).sld = s.sld ∧ (closeOnLoss x s).pending = s.pending := by
  simp [closeOnLoss]

@[simp] theorem judge_keeps (s : State) :
    (judge s).cmc = s.cmc ∧ (judge s).odo = s.odo ∧ (judge s).lps = s.lps ∧ (judge s).rtb = s.rtb ∧
    (judge s).ssv = s.ssv ∧ (judge s).brc = s.brc ∧ (judge s).sld = s.sld ∧ (judge s).pending = s.pending := by
  simp only [judge]
  repeat' split
  all_goals simp

@[simp] theorem followDoorHold_keeps (s : State) :
    (followDoorHold s).cmc = s.cmc ∧ (followDoorHold s).odo = s.odo ∧ (followDoorHold s).lps = s.lps ∧
    (followDoorHold s).rtb = s.rtb ∧ (followDoorHold s).ssv = s.ssv ∧ (followDoorHold s).vrl = s.vrl ∧
    (followDoorHold s).sld = s.sld ∧ (followDoorHold s).pending = s.pending := by
  simp only [followDoorHold]
  repeat' split
  all_goals simp

@[simp] theorem flushReport_keeps (s : State) :
    (flushReport s).cmc = s.cmc ∧ (flushReport s).odo = s.odo ∧ (flushReport s).lps = s.lps ∧
    (flushReport s).rtb = s.rtb ∧ (flushReport s).ssv = s.ssv ∧ (flushReport s).brc = s.brc ∧
    (flushReport s).hlp = s.hlp ∧ (flushReport s).sld = s.sld ∧ (flushReport s).pending = s.pending := by
  simp only [flushReport]
  repeat' split
  all_goals simp

theorem drcEvent_cmc (f : State → State) (h : ∀ s, (f s).cmc = s.cmc) (s : State) :
    (drcEvent f s).cmc = s.cmc := by
  simp [drcEvent, h]

theorem drcEvent_odo (f : State → State) (h : ∀ s, (f s).odo = s.odo) (s : State) :
    (drcEvent f s).odo = s.odo := by
  simp [drcEvent, h]

theorem drcEvent_lps (f : State → State) (h : ∀ s, (f s).lps = s.lps) (s : State) :
    (drcEvent f s).lps = s.lps := by
  simp [drcEvent, h]

theorem drcEvent_rtb (f : State → State) (h : ∀ s, (f s).rtb = s.rtb) (s : State) :
    (drcEvent f s).rtb = s.rtb := by
  simp [drcEvent, h]

theorem drcEvent_ssv (f : State → State) (h : ∀ s, (f s).ssv = s.ssv) (s : State) :
    (drcEvent f s).ssv = s.ssv := by
  simp [drcEvent, h]

theorem drcEvent_sld (f : State → State) (h : ∀ s, (f s).sld = s.sld) (s : State) :
    (drcEvent f s).sld = s.sld := by
  simp [drcEvent, h]

theorem drcEvent_pending (f : State → State) (h : ∀ s, (f s).pending = s.pending) (s : State) :
    (drcEvent f s).pending = s.pending := by
  simp [drcEvent, h]

@[simp] theorem judgeRelease_keeps (s : State) :
    (judgeRelease s).cmc = s.cmc ∧ (judgeRelease s).odo = s.odo ∧ (judgeRelease s).lps = s.lps ∧
    (judgeRelease s).rtb = s.rtb ∧ (judgeRelease s).ssv = s.ssv ∧ (judgeRelease s).sld = s.sld ∧
    (judgeRelease s).pending = s.pending := by
  simp only [judgeRelease]
  refine ⟨drcEvent_cmc _ (fun s => by simp) s, drcEvent_odo _ (fun s => by simp) s,
    drcEvent_lps _ (fun s => by simp) s, drcEvent_rtb _ (fun s => by simp) s,
    drcEvent_ssv _ (fun s => by simp) s, drcEvent_sld _ (fun s => by simp) s,
    drcEvent_pending _ (fun s => by simp) s⟩

@[simp] theorem doorsMoving_keeps (s : State) :
    (doorsMoving s).cmc = s.cmc ∧ (doorsMoving s).odo = s.odo ∧ (doorsMoving s).lps = s.lps ∧
    (doorsMoving s).rtb = s.rtb ∧ (doorsMoving s).ssv = s.ssv ∧ (doorsMoving s).sld = s.sld ∧
    (doorsMoving s).pending = s.pending := by
  simp only [doorsMoving]
  repeat' split
  all_goals simp

@[simp] theorem gangOn_keeps (x : Side) (s : State) :
    (gangOn x s).cmc = s.cmc ∧ (gangOn x s).odo = s.odo ∧ (gangOn x s).lps = s.lps ∧ (gangOn x s).rtb = s.rtb ∧
    (gangOn x s).ssv = s.ssv ∧ (gangOn x s).brc = s.brc ∧ (gangOn x s).vrl = s.vrl ∧ (gangOn x s).hlp = s.hlp ∧
    (gangOn x s).sld = s.sld ∧ (gangOn x s).pending = s.pending := by
  simp only [gangOn, setGang_keeps]
  refine ⟨foldl_keeps (·.cmc) ?_ _ _, foldl_keeps (·.odo) ?_ _ _, foldl_keeps (·.lps) ?_ _ _,
    foldl_keeps (·.rtb) ?_ _ _, foldl_keeps (·.ssv) ?_ _ _, foldl_keeps (·.brc) ?_ _ _,
    foldl_keeps (·.vrl) ?_ _ _, foldl_keeps (·.hlp) ?_ _ _, foldl_keeps (·.sld) ?_ _ _,
    foldl_keeps (·.pending) ?_ _ _⟩ <;>
    (intro s d; split <;> simp)

@[simp] theorem freshFaults_keeps (b : Doors) (s : State) :
    (freshFaults b s).cmc = s.cmc ∧ (freshFaults b s).odo = s.odo ∧ (freshFaults b s).lps = s.lps ∧
    (freshFaults b s).rtb = s.rtb ∧ (freshFaults b s).ssv = s.ssv ∧ (freshFaults b s).brc = s.brc ∧
    (freshFaults b s).drc = s.drc ∧ (freshFaults b s).sld = s.sld ∧ (freshFaults b s).pending = s.pending := by
  simp only [freshFaults]
  refine ⟨foldl_keeps (·.cmc) ?_ _ _, foldl_keeps (·.odo) ?_ _ _, foldl_keeps (·.lps) ?_ _ _,
    foldl_keeps (·.rtb) ?_ _ _, foldl_keeps (·.ssv) ?_ _ _, foldl_keeps (·.brc) ?_ _ _,
    foldl_keeps (·.drc) ?_ _ _, foldl_keeps (·.sld) ?_ _ _, foldl_keeps (·.pending) ?_ _ _⟩ <;>
    (intro s d; split <;> simp)

@[simp] theorem formLeaves_keeps (s : State) :
    (formLeaves s).cmc = s.cmc ∧ (formLeaves s).odo = s.odo ∧ (formLeaves s).lps = s.lps ∧
    (formLeaves s).rtb = s.rtb ∧ (formLeaves s).ssv = s.ssv ∧ (formLeaves s).brc = s.brc ∧
    (formLeaves s).sld = s.sld ∧ (formLeaves s).pending = s.pending := by
  simp only [formLeaves]
  repeat' split
  all_goals simp

@[simp] theorem formGang_keeps (x : Side) (s : State) :
    (formGang x s).cmc = s.cmc ∧ (formGang x s).odo = s.odo ∧ (formGang x s).lps = s.lps ∧
    (formGang x s).rtb = s.rtb ∧ (formGang x s).ssv = s.ssv ∧ (formGang x s).brc = s.brc ∧
    (formGang x s).vrl = s.vrl ∧ (formGang x s).hlp = s.hlp ∧ (formGang x s).sld = s.sld ∧
    (formGang x s).pending = s.pending := by
  simp only [formGang]
  repeat' split
  all_goals simp

@[simp] theorem formDoors_keeps (s : State) :
    (formDoors s).cmc = s.cmc ∧ (formDoors s).odo = s.odo ∧ (formDoors s).lps = s.lps ∧
    (formDoors s).rtb = s.rtb ∧ (formDoors s).ssv = s.ssv ∧ (formDoors s).sld = s.sld ∧
    (formDoors s).pending = s.pending := by
  simp only [formDoors]
  refine ⟨drcEvent_cmc _ (fun s => by simp) s, drcEvent_odo _ (fun s => by simp) s,
    drcEvent_lps _ (fun s => by simp) s, drcEvent_rtb _ (fun s => by simp) s,
    drcEvent_ssv _ (fun s => by simp) s, drcEvent_sld _ (fun s => by simp) s,
    drcEvent_pending _ (fun s => by simp) s⟩

@[simp] theorem restartReceiver_keeps (a b : Table Nat 52) (s : State) :
    (restartReceiver a b s).cmc = s.cmc ∧ (restartReceiver a b s).odo = s.odo ∧
    (restartReceiver a b s).lps = s.lps ∧ (restartReceiver a b s).rtb = s.rtb ∧
    (restartReceiver a b s).ssv = s.ssv ∧ (restartReceiver a b s).brc = s.brc ∧
    (restartReceiver a b s).drc = s.drc ∧ (restartReceiver a b s).hlp = s.hlp ∧
    (restartReceiver a b s).sld = s.sld ∧ (restartReceiver a b s).pending = s.pending := by
  simp only [restartReceiver]
  repeat' split
  all_goals simp

@[simp] theorem activate_keeps (p : Table Nat 52) (s : State) :
    (activate p s).odo = s.odo ∧ (activate p s).lps = s.lps ∧ (activate p s).rtb = s.rtb ∧
    (activate p s).ssv = s.ssv ∧ (activate p s).sld = s.sld ∧ (activate p s).pending = s.pending := by
  simp only [activate]
  repeat' split
  all_goals simp

@[simp] theorem applyPendingSet_keeps (s : State) :
    (applyPendingSet s).odo = s.odo ∧ (applyPendingSet s).lps = s.lps ∧ (applyPendingSet s).rtb = s.rtb ∧
    (applyPendingSet s).ssv = s.ssv ∧ (applyPendingSet s).sld = s.sld ∧ (applyPendingSet s).pending = s.pending := by
  simp only [applyPendingSet]
  repeat' split
  all_goals simp

end Sys2Proof.Machine
end

