-- ==== Sys2Proof/Laws/BlockFrames.lean ====
section
/-! SUPPORT. What the operations of the single blocks leave alone: one lemma for each operation. -/

set_option linter.unusedTactic false

namespace Sys2Proof.Machine

@[simp] theorem takeRestrict_keeps (f : RestrictFields) (s : State) :
    (takeRestrict f s).2.cmc = s.cmc ∧ (takeRestrict f s).2.odo = s.odo ∧ (takeRestrict f s).2.lps = s.lps ∧
    (takeRestrict f s).2.brc = s.brc ∧ (takeRestrict f s).2.drc = s.drc ∧ (takeRestrict f s).2.vrl = s.vrl ∧
    (takeRestrict f s).2.sld = s.sld ∧ (takeRestrict f s).2.pending = s.pending := by
  simp only [takeRestrict]
  repeat' split
  all_goals simp [noteChange, putSlot, setOverflow]


@[simp] theorem takeRevoke_keeps (id : Half) (q : Byte) (s : State) :
    (takeRevoke id q s).2.cmc = s.cmc ∧ (takeRevoke id q s).2.odo = s.odo ∧ (takeRevoke id q s).2.lps = s.lps ∧
    (takeRevoke id q s).2.ssv = s.ssv ∧ (takeRevoke id q s).2.brc = s.brc ∧ (takeRevoke id q s).2.drc = s.drc ∧
    (takeRevoke id q s).2.vrl = s.vrl ∧ (takeRevoke id q s).2.sld = s.sld ∧
    (takeRevoke id q s).2.pending = s.pending := by
  simp only [takeRevoke]
  repeat' split
  all_goals simp [noteChange, putSlot]

@[simp] theorem storeRelease_keeps (r : Release) (s : State) :
    (storeRelease r s).cmc = s.cmc ∧ (storeRelease r s).odo = s.odo ∧ (storeRelease r s).lps = s.lps ∧
    (storeRelease r s).rtb = s.rtb ∧ (storeRelease r s).ssv = s.ssv ∧ (storeRelease r s).brc = s.brc ∧
    (storeRelease r s).sld = s.sld ∧ (storeRelease r s).pending = s.pending := by
  simp [storeRelease]

@[simp] theorem removeRelease_keeps (s : State) :
    (removeRelease s).cmc = s.cmc ∧ (removeRelease s).odo = s.odo ∧ (removeRelease s).lps = s.lps ∧
    (removeRelease s).rtb = s.rtb ∧ (removeRelease s).ssv = s.ssv ∧ (removeRelease s).brc = s.brc ∧
    (removeRelease s).sld = s.sld ∧ (removeRelease s).pending = s.pending := by
  simp [removeRelease]

@[simp] theorem takeDoorRelease_keeps (st sd : Byte) (s : State) :
    (takeDoorRelease st sd s).cmc = s.cmc ∧ (takeDoorRelease st sd s).odo = s.odo ∧
    (takeDoorRelease st sd s).lps = s.lps ∧ (takeDoorRelease st sd s).rtb = s.rtb ∧
    (takeDoorRelease st sd s).ssv = s.ssv ∧ (takeDoorRelease st sd s).sld = s.sld ∧
    (takeDoorRelease st sd s).pending = s.pending := by
  simp only [takeDoorRelease]
  repeat' split
  all_goals (try simp only [and_self])
  all_goals refine ⟨drcEvent_cmc _ (fun s => by simp) s, drcEvent_odo _ (fun s => by simp) s,
    drcEvent_lps _ (fun s => by simp) s, drcEvent_rtb _ (fun s => by simp) s,
    drcEvent_ssv _ (fun s => by simp) s, drcEvent_sld _ (fun s => by simp) s,
    drcEvent_pending _ (fun s => by simp) s⟩

@[simp] theorem takeDoorWithdraw_keeps (st : Byte) (s : State) :
    (takeDoorWithdraw st s).cmc = s.cmc ∧ (takeDoorWithdraw st s).odo = s.odo ∧
    (takeDoorWithdraw st s).lps = s.lps ∧ (takeDoorWithdraw st s).rtb = s.rtb ∧
    (takeDoorWithdraw st s).ssv = s.ssv ∧ (takeDoorWithdraw st s).sld = s.sld ∧
    (takeDoorWithdraw st s).pending = s.pending := by
  simp only [takeDoorWithdraw]
  repeat' split
  all_goals (try simp only [and_self])
  all_goals refine ⟨drcEvent_cmc _ (fun s => by simp) s, drcEvent_odo _ (fun s => by simp) s,
    drcEvent_lps _ (fun s => by simp) s, drcEvent_rtb _ (fun s => by simp) s,
    drcEvent_ssv _ (fun s => by simp) s, drcEvent_sld _ (fun s => by simp) s,
    drcEvent_pending _ (fun s => by simp) s⟩

@[simp] theorem leaveHeld_keeps (d : Drive) (k : Nat) (s : State) :
    (leaveHeld d k s).cmc = s.cmc ∧ (leaveHeld d k s).odo = s.odo ∧ (leaveHeld d k s).lps = s.lps ∧
    (leaveHeld d k s).rtb = s.rtb ∧ (leaveHeld d k s).ssv = s.ssv ∧ (leaveHeld d k s).brc = s.brc ∧
    (leaveHeld d k s).sld = s.sld ∧ (leaveHeld d k s).pending = s.pending := by
  simp only [leaveHeld]
  repeat' split
  all_goals simp

@[simp] theorem restoreLeaf_keeps (d : Drive) (s : State) :
    (restoreLeaf d s).cmc = s.cmc ∧ (restoreLeaf d s).odo = s.odo ∧ (restoreLeaf d s).lps = s.lps ∧
    (restoreLeaf d s).rtb = s.rtb ∧ (restoreLeaf d s).ssv = s.ssv ∧ (restoreLeaf d s).brc = s.brc ∧
    (restoreLeaf d s).sld = s.sld ∧ (restoreLeaf d s).pending = s.pending := by
  simp only [restoreLeaf]
  repeat' split
  all_goals simp

@[simp] theorem resetDoors_keeps (s : State) :
    (resetDoors s).cmc = s.cmc ∧ (resetDoors s).odo = s.odo ∧ (resetDoors s).lps = s.lps ∧
    (resetDoors s).rtb = s.rtb ∧ (resetDoors s).ssv = s.ssv ∧ (resetDoors s).brc = s.brc ∧
    (resetDoors s).sld = s.sld ∧ (resetDoors s).pending = s.pending := by
  simp only [resetDoors]
  repeat' split
  all_goals simp

@[simp] theorem beginStep_keeps (t : TestStep) (s : State) :
    (beginStep t s).cmc = s.cmc ∧ (beginStep t s).odo = s.odo ∧ (beginStep t s).lps = s.lps ∧
    (beginStep t s).rtb = s.rtb ∧ (beginStep t s).ssv = s.ssv ∧ (beginStep t s).drc = s.drc ∧
    (beginStep t s).vrl = s.vrl ∧ (beginStep t s).hlp = s.hlp ∧ (beginStep t s).sld = s.sld ∧
    (beginStep t s).pending = s.pending := by
  simp [beginStep]

@[simp] theorem setTestHealth_keeps (c : Channel) (h : Health) (s : State) :
    (setTestHealth c h s).cmc = s.cmc ∧ (setTestHealth c h s).odo = s.odo ∧ (setTestHealth c h s).lps = s.lps ∧
    (setTestHealth c h s).rtb = s.rtb ∧ (setTestHealth c h s).sld = s.sld ∧
    (setTestHealth c h s).pending = s.pending := by
  simp [setTestHealth]

@[simp] theorem handHoldingHealth_keeps (h : Health) (s : State) :
    (handHoldingHealth h s).cmc = s.cmc ∧ (handHoldingHealth h s).odo = s.odo ∧
    (handHoldingHealth h s).lps = s.lps ∧ (handHoldingHealth h s).rtb = s.rtb ∧
    (handHoldingHealth h s).ssv = s.ssv ∧ (handHoldingHealth h s).sld = s.sld ∧
    (handHoldingHealth h s).pending = s.pending := by
  simp only [handHoldingHealth]
  repeat' split
  all_goals simp

@[simp] theorem endStep_keeps (t : TestStep) (o : StepOutcome) (s : State) :
    (endStep t o s).cmc = s.cmc ∧ (endStep t o s).odo = s.odo ∧ (endStep t o s).lps = s.lps ∧
    (endStep t o s).rtb = s.rtb ∧ (endStep t o s).sld = s.sld ∧ (endStep t o s).pending = s.pending := by
  simp only [endStep]
  repeat' split
  all_goals simp

@[simp] theorem completeTest_keeps (s : State) :
    (completeTest s).cmc = s.cmc ∧ (completeTest s).odo = s.odo ∧ (completeTest s).lps = s.lps ∧
    (completeTest s).rtb = s.rtb ∧ (completeTest s).ssv = s.ssv ∧ (completeTest s).drc = s.drc ∧
    (completeTest s).vrl = s.vrl ∧ (completeTest s).sld = s.sld ∧ (completeTest s).pending = s.pending := by
  simp [completeTest]

@[simp] theorem runSteps_keeps (l : List TestStep) (h : Health) (s : State) :
    (runSteps l h s).cmc = s.cmc ∧ (runSteps l h s).odo = s.odo ∧ (runSteps l h s).lps = s.lps ∧
    (runSteps l h s).rtb = s.rtb ∧ (runSteps l h s).sld = s.sld ∧ (runSteps l h s).pending = s.pending := by
  induction l generalizing h s with
  | nil => simp [runSteps]
  | cons a l ih => simp only [runSteps]; repeat' split
                   all_goals simp [ih]

@[simp] theorem finishStep_keeps (t : TestContext) (o : StepOutcome) (s : State) :
    (finishStep t o s).cmc = s.cmc ∧ (finishStep t o s).odo = s.odo ∧ (finishStep t o s).lps = s.lps ∧
    (finishStep t o s).rtb = s.rtb ∧ (finishStep t o s).sld = s.sld ∧ (finishStep t o s).pending = s.pending := by
  simp only [finishStep]
  repeat' split
  all_goals simp

@[simp] theorem testFeedback_keeps (c : Channel) (s : State) :
    (testFeedback c s).cmc = s.cmc ∧ (testFeedback c s).odo = s.odo ∧ (testFeedback c s).lps = s.lps ∧
    (testFeedback c s).rtb = s.rtb ∧ (testFeedback c s).sld = s.sld ∧ (testFeedback c s).pending = s.pending := by
  simp only [testFeedback]
  repeat' split
  all_goals simp

@[simp] theorem startTest_keeps (s : State) :
    (startTest s).cmc = s.cmc ∧ (startTest s).odo = s.odo ∧ (startTest s).lps = s.lps ∧
    (startTest s).rtb = s.rtb ∧ (startTest s).sld = s.sld ∧ (startTest s).pending = s.pending := by
  simp [startTest]

@[simp] theorem superviseFeedback_keeps (c : Channel) (s : State) :
    (superviseFeedback c s).cmc = s.cmc ∧ (superviseFeedback c s).odo = s.odo ∧
    (superviseFeedback c s).lps = s.lps ∧ (superviseFeedback c s).rtb = s.rtb ∧
    (superviseFeedback c s).ssv = s.ssv ∧ (superviseFeedback c s).drc = s.drc ∧
    (superviseFeedback c s).vrl = s.vrl ∧ (superviseFeedback c s).hlp = s.hlp ∧
    (superviseFeedback c s).sld = s.sld ∧ (superviseFeedback c s).pending = s.pending := by
  simp only [superviseFeedback]
  repeat' split
  all_goals simp

@[simp] theorem confirmHolding_keeps (c : Channel) (s : State) :
    (confirmHolding c s).cmc = s.cmc ∧ (confirmHolding c s).odo = s.odo ∧ (confirmHolding c s).lps = s.lps ∧
    (confirmHolding c s).rtb = s.rtb ∧ (confirmHolding c s).ssv = s.ssv ∧ (confirmHolding c s).drc = s.drc ∧
    (confirmHolding c s).vrl = s.vrl ∧ (confirmHolding c s).hlp = s.hlp ∧ (confirmHolding c s).sld = s.sld ∧
    (confirmHolding c s).pending = s.pending := by
  simp only [confirmHolding]
  repeat' split
  all_goals simp

@[simp] theorem storeFeedback_keeps (f : Feedback) (s : State) :
    (storeFeedback f s).cmc = s.cmc ∧ (storeFeedback f s).odo = s.odo ∧ (storeFeedback f s).lps = s.lps ∧
    (storeFeedback f s).rtb = s.rtb ∧ (storeFeedback f s).ssv = s.ssv ∧ (storeFeedback f s).drc = s.drc ∧
    (storeFeedback f s).vrl = s.vrl ∧ (storeFeedback f s).hlp = s.hlp ∧ (storeFeedback f s).sld = s.sld ∧
    (storeFeedback f s).pending = s.pending := by
  simp only [storeFeedback]
  repeat' split
  all_goals simp

@[simp] theorem latchEmptiedAtSsv_keeps (s : State) :
    (latchEmptiedAtSsv s).cmc = s.cmc ∧ (latchEmptiedAtSsv s).odo = s.odo ∧ (latchEmptiedAtSsv s).lps = s.lps ∧
    (latchEmptiedAtSsv s).rtb = s.rtb ∧ (latchEmptiedAtSsv s).brc = s.brc ∧ (latchEmptiedAtSsv s).drc = s.drc ∧
    (latchEmptiedAtSsv s).vrl = s.vrl ∧ (latchEmptiedAtSsv s).sld = s.sld ∧
    (latchEmptiedAtSsv s).pending = s.pending := by
  simp only [latchEmptiedAtSsv]
  repeat' split
  all_goals simp

@[simp] theorem emptyLatch_keeps (s : State) :
    (emptyLatch s).cmc = s.cmc ∧ (emptyLatch s).odo = s.odo ∧ (emptyLatch s).lps = s.lps ∧
    (emptyLatch s).rtb = s.rtb ∧ (emptyLatch s).drc = s.drc ∧ (emptyLatch s).vrl = s.vrl ∧
    (emptyLatch s).sld = s.sld ∧ (emptyLatch s).pending = s.pending := by
  simp [emptyLatch]

@[simp] theorem setStatus_keeps (x : PositionStatus) (r : Option DegradedReason) (s : State) :
    (setStatus x r s).cmc = s.cmc ∧ (setStatus x r s).lps = s.lps ∧ (setStatus x r s).rtb = s.rtb ∧
    (setStatus x r s).brc = s.brc ∧ (setStatus x r s).drc = s.drc ∧ (setStatus x r s).vrl = s.vrl ∧
    (setStatus x r s).hlp = s.hlp ∧ (setStatus x r s).sld = s.sld ∧ (setStatus x r s).pending = s.pending := by
  simp [setStatus]

@[simp] theorem setEstimate_keeps (n u : Nat) (s : State) :
    (setEstimate n u s).cmc = s.cmc ∧ (setEstimate n u s).lps = s.lps ∧ (setEstimate n u s).rtb = s.rtb ∧
    (setEstimate n u s).ssv = s.ssv ∧ (setEstimate n u s).brc = s.brc ∧ (setEstimate n u s).drc = s.drc ∧
    (setEstimate n u s).vrl = s.vrl ∧ (setEstimate n u s).hlp = s.hlp ∧ (setEstimate n u s).sld = s.sld ∧
    (setEstimate n u s).pending = s.pending := by
  simp [setEstimate]

@[simp] theorem discardEstimate_keeps (s : State) :
    (discardEstimate s).cmc = s.cmc ∧ (discardEstimate s).lps = s.lps ∧ (discardEstimate s).rtb = s.rtb ∧
    (discardEstimate s).brc = s.brc ∧ (discardEstimate s).drc = s.drc ∧ (discardEstimate s).vrl = s.vrl ∧
    (discardEstimate s).hlp = s.hlp ∧ (discardEstimate s).sld = s.sld ∧ (discardEstimate s).pending = s.pending := by
  simp [discardEstimate]

@[simp] theorem addTotal_keeps (p : Pair) (w : Way) (s : State) :
    (addTotal p w s).cmc = s.cmc ∧ (addTotal p w s).lps = s.lps ∧ (addTotal p w s).rtb = s.rtb ∧
    (addTotal p w s).ssv = s.ssv ∧ (addTotal p w s).brc = s.brc ∧ (addTotal p w s).drc = s.drc ∧
    (addTotal p w s).vrl = s.vrl ∧ (addTotal p w s).hlp = s.hlp ∧ (addTotal p w s).sld = s.sld ∧
    (addTotal p w s).pending = s.pending := by
  simp only [addTotal]
  repeat' split
  all_goals simp

@[simp] theorem changeEngagement_keeps (p : Pair) (s : State) :
    (changeEngagement p s).cmc = s.cmc ∧ (changeEngagement p s).lps = s.lps ∧
    (changeEngagement p s).rtb = s.rtb ∧ (changeEngagement p s).ssv = s.ssv ∧
    (changeEngagement p s).brc = s.brc ∧ (changeEngagement p s).drc = s.drc ∧
    (changeEngagement p s).vrl = s.vrl ∧ (changeEngagement p s).hlp = s.hlp ∧
    (changeEngagement p s).sld = s.sld ∧ (changeEngagement p s).pending = s.pending := by
  simp only [changeEngagement]
  repeat' split
  all_goals simp

@[simp] theorem moveEstimate_keeps (p : Pair) (w : Way) (s : State) :
    (moveEstimate p w s).cmc = s.cmc ∧ (moveEstimate p w s).lps = s.lps ∧ (moveEstimate p w s).rtb = s.rtb ∧
    (moveEstimate p w s).brc = s.brc ∧ (moveEstimate p w s).drc = s.drc ∧ (moveEstimate p w s).vrl = s.vrl ∧
    (moveEstimate p w s).hlp = s.hlp ∧ (moveEstimate p w s).sld = s.sld ∧
    (moveEstimate p w s).pending = s.pending := by
  simp only [moveEstimate]
  repeat' split
  all_goals simp

@[simp] theorem anchor_keeps (s : State) :
    (anchor s).cmc = s.cmc ∧ (anchor s).lps = s.lps ∧ (anchor s).rtb = s.rtb ∧ (anchor s).brc = s.brc ∧
    (anchor s).drc = s.drc ∧ (anchor s).hlp = s.hlp ∧ (anchor s).sld = s.sld ∧ (anchor s).pending = s.pending := by
  simp only [anchor]
  repeat' split
  all_goals simp

@[simp] theorem anchorAfter_keeps (m : Meshing) (w : Way) (s : State) :
    (anchorAfter m w s).cmc = s.cmc ∧ (anchorAfter m w s).lps = s.lps ∧ (anchorAfter m w s).rtb = s.rtb ∧
    (anchorAfter m w s).brc = s.brc ∧ (anchorAfter m w s).drc = s.drc ∧ (anchorAfter m w s).hlp = s.hlp ∧
    (anchorAfter m w s).sld = s.sld ∧ (anchorAfter m w s).pending = s.pending := by
  simp only [anchorAfter]
  repeat' split
  all_goals simp

@[simp] theorem changeWatch_keeps (m : Meshing) (b : Option Nat) (f : Bool) (s : State) :
    (changeWatch m b f s).cmc = s.cmc ∧ (changeWatch m b f s).lps = s.lps ∧ (changeWatch m b f s).rtb = s.rtb ∧
    (changeWatch m b f s).ssv = s.ssv ∧ (changeWatch m b f s).drc = s.drc ∧ (changeWatch m b f s).sld = s.sld ∧
    (changeWatch m b f s).pending = s.pending := by
  simp only [changeWatch]
  repeat' split
  all_goals simp

@[simp] theorem accumulate_keeps (p : Pair) (w : Way) (s : State) :
    (accumulate p w s).cmc = s.cmc ∧ (accumulate p w s).lps = s.lps ∧ (accumulate p w s).rtb = s.rtb ∧
    (accumulate p w s).ssv = s.ssv ∧ (accumulate p w s).drc = s.drc ∧ (accumulate p w s).sld = s.sld ∧
    (accumulate p w s).pending = s.pending := by
  simp only [accumulate]
  repeat' split
  all_goals simp

@[simp] theorem brakesMoving_keeps (s : State) :
    (brakesMoving s).cmc = s.cmc ∧ (brakesMoving s).odo = s.odo ∧ (brakesMoving s).lps = s.lps ∧
    (brakesMoving s).rtb = s.rtb ∧ (brakesMoving s).ssv = s.ssv ∧ (brakesMoving s).drc = s.drc ∧
    (brakesMoving s).sld = s.sld ∧ (brakesMoving s).pending = s.pending := by
  simp [brakesMoving]

@[simp] theorem becomeMoving_keeps (s : State) :
    (becomeMoving s).cmc = s.cmc ∧ (becomeMoving s).lps = s.lps ∧ (becomeMoving s).rtb = s.rtb ∧
    (becomeMoving s).ssv = s.ssv ∧ (becomeMoving s).sld = s.sld ∧ (becomeMoving s).pending = s.pending := by
  simp only [becomeMoving]
  repeat' split
  all_goals simp

@[simp] theorem countSteps_keeps (p : Pair) (w : Way) (s : State) :
    (countSteps p w s).cmc = s.cmc ∧ (countSteps p w s).lps = s.lps ∧ (countSteps p w s).rtb = s.rtb ∧
    (countSteps p w s).sld = s.sld ∧ (countSteps p w s).pending = s.pending := by
  simp only [countSteps]
  by_cases h : (sourceInUse s == p) = true <;> simp [h]

@[simp] theorem modesStanding_keeps (s : State) :
    (modesStanding s).odo = s.odo ∧ (modesStanding s).lps = s.lps ∧ (modesStanding s).rtb = s.rtb ∧
    (modesStanding s).ssv = s.ssv ∧ (modesStanding s).sld = s.sld ∧ (modesStanding s).pending = s.pending := by
  simp only [modesStanding]
  repeat' split
  all_goals simp

@[simp] theorem takePosition_keeps (p u : Nat) (s : State) :
    (takePosition p u s).cmc = s.cmc ∧ (takePosition p u s).lps = s.lps ∧ (takePosition p u s).rtb = s.rtb ∧
    (takePosition p u s).brc = s.brc ∧ (takePosition p u s).drc = s.drc ∧ (takePosition p u s).vrl = s.vrl ∧
    (takePosition p u s).hlp = s.hlp ∧ (takePosition p u s).sld = s.sld ∧
    (takePosition p u s).pending = s.pending := by
  simp only [takePosition]
  repeat' split
  all_goals simp

@[simp] theorem resetPosition_keeps (s : State) :
    (resetPosition s).cmc = s.cmc ∧ (resetPosition s).lps = s.lps ∧ (resetPosition s).rtb = s.rtb ∧
    (resetPosition s).sld = s.sld ∧ (resetPosition s).pending = s.pending := by
  simp [resetPosition]

@[simp] theorem putSlot_keeps (i : Nat) (r : Option Restriction) (s : State) :
    (putSlot i r s).cmc = s.cmc ∧ (putSlot i r s).odo = s.odo ∧ (putSlot i r s).lps = s.lps ∧
    (putSlot i r s).ssv = s.ssv ∧ (putSlot i r s).brc = s.brc ∧ (putSlot i r s).drc = s.drc ∧
    (putSlot i r s).vrl = s.vrl ∧ (putSlot i r s).hlp = s.hlp ∧ (putSlot i r s).sld = s.sld ∧
    (putSlot i r s).pending = s.pending := by
  simp [putSlot]

@[simp] theorem noteChange_keeps (b : Bool) (s : State) :
    (noteChange b s).cmc = s.cmc ∧ (noteChange b s).odo = s.odo ∧ (noteChange b s).lps = s.lps ∧
    (noteChange b s).ssv = s.ssv ∧ (noteChange b s).brc = s.brc ∧ (noteChange b s).drc = s.drc ∧
    (noteChange b s).vrl = s.vrl ∧ (noteChange b s).sld = s.sld ∧ (noteChange b s).pending = s.pending := by
  simp only [noteChange]
  repeat' split
  all_goals simp

@[simp] theorem setOverflow_keeps (s : State) :
    (setOverflow s).cmc = s.cmc ∧ (setOverflow s).odo = s.odo ∧ (setOverflow s).lps = s.lps ∧
    (setOverflow s).brc = s.brc ∧ (setOverflow s).drc = s.drc ∧ (setOverflow s).vrl = s.vrl ∧
    (setOverflow s).hlp = s.hlp ∧ (setOverflow s).sld = s.sld ∧ (setOverflow s).pending = s.pending := by
  simp [setOverflow]

@[simp] theorem clearOverflow_keeps (s : State) :
    (clearOverflow s).cmc = s.cmc ∧ (clearOverflow s).odo = s.odo ∧ (clearOverflow s).lps = s.lps ∧
    (clearOverflow s).brc = s.brc ∧ (clearOverflow s).drc = s.drc ∧ (clearOverflow s).vrl = s.vrl ∧
    (clearOverflow s).hlp = s.hlp ∧ (clearOverflow s).sld = s.sld ∧ (clearOverflow s).pending = s.pending := by
  simp [clearOverflow]

@[simp] theorem changeRecords_keeps (c : Restriction → Bool) (f : Restriction → Option Restriction) (s : State) :
    (changeRecords c f s).cmc = s.cmc ∧ (changeRecords c f s).odo = s.odo ∧ (changeRecords c f s).lps = s.lps ∧
    (changeRecords c f s).ssv = s.ssv ∧ (changeRecords c f s).brc = s.brc ∧ (changeRecords c f s).drc = s.drc ∧
    (changeRecords c f s).vrl = s.vrl ∧ (changeRecords c f s).sld = s.sld ∧
    (changeRecords c f s).pending = s.pending := by
  simp only [changeRecords]
  repeat' split
  all_goals simp

@[simp] theorem tickSecond_keeps (s : State) :
    (tickSecond s).cmc = s.cmc ∧ (tickSecond s).odo = s.odo ∧ (tickSecond s).lps = s.lps ∧
    (tickSecond s).ssv = s.ssv ∧ (tickSecond s).brc = s.brc ∧ (tickSecond s).drc = s.drc ∧
    (tickSecond s).vrl = s.vrl ∧ (tickSecond s).sld = s.sld ∧ (tickSecond s).pending = s.pending := by
  simp [tickSecond]

@[simp] theorem expireSlot_keeps (i : Nat) (s : State) :
    (expireSlot i s).cmc = s.cmc ∧ (expireSlot i s).odo = s.odo ∧ (expireSlot i s).lps = s.lps ∧
    (expireSlot i s).ssv = s.ssv ∧ (expireSlot i s).brc = s.brc ∧ (expireSlot i s).drc = s.drc ∧
    (expireSlot i s).vrl = s.vrl ∧ (expireSlot i s).sld = s.sld ∧ (expireSlot i s).pending = s.pending := by
  simp only [expireSlot]
  repeat' split
  all_goals simp

@[simp] theorem checkClearance_keeps (s : State) :
    (checkClearance s).cmc = s.cmc ∧ (checkClearance s).odo = s.odo ∧ (checkClearance s).lps = s.lps ∧
    (checkClearance s).ssv = s.ssv ∧ (checkClearance s).brc = s.brc ∧ (checkClearance s).drc = s.drc ∧
    (checkClearance s).vrl = s.vrl ∧ (checkClearance s).sld = s.sld ∧ (checkClearance s).pending = s.pending := by
  simp [checkClearance]

@[simp] theorem emptyTable_keeps (s : State) :
    (emptyTable s).cmc = s.cmc ∧ (emptyTable s).odo = s.odo ∧ (emptyTable s).lps = s.lps ∧
    (emptyTable s).ssv = s.ssv ∧ (emptyTable s).brc = s.brc ∧ (emptyTable s).drc = s.drc ∧
    (emptyTable s).vrl = s.vrl ∧ (emptyTable s).hlp = s.hlp ∧ (emptyTable s).sld = s.sld ∧
    (emptyTable s).pending = s.pending := by
  simp [emptyTable]

@[simp] theorem setIntervention_keeps (x : Intervention) (s : State) :
    (setIntervention x s).cmc = s.cmc ∧ (setIntervention x s).odo = s.odo ∧ (setIntervention x s).lps = s.lps ∧
    (setIntervention x s).rtb = s.rtb ∧ (setIntervention x s).brc = s.brc ∧ (setIntervention x s).drc = s.drc ∧
    (setIntervention x s).vrl = s.vrl ∧ (setIntervention x s).sld = s.sld ∧
    (setIntervention x s).pending = s.pending := by
  simp only [setIntervention]
  repeat' split
  all_goals simp

@[simp] theorem placeDemand_keeps (l : Option Nat) (s : State) :
    (placeDemand l s).cmc = s.cmc ∧ (placeDemand l s).odo = s.odo ∧ (placeDemand l s).lps = s.lps ∧
    (placeDemand l s).rtb = s.rtb ∧ (placeDemand l s).ssv = s.ssv ∧ (placeDemand l s).drc = s.drc ∧
    (placeDemand l s).vrl = s.vrl ∧ (placeDemand l s).hlp = s.hlp ∧ (placeDemand l s).sld = s.sld ∧
    (placeDemand l s).pending = s.pending := by
  simp [placeDemand]

@[simp] theorem enterEmergency_keeps (s : State) :
    (enterEmergency s).cmc = s.cmc ∧ (enterEmergency s).odo = s.odo ∧ (enterEmergency s).lps = s.lps ∧
    (enterEmergency s).rtb = s.rtb ∧ (enterEmergency s).drc = s.drc ∧ (enterEmergency s).sld = s.sld ∧
    (enterEmergency s).pending = s.pending := by
  simp [enterEmergency]

@[simp] theorem enterServiceIntervention_keeps (s : State) :
    (enterServiceIntervention s).cmc = s.cmc ∧ (enterServiceIntervention s).odo = s.odo ∧
    (enterServiceIntervention s).lps = s.lps ∧ (enterServiceIntervention s).rtb = s.rtb ∧
    (enterServiceIntervention s).drc = s.drc ∧ (enterServiceIntervention s).vrl = s.vrl ∧
    (enterServiceIntervention s).sld = s.sld ∧ (enterServiceIntervention s).pending = s.pending := by
  simp [enterServiceIntervention]

@[simp] theorem endIntervention_keeps (s : State) :
    (endIntervention s).cmc = s.cmc ∧ (endIntervention s).odo = s.odo ∧ (endIntervention s).lps = s.lps ∧
    (endIntervention s).rtb = s.rtb ∧ (endIntervention s).drc = s.drc ∧ (endIntervention s).vrl = s.vrl ∧
    (endIntervention s).sld = s.sld ∧ (endIntervention s).pending = s.pending := by
  simp [endIntervention]

@[simp] theorem evaluate_keeps (v p : Nat) (s : State) :
    (evaluate v p s).cmc = s.cmc ∧ (evaluate v p s).odo = s.odo ∧ (evaluate v p s).lps = s.lps ∧
    (evaluate v p s).rtb = s.rtb ∧ (evaluate v p s).drc = s.drc ∧ (evaluate v p s).sld = s.sld ∧
    (evaluate v p s).pending = s.pending := by
  simp only [evaluate]
  repeat' split
  all_goals simp

@[simp] theorem superviseUpdate_keeps (s : State) :
    (superviseUpdate s).cmc = s.cmc ∧ (superviseUpdate s).odo = s.odo ∧ (superviseUpdate s).lps = s.lps ∧
    (superviseUpdate s).rtb = s.rtb ∧ (superviseUpdate s).drc = s.drc ∧ (superviseUpdate s).sld = s.sld ∧
    (superviseUpdate s).pending = s.pending := by
  simp only [superviseUpdate]
  repeat' split
  all_goals simp

@[simp] theorem clearSupervision_keeps (s : State) :
    (clearSupervision s).cmc = s.cmc ∧ (clearSupervision s).odo = s.odo ∧ (clearSupervision s).lps = s.lps ∧
    (clearSupervision s).rtb = s.rtb ∧ (clearSupervision s).drc = s.drc ∧ (clearSupervision s).vrl = s.vrl ∧
    (clearSupervision s).sld = s.sld ∧ (clearSupervision s).pending = s.pending := by
  simp [clearSupervision]

@[simp] theorem endSupervision_keeps (s : State) :
    (endSupervision s).cmc = s.cmc ∧ (endSupervision s).odo = s.odo ∧ (endSupervision s).lps = s.lps ∧
    (endSupervision s).rtb = s.rtb ∧ (endSupervision s).drc = s.drc ∧ (endSupervision s).vrl = s.vrl ∧
    (endSupervision s).sld = s.sld ∧ (endSupervision s).pending = s.pending := by
  simp [endSupervision]

@[simp] theorem takeAcknowledgement_keeps (s : State) :
    (takeAcknowledgement s).cmc = s.cmc ∧ (takeAcknowledgement s).odo = s.odo ∧
    (takeAcknowledgement s).lps = s.lps ∧ (takeAcknowledgement s).rtb = s.rtb ∧
    (takeAcknowledgement s).drc = s.drc ∧ (takeAcknowledgement s).vrl = s.vrl ∧
    (takeAcknowledgement s).sld = s.sld ∧ (takeAcknowledgement s).pending = s.pending := by
  simp only [takeAcknowledgement]
  repeat' split
  all_goals simp

@[simp] theorem closeWindow_keeps (s : State) :
    (closeWindow s).cmc = s.cmc ∧ (closeWindow s).lps = s.lps ∧ (closeWindow s).rtb = s.rtb ∧
    (closeWindow s).ssv = s.ssv ∧ (closeWindow s).brc = s.brc ∧ (closeWindow s).drc = s.drc ∧
    (closeWindow s).vrl = s.vrl ∧ (closeWindow s).hlp = s.hlp ∧ (closeWindow s).sld = s.sld ∧
    (closeWindow s).pending = s.pending := by
  simp [closeWindow]

@[simp] theorem buildList_keeps (s : State) :
    (buildList s).cmc = s.cmc ∧ (buildList s).odo = s.odo ∧ (buildList s).lps = s.lps ∧
    (buildList s).rtb = s.rtb ∧ (buildList s).ssv = s.ssv ∧ (buildList s).brc = s.brc ∧
    (buildList s).drc = s.drc ∧ (buildList s).hlp = s.hlp ∧ (buildList s).sld = s.sld ∧
    (buildList s).pending = s.pending := by
  simp only [buildList]
  refine ⟨(foldl_keeps (·.cmc) (fun s d => by simp) _ _).trans (by simp),
    (foldl_keeps (·.odo) (fun s d => by simp) _ _).trans (by simp),
    (foldl_keeps (·.lps) (fun s d => by simp) _ _).trans (by simp),
    (foldl_keeps (·.rtb) (fun s d => by simp) _ _).trans (by simp),
    (foldl_keeps (·.ssv) (fun s d => by simp) _ _).trans (by simp),
    (foldl_keeps (·.brc) (fun s d => by simp) _ _).trans (by simp),
    (foldl_keeps (·.drc) (fun s d => by simp) _ _).trans (by simp),
    (foldl_keeps (·.hlp) (fun s d => by simp) _ _).trans (by simp),
    (foldl_keeps (·.sld) (fun s d => by simp) _ _).trans (by simp),
    (foldl_keeps (·.pending) (fun s d => by simp) _ _).trans (by simp)⟩

@[simp] theorem enterUnjoined_keeps (s : State) :
    (enterUnjoined s).cmc = s.cmc ∧ (enterUnjoined s).odo = s.odo ∧ (enterUnjoined s).lps = s.lps ∧
    (enterUnjoined s).rtb = s.rtb ∧ (enterUnjoined s).brc = s.brc ∧ (enterUnjoined s).drc = s.drc ∧
    (enterUnjoined s).sld = s.sld ∧ (enterUnjoined s).pending = s.pending := by
  simp only [enterUnjoined]
  repeat' split
  all_goals simp

@[simp] theorem enterReporting_keeps (s : State) :
    (enterReporting s).cmc = s.cmc ∧ (enterReporting s).odo = s.odo ∧ (enterReporting s).lps = s.lps ∧
    (enterReporting s).rtb = s.rtb ∧ (enterReporting s).ssv = s.ssv ∧ (enterReporting s).brc = s.brc ∧
    (enterReporting s).drc = s.drc ∧ (enterReporting s).sld = s.sld ∧ (enterReporting s).pending = s.pending := by
  simp [enterReporting]

@[simp] theorem enterJoined_keeps (s : State) :
    (enterJoined s).cmc = s.cmc ∧ (enterJoined s).odo = s.odo ∧ (enterJoined s).lps = s.lps ∧
    (enterJoined s).brc = s.brc ∧ (enterJoined s).drc = s.drc ∧ (enterJoined s).sld = s.sld ∧
    (enterJoined s).pending = s.pending := by
  simp [enterJoined]

@[simp] theorem dialogueNakFull_keeps (s : State) :
    (dialogueNakFull s).cmc = s.cmc ∧ (dialogueNakFull s).odo = s.odo ∧ (dialogueNakFull s).lps = s.lps ∧
    (dialogueNakFull s).rtb = s.rtb ∧ (dialogueNakFull s).ssv = s.ssv ∧ (dialogueNakFull s).brc = s.brc ∧
    (dialogueNakFull s).drc = s.drc ∧ (dialogueNakFull s).sld = s.sld ∧ (dialogueNakFull s).pending = s.pending := by
  simp only [dialogueNakFull]
  repeat' split
  all_goals simp

@[simp] theorem transmit_keeps (k : SentKind) (q : Byte) (b : List Byte) (s : State) :
    (transmit k q b s).cmc = s.cmc ∧ (transmit k q b s).odo = s.odo ∧ (transmit k q b s).lps = s.lps ∧
    (transmit k q b s).rtb = s.rtb ∧ (transmit k q b s).ssv = s.ssv ∧ (transmit k q b s).brc = s.brc ∧
    (transmit k q b s).drc = s.drc ∧ (transmit k q b s).hlp = s.hlp ∧ (transmit k q b s).sld = s.sld ∧
    (transmit k q b s).pending = s.pending := by
  simp [transmit]

@[simp] theorem sendPosition_keeps (s : State) :
    (sendPosition s).cmc = s.cmc ∧ (sendPosition s).odo = s.odo ∧ (sendPosition s).lps = s.lps ∧
    (sendPosition s).rtb = s.rtb ∧ (sendPosition s).ssv = s.ssv ∧ (sendPosition s).brc = s.brc ∧
    (sendPosition s).drc = s.drc ∧ (sendPosition s).hlp = s.hlp ∧ (sendPosition s).sld = s.sld ∧
    (sendPosition s).pending = s.pending := by
  simp [sendPosition]

@[simp] theorem noTelegram_keeps (o : WindowOutcome) (s : State) :
    (noTelegram o s).cmc = s.cmc ∧ (noTelegram o s).odo = s.odo ∧ (noTelegram o s).lps = s.lps ∧
    (noTelegram o s).rtb = s.rtb ∧ (noTelegram o s).ssv = s.ssv ∧ (noTelegram o s).brc = s.brc ∧
    (noTelegram o s).drc = s.drc ∧ (noTelegram o s).hlp = s.hlp ∧ (noTelegram o s).sld = s.sld ∧
    (noTelegram o s).pending = s.pending := by
  simp [noTelegram]

@[simp] theorem chooseTelegram_keeps (s : State) :
    (chooseTelegram s).cmc = s.cmc ∧ (chooseTelegram s).odo = s.odo ∧ (chooseTelegram s).lps = s.lps ∧
    (chooseTelegram s).rtb = s.rtb ∧ (chooseTelegram s).brc = s.brc ∧ (chooseTelegram s).drc = s.drc ∧
    (chooseTelegram s).sld = s.sld ∧ (chooseTelegram s).pending = s.pending := by
  simp only [chooseTelegram]
  repeat' split
  all_goals simp

@[simp] theorem startWindow_keeps (s : State) :
    (startWindow s).cmc = s.cmc ∧ (startWindow s).odo = s.odo ∧ (startWindow s).lps = s.lps ∧
    (startWindow s).rtb = s.rtb ∧ (startWindow s).brc = s.brc ∧ (startWindow s).drc = s.drc ∧
    (startWindow s).sld = s.sld ∧ (startWindow s).pending = s.pending := by
  simp only [startWindow]
  repeat' split
  all_goals simp

@[simp] theorem latchError_keeps (e : RadioError) (s : State) :
    (latchError e s).cmc = s.cmc ∧ (latchError e s).odo = s.odo ∧ (latchError e s).lps = s.lps ∧
    (latchError e s).rtb = s.rtb ∧ (latchError e s).ssv = s.ssv ∧ (latchError e s).brc = s.brc ∧
    (latchError e s).drc = s.drc ∧ (latchError e s).sld = s.sld ∧ (latchError e s).pending = s.pending := by
  simp [latchError]

@[simp] theorem takeBeacon_keeps (f : BeaconFields) (s : State) :
    (takeBeacon f s).cmc = s.cmc ∧ (takeBeacon f s).odo = s.odo ∧ (takeBeacon f s).lps = s.lps ∧
    (takeBeacon f s).rtb = s.rtb ∧ (takeBeacon f s).brc = s.brc ∧ (takeBeacon f s).drc = s.drc ∧
    (takeBeacon f s).sld = s.sld ∧ (takeBeacon f s).pending = s.pending := by
  simp only [takeBeacon]
  repeat' split
  all_goals simp

@[simp] theorem takeSyncDone_keeps (a : Byte) (s : State) :
    (takeSyncDone a s).cmc = s.cmc ∧ (takeSyncDone a s).odo = s.odo ∧ (takeSyncDone a s).lps = s.lps ∧
    (takeSyncDone a s).brc = s.brc ∧ (takeSyncDone a s).drc = s.drc ∧ (takeSyncDone a s).sld = s.sld ∧
    (takeSyncDone a s).pending = s.pending := by
  simp only [takeSyncDone]
  repeat' split
  all_goals simp

@[simp] theorem takeAck_keeps (q : Byte) (s : State) :
    (takeAck q s).cmc = s.cmc ∧ (takeAck q s).odo = s.odo ∧ (takeAck q s).lps = s.lps ∧
    (takeAck q s).rtb = s.rtb ∧ (takeAck q s).ssv = s.ssv ∧ (takeAck q s).brc = s.brc ∧
    (takeAck q s).drc = s.drc ∧ (takeAck q s).hlp = s.hlp ∧ (takeAck q s).sld = s.sld ∧
    (takeAck q s).pending = s.pending := by
  simp only [takeAck]
  repeat' split
  all_goals simp

@[simp] theorem noticeAttention_keeps (s : State) :
    (noticeAttention s).cmc = s.cmc ∧ (noticeAttention s).odo = s.odo ∧ (noticeAttention s).lps = s.lps ∧
    (noticeAttention s).rtb = s.rtb ∧ (noticeAttention s).ssv = s.ssv ∧ (noticeAttention s).brc = s.brc ∧
    (noticeAttention s).drc = s.drc ∧ (noticeAttention s).vrl = s.vrl ∧ (noticeAttention s).sld = s.sld ∧
    (noticeAttention s).pending = s.pending := by
  simp only [noticeAttention]
  repeat' split
  all_goals simp

@[simp] theorem takeNotice_keeps (a n : Byte) (t : List Byte) (s : State) :
    (takeNotice a n t s).cmc = s.cmc ∧ (takeNotice a n t s).odo = s.odo ∧ (takeNotice a n t s).lps = s.lps ∧
    (takeNotice a n t s).rtb = s.rtb ∧ (takeNotice a n t s).ssv = s.ssv ∧ (takeNotice a n t s).brc = s.brc ∧
    (takeNotice a n t s).drc = s.drc ∧ (takeNotice a n t s).sld = s.sld ∧
    (takeNotice a n t s).pending = s.pending := by
  simp only [takeNotice]
  repeat' split
  all_goals simp

@[simp] theorem takeRestrictTelegram_keeps (f : RestrictFields) (b : Bool) (s : State) :
    (takeRestrictTelegram f b s).cmc = s.cmc ∧ (takeRestrictTelegram f b s).odo = s.odo ∧
    (takeRestrictTelegram f b s).lps = s.lps ∧ (takeRestrictTelegram f b s).brc = s.brc ∧
    (takeRestrictTelegram f b s).drc = s.drc ∧ (takeRestrictTelegram f b s).sld = s.sld ∧
    (takeRestrictTelegram f b s).pending = s.pending := by
  simp only [takeRestrictTelegram]
  repeat' split
  all_goals simp

@[simp] theorem takeRevokeTelegram_keeps (i : Half) (q : Byte) (s : State) :
    (takeRevokeTelegram i q s).cmc = s.cmc ∧ (takeRevokeTelegram i q s).odo = s.odo ∧
    (takeRevokeTelegram i q s).lps = s.lps ∧ (takeRevokeTelegram i q s).ssv = s.ssv ∧
    (takeRevokeTelegram i q s).brc = s.brc ∧ (takeRevokeTelegram i q s).drc = s.drc ∧
    (takeRevokeTelegram i q s).sld = s.sld ∧ (takeRevokeTelegram i q s).pending = s.pending := by
  simp [takeRevokeTelegram]

@[simp] theorem handTelegram_keeps (a : Byte) (b : Bool) (t : Telegram) (s : State) :
    (handTelegram a b t s).cmc = s.cmc ∧ (handTelegram a b t s).odo = s.odo ∧
    (handTelegram a b t s).lps = s.lps ∧ (handTelegram a b t s).sld = s.sld ∧
    (handTelegram a b t s).pending = s.pending := by
  cases t <;> simp only [handTelegram, throughGate] <;> (repeat' split) <;> simp

@[simp] theorem dropForeign_keeps (s : State) :
    (dropForeign s).cmc = s.cmc ∧ (dropForeign s).odo = s.odo ∧ (dropForeign s).lps = s.lps ∧
    (dropForeign s).rtb = s.rtb ∧ (dropForeign s).ssv = s.ssv ∧ (dropForeign s).brc = s.brc ∧
    (dropForeign s).drc = s.drc ∧ (dropForeign s).hlp = s.hlp ∧ (dropForeign s).sld = s.sld ∧
    (dropForeign s).pending = s.pending := by
  simp [dropForeign]

@[simp] theorem dropMalformed_keeps (s : State) :
    (dropMalformed s).cmc = s.cmc ∧ (dropMalformed s).odo = s.odo ∧ (dropMalformed s).lps = s.lps ∧
    (dropMalformed s).rtb = s.rtb ∧ (dropMalformed s).ssv = s.ssv ∧ (dropMalformed s).brc = s.brc ∧
    (dropMalformed s).drc = s.drc ∧ (dropMalformed s).hlp = s.hlp ∧ (dropMalformed s).sld = s.sld ∧
    (dropMalformed s).pending = s.pending := by
  simp [dropMalformed]

@[simp] theorem noteValid_keeps (a q : Byte) (s : State) :
    (noteValid a q s).cmc = s.cmc ∧ (noteValid a q s).odo = s.odo ∧ (noteValid a q s).lps = s.lps ∧
    (noteValid a q s).rtb = s.rtb ∧ (noteValid a q s).ssv = s.ssv ∧ (noteValid a q s).brc = s.brc ∧
    (noteValid a q s).drc = s.drc ∧ (noteValid a q s).hlp = s.hlp ∧ (noteValid a q s).sld = s.sld ∧
    (noteValid a q s).pending = s.pending := by
  simp [noteValid]

@[simp] theorem judgeHeader_keeps (h : Header) (t : Option Telegram) (b : Bool) (s : State) :
    (judgeHeader h t b s).cmc = s.cmc ∧ (judgeHeader h t b s).odo = s.odo ∧ (judgeHeader h t b s).lps = s.lps ∧
    (judgeHeader h t b s).sld = s.sld ∧ (judgeHeader h t b s).pending = s.pending := by
  simp only [judgeHeader]
  repeat' split
  all_goals simp

@[simp] theorem judgeFrame_keeps (f : Frame) (s : State) :
    (judgeFrame f s).cmc = s.cmc ∧ (judgeFrame f s).odo = s.odo ∧ (judgeFrame f s).lps = s.lps ∧
    (judgeFrame f s).sld = s.sld ∧ (judgeFrame f s).pending = s.pending := by
  simp only [judgeFrame]
  repeat' split
  all_goals simp

@[simp] theorem telegramArrives_keeps (h : Header) (t : Telegram) (b : Bool) (s : State) :
    (telegramArrives h t b s).cmc = s.cmc ∧ (telegramArrives h t b s).odo = s.odo ∧
    (telegramArrives h t b s).lps = s.lps ∧ (telegramArrives h t b s).sld = s.sld ∧
    (telegramArrives h t b s).pending = s.pending := by
  simp only [telegramArrives]
  repeat' split
  all_goals simp

@[simp] theorem dropBadLength_keeps (s : State) :
    (dropBadLength s).cmc = s.cmc ∧ (dropBadLength s).odo = s.odo ∧ (dropBadLength s).lps = s.lps ∧
    (dropBadLength s).rtb = s.rtb ∧ (dropBadLength s).ssv = s.ssv ∧ (dropBadLength s).brc = s.brc ∧
    (dropBadLength s).drc = s.drc ∧ (dropBadLength s).sld = s.sld ∧ (dropBadLength s).pending = s.pending := by
  simp [dropBadLength]

@[simp] theorem dropBadCheck_keeps (s : State) :
    (dropBadCheck s).cmc = s.cmc ∧ (dropBadCheck s).odo = s.odo ∧ (dropBadCheck s).lps = s.lps ∧
    (dropBadCheck s).rtb = s.rtb ∧ (dropBadCheck s).ssv = s.ssv ∧ (dropBadCheck s).brc = s.brc ∧
    (dropBadCheck s).drc = s.drc ∧ (dropBadCheck s).sld = s.sld ∧ (dropBadCheck s).pending = s.pending := by
  simp [dropBadCheck]

@[simp] theorem completeFrame_keeps (l : Byte) (o : List Byte) (c : Half) (s : State) :
    (completeFrame l o c s).cmc = s.cmc ∧ (completeFrame l o c s).odo = s.odo ∧
    (completeFrame l o c s).lps = s.lps ∧ (completeFrame l o c s).sld = s.sld ∧
    (completeFrame l o c s).pending = s.pending := by
  simp only [completeFrame]
  repeat' split
  all_goals simp

@[simp] theorem takeBit_keeps (b : Bool) (s : State) :
    (takeBit b s).cmc = s.cmc ∧ (takeBit b s).odo = s.odo ∧ (takeBit b s).lps = s.lps ∧
    (takeBit b s).sld = s.sld ∧ (takeBit b s).pending = s.pending := by
  simp only [takeBit]
  repeat' split
  all_goals simp

@[simp] theorem resetRadio_keeps (s : State) :
    (resetRadio s).cmc = s.cmc ∧ (resetRadio s).odo = s.odo ∧ (resetRadio s).lps = s.lps ∧
    (resetRadio s).rtb = s.rtb ∧ (resetRadio s).brc = s.brc ∧ (resetRadio s).drc = s.drc ∧
    (resetRadio s).sld = s.sld ∧ (resetRadio s).pending = s.pending := by
  simp [resetRadio]

@[simp] theorem storeMode_keeps (m : Mode) (s : State) :
    (storeMode m s).lps = s.lps ∧ (storeMode m s).rtb = s.rtb ∧ (storeMode m s).brc = s.brc ∧
    (storeMode m s).drc = s.drc ∧ (storeMode m s).vrl = s.vrl ∧ (storeMode m s).hlp = s.hlp ∧
    (storeMode m s).sld = s.sld ∧ (storeMode m s).pending = s.pending := by
  simp [storeMode]

@[simp] theorem changeMode_keeps (m : Mode) (s : State) :
    (changeMode m s).lps = s.lps ∧ (changeMode m s).rtb = s.rtb ∧ (changeMode m s).sld = s.sld ∧
    (changeMode m s).pending = s.pending := by
  simp only [changeMode]
  repeat' split
  all_goals simp

@[simp] theorem changeDirection_keeps (d : Selected) (s : State) :
    (changeDirection d s).lps = s.lps ∧ (changeDirection d s).rtb = s.rtb ∧ (changeDirection d s).ssv = s.ssv ∧
    (changeDirection d s).drc = s.drc ∧ (changeDirection d s).vrl = s.vrl ∧ (changeDirection d s).hlp = s.hlp ∧
    (changeDirection d s).sld = s.sld ∧ (changeDirection d s).pending = s.pending := by
  simp [changeDirection]

@[simp] theorem holdPending_keeps (n v : Nat) (s : State) :
    (holdPending n v s).odo = s.odo ∧ (holdPending n v s).lps = s.lps ∧ (holdPending n v s).rtb = s.rtb ∧
    (holdPending n v s).ssv = s.ssv ∧ (holdPending n v s).brc = s.brc ∧ (holdPending n v s).drc = s.drc ∧
    (holdPending n v s).vrl = s.vrl ∧ (holdPending n v s).hlp = s.hlp ∧ (holdPending n v s).sld = s.sld ∧
    (holdPending n v s).pending = s.pending := by
  simp [holdPending]

@[simp] theorem resetModes_keeps (s : State) :
    (resetModes s).lps = s.lps ∧ (resetModes s).rtb = s.rtb ∧ (resetModes s).sld = s.sld ∧
    (resetModes s).pending = s.pending := by
  simp only [resetModes]
  repeat' split
  all_goals simp

@[simp] theorem dropOverflowCause_keeps (s : State) :
    (dropOverflowCause s).cmc = s.cmc ∧ (dropOverflowCause s).odo = s.odo ∧ (dropOverflowCause s).lps = s.lps ∧
    (dropOverflowCause s).rtb = s.rtb ∧ (dropOverflowCause s).brc = s.brc ∧ (dropOverflowCause s).drc = s.drc ∧
    (dropOverflowCause s).vrl = s.vrl ∧ (dropOverflowCause s).hlp = s.hlp ∧ (dropOverflowCause s).sld = s.sld ∧
    (dropOverflowCause s).pending = s.pending := by
  simp [dropOverflowCause]

@[simp] theorem resetTable_keeps (s : State) :
    (resetTable s).cmc = s.cmc ∧ (resetTable s).odo = s.odo ∧ (resetTable s).lps = s.lps ∧
    (resetTable s).brc = s.brc ∧ (resetTable s).drc = s.drc ∧ (resetTable s).vrl = s.vrl ∧
    (resetTable s).hlp = s.hlp ∧ (resetTable s).sld = s.sld ∧ (resetTable s).pending = s.pending := by
  simp only [resetTable]
  split <;> simp

@[simp] theorem resetBrakes_keeps (s : State) :
    (resetBrakes s).cmc = s.cmc ∧ (resetBrakes s).odo = s.odo ∧ (resetBrakes s).lps = s.lps ∧
    (resetBrakes s).rtb = s.rtb ∧ (resetBrakes s).ssv = s.ssv ∧ (resetBrakes s).drc = s.drc ∧
    (resetBrakes s).vrl = s.vrl ∧ (resetBrakes s).sld = s.sld ∧ (resetBrakes s).pending = s.pending := by
  simp [resetBrakes]

@[simp] theorem resetLink_keeps (s : State) :
    (resetLink s).cmc = s.cmc ∧ (resetLink s).odo = s.odo ∧ (resetLink s).lps = s.lps ∧
    (resetLink s).rtb = s.rtb ∧ (resetLink s).brc = s.brc ∧ (resetLink s).drc = s.drc ∧
    (resetLink s).sld = s.sld ∧ (resetLink s).pending = s.pending := by
  simp only [resetLink]
  repeat' split
  all_goals simp

@[simp] theorem placeResetDone_keeps (s : State) :
    (placeResetDone s).cmc = s.cmc ∧ (placeResetDone s).odo = s.odo ∧ (placeResetDone s).lps = s.lps ∧
    (placeResetDone s).rtb = s.rtb ∧ (placeResetDone s).ssv = s.ssv ∧ (placeResetDone s).brc = s.brc ∧
    (placeResetDone s).drc = s.drc ∧ (placeResetDone s).vrl = s.vrl ∧ (placeResetDone s).sld = s.sld ∧
    (placeResetDone s).pending = s.pending := by
  simp only [placeResetDone]
  repeat' split
  all_goals simp

@[simp] theorem profileLost_keeps (s : State) :
    (profileLost s).cmc = s.cmc ∧ (profileLost s).lps = s.lps ∧ (profileLost s).rtb = s.rtb ∧
    (profileLost s).sld = s.sld ∧ (profileLost s).pending = s.pending := by
  simp [profileLost]

@[simp] theorem beginLoad_keeps (c l : Nat) (s : State) :
    (beginLoad c l s).cmc = s.cmc ∧ (beginLoad c l s).odo = s.odo ∧ (beginLoad c l s).rtb = s.rtb ∧
    (beginLoad c l s).ssv = s.ssv ∧ (beginLoad c l s).brc = s.brc ∧ (beginLoad c l s).drc = s.drc ∧
    (beginLoad c l s).vrl = s.vrl ∧ (beginLoad c l s).hlp = s.hlp ∧ (beginLoad c l s).sld = s.sld ∧
    (beginLoad c l s).pending = s.pending := by
  simp [beginLoad]

@[simp] theorem finishLoad_keeps (s : State) :
    (finishLoad s).cmc = s.cmc ∧ (finishLoad s).odo = s.odo ∧ (finishLoad s).rtb = s.rtb ∧
    (finishLoad s).ssv = s.ssv ∧ (finishLoad s).sld = s.sld ∧ (finishLoad s).pending = s.pending := by
  simp only [finishLoad]
  repeat' split
  all_goals simp

@[simp] theorem storeSegment_keeps (r : SegmentRecord) (s : State) :
    (storeSegment r s).cmc = s.cmc ∧ (storeSegment r s).odo = s.odo ∧ (storeSegment r s).rtb = s.rtb ∧
    (storeSegment r s).ssv = s.ssv ∧ (storeSegment r s).brc = s.brc ∧ (storeSegment r s).drc = s.drc ∧
    (storeSegment r s).vrl = s.vrl ∧ (storeSegment r s).hlp = s.hlp ∧ (storeSegment r s).sld = s.sld ∧
    (storeSegment r s).pending = s.pending := by
  simp [storeSegment]

end Sys2Proof.Machine
end

