-- ==== Sys2Proof/Laws/State.lean ====
section
/-! SUPPORT. The small lemmas of the plain updates: what a named update writes, and that what one access writes the
same access reads and another does not. -/

namespace Sys2Proof

@[simp] theorem PerDrive.get_set_self {α : Type} (p : PerDrive α) (d : Drive) (a : α) : (p.set d a).get d = a := by
  cases d <;> rfl

@[simp] theorem PerDrive.get_set_other {α : Type} (p : PerDrive α) {d e : Drive} (a : α) (h : e ≠ d) :
    (p.set d a).get e = p.get e := by
  cases d <;> cases e <;> first | rfl | exact absurd rfl h

@[simp] theorem PerDrive.get_of {α : Type} (f : Drive → α) (d : Drive) : (PerDrive.of f).get d = f d := by
  cases d <;> rfl

@[simp] theorem Table.get_set_self {α : Type} {n : Nat} (t : Table α n) {i : Nat} (a : α) (h : i < n) :
    (t.set i a).get? i = some a := by
  simp [Table.get?, Table.set, t.len, h]

@[simp] theorem Table.get_set_other {α : Type} {n : Nat} (t : Table α n) {i j : Nat} (a : α) (h : j ≠ i) :
    (t.set i a).get? j = t.get? j := by
  simp [Table.get?, Table.set, Ne.symm h]

namespace Machine

/-! ### Channels, sets and step outcomes -/

@[simp] theorem Brakes.channel_setChannel_self (b : Brakes) (c : Channel) (x : ChannelState) :
    (b.setChannel c x).channel c = x := by
  cases c <;> rfl

@[simp] theorem Brakes.channel_setChannel_other (b : Brakes) {c d : Channel} (x : ChannelState) (h : d ≠ c) :
    (b.setChannel c x).channel d = b.channel d := by
  cases c <;> cases d <;> first | rfl | exact absurd rfl h

/-- Writing a channel leaves everything of BRC that is no channel alone. -/
@[simp] theorem Brakes.setChannel_keeps (b : Brakes) (c : Channel) (x : ChannelState) :
    (b.setChannel c x).setpoint = b.setpoint ∧ (b.setChannel c x).releaseValve = b.releaseValve ∧
    (b.setChannel c x).dumpValve = b.dumpValve ∧ (b.setChannel c x).servicePressure = b.servicePressure ∧
    (b.setChannel c x).holdingPressure = b.holdingPressure ∧ (b.setChannel c x).bandClosed = b.bandClosed ∧
    (b.setChannel c x).loopClosed = b.loopClosed ∧ (b.setChannel c x).demands = b.demands ∧
    (b.setChannel c x).driverLevel = b.driverLevel ∧ (b.setChannel c x).hold = b.hold ∧
    (b.setChannel c x).hostHold = b.hostHold ∧ (b.setChannel c x).confirmed = b.confirmed ∧
    (b.setChannel c x).permit = b.permit ∧ (b.setChannel c x).latch = b.latch ∧
    (b.setChannel c x).test = b.test ∧ (b.setChannel c x).result = b.result := by
  cases c <;> simp [Brakes.setChannel]

@[simp] theorem BlanketSet.has_put_self (t : BlanketSet) (p : Bool) (b : Blanket) : (t.put p b).has b = p := by
  cases b <;> rfl

@[simp] theorem BlanketSet.has_put_other (t : BlanketSet) (p : Bool) {b c : Blanket} (h : c ≠ b) :
    (t.put p b).has c = t.has c := by
  cases b <;> cases c <;> first | rfl | exact absurd rfl h

@[simp] theorem LatchSet.has_add (t : LatchSet) (c d : LatchCause) :
    (t.add c).has d = (decide (c = d) || t.has d) := by
  cases c <;> cases d <;> rfl

@[simp] theorem LatchSet.any_add (t : LatchSet) (c : LatchCause) : (t.add c).any = true := by
  cases c <;> simp [LatchSet.any, LatchCause.all, LatchSet.add, LatchSet.has]

@[simp] theorem LatchSet.any_empty : LatchSet.empty.any = false := rfl

/-- The latch is set when a cause is held. -/
theorem LatchSet.any_of_has {t : LatchSet} {c : LatchCause} (h : t.has c = true) : t.any = true := by
  simp only [LatchSet.any, List.any_eq_true]
  exact ⟨c, by cases c <;> simp [LatchCause.all], h⟩

@[simp] theorem AttentionSet.has_add (t : AttentionSet) (c d : Attention) :
    (t.add c).has d = (decide (c = d) || t.has d) := by
  cases c <;> cases d <;> rfl

/-! ### What the plain updates write -/

@[simp] theorem raise_attention (c : Attention) (s : State) :
    (raise c s).hlp.attention = s.hlp.attention.add c := rfl

@[simp] theorem raise_slot (c : Attention) (s : State) :
    (raise c s).hlp.slot = s.hlp.slot ∧ (raise c s).hlp.mask = s.hlp.mask ∧ (raise c s).hlp.sdo = s.hlp.sdo :=
  ⟨rfl, rfl, rfl⟩

@[simp] theorem place_slot (q : Byte) (lost : Bool) (r : Reply) (s : State) :
    (place q lost r s).hlp.slot = .unread ⟨q, r.code, r.detail, lost, r.body⟩ := rfl

@[simp] theorem place_rest (q : Byte) (lost : Bool) (r : Reply) (s : State) :
    (place q lost r s).hlp.attention = s.hlp.attention ∧ (place q lost r s).hlp.mask = s.hlp.mask ∧
    (place q lost r s).hlp.sdo = s.hlp.sdo := ⟨rfl, rfl, rfl⟩

@[simp] theorem quietSdo_hlp (s : State) :
    (quietSdo s).hlp.sdo = [] ∧ (quietSdo s).hlp.slot = s.hlp.slot ∧
    (quietSdo s).hlp.attention = s.hlp.attention ∧ (quietSdo s).hlp.mask = s.hlp.mask := ⟨rfl, rfl, rfl, rfl⟩

@[simp] theorem putBlanket_blankets (p : Bool) (b : Blanket) (s : State) :
    (putBlanket p b s).ssv.blankets = s.ssv.blankets.put p b := rfl

@[simp] theorem putBlanket_rest (p : Bool) (b : Blanket) (s : State) :
    (putBlanket p b s).ssv.permitted = s.ssv.permitted ∧ (putBlanket p b s).ssv.state = s.ssv.state ∧
    (putBlanket p b s).ssv.acknowledged = s.ssv.acknowledged ∧ (putBlanket p b s).ssv.released = s.ssv.released ∧
    (putBlanket p b s).ssv.overspeed = s.ssv.overspeed ∧ (putBlanket p b s).ssv.record = s.ssv.record ∧
    (putBlanket p b s).ssv.resetView = s.ssv.resetView := ⟨rfl, rfl, rfl, rfl, rfl, rfl, rfl⟩

@[simp] theorem setLeaf_leaves (d : Drive) (l : Leaf) (s : State) :
    (setLeaf d l s).drc.leaves = s.drc.leaves.set d (some l) := rfl

@[simp] theorem setLeaf_rest (d : Drive) (l : Leaf) (s : State) :
    (setLeaf d l s).drc.inputs = s.drc.inputs ∧ (setLeaf d l s).drc.release = s.drc.release ∧
    (setLeaf d l s).drc.inForce = s.drc.inForce ∧ (setLeaf d l s).drc.gangLeft = s.drc.gangLeft ∧
    (setLeaf d l s).drc.gangRight = s.drc.gangRight ∧ (setLeaf d l s).drc.doorHold = s.drc.doorHold :=
  ⟨rfl, rfl, rfl, rfl, rfl, rfl⟩

/-- The response slot of a state that is not resetting holds no LINE_RESET (R196). -/
theorem not_resetting_iff (s : State) : s.resetting = false ↔ ∀ lost, s.hlp.slot ≠ .pending lost := by
  unfold State.resetting
  cases s.hlp.slot <;> simp

end Machine

end Sys2Proof
end

