-- ==== Sys2Proof/Laws/Operations.lean ====
section
/-! SUPPORT. What the shared operations do, said once: a proof about a command cites these and does not unfold them. -/

namespace Sys2Proof.Machine

/-! ### Requests (R194, R196) -/

/-- A request outside a LINE_RESET: its owner's reply stands in the slot, with LOST as the slot was before. -/
theorem request_slot (q : Byte) (owner : State → Reply × State) (s : State) (h : s.resetting = false) :
    (request q owner s).hlp.slot =
      .unread ⟨q, (owner s).1.code, (owner s).1.detail, s.hlp.slot.isUnread, (owner s).1.body⟩ := by
  simp [request, h]

/-- A request while a LINE_RESET is in progress is ignored; the part sends 00h. -/
theorem request_resetting (q : Byte) (owner : State → Reply × State) (s : State) (h : s.resetting = true) :
    request q owner s = quietSdo s := by
  simp [request, h]

/-- A request outside a LINE_RESET leaves of the state what its owner leaves, but for the slot and SDO. -/
theorem request_eq (q : Byte) (owner : State → Reply × State) (s : State) (h : s.resetting = false) :
    request q owner s = quietSdo (place q s.hlp.slot.isUnread (owner s).1 (owner s).2) := by
  simp [request, h]

/-- In the transaction of a request the part sends 00h alone (R194). -/
@[simp] theorem request_sdo (q : Byte) (owner : State → Reply × State) (s : State) :
    (request q owner s).hlp.sdo = [] := rfl

/-! ### BRC's evaluation (R117, R119, R122) -/

/-- What a channel's check leaves of BRC. -/
@[simp] theorem outputChanged_brc (c : Channel) (s : State) :
    (outputChanged c s).brc.setpoint = s.brc.setpoint ∧
    (outputChanged c s).brc.releaseValve = s.brc.releaseValve ∧ (outputChanged c s).brc.dumpValve = s.brc.dumpValve ∧
    (outputChanged c s).brc.servicePressure = s.brc.servicePressure ∧
    (outputChanged c s).brc.holdingPressure = s.brc.holdingPressure ∧
    (outputChanged c s).brc.bandClosed = s.brc.bandClosed ∧ (outputChanged c s).brc.loopClosed = s.brc.loopClosed ∧
    (outputChanged c s).brc.demands = s.brc.demands ∧ (outputChanged c s).brc.driverLevel = s.brc.driverLevel ∧
    (outputChanged c s).brc.hold = s.brc.hold ∧ (outputChanged c s).brc.hostHold = s.brc.hostHold ∧
    (outputChanged c s).brc.confirmed = s.brc.confirmed ∧ (outputChanged c s).brc.permit = s.brc.permit ∧
    (outputChanged c s).brc.latch = s.brc.latch ∧ (outputChanged c s).brc.test = s.brc.test ∧
    (outputChanged c s).brc.result = s.brc.result := by
  simp only [outputChanged]
  split <;> simp [setSupervision]

/-- A channel's check leaves every channel's health. -/
@[simp] theorem outputChanged_health (c d : Channel) (s : State) :
    ((outputChanged c s).brc.channel d).health = (s.brc.channel d).health := by
  simp only [outputChanged]
  split
  · rfl
  · by_cases h : d = c <;> simp [setSupervision, h]

/-- Driving the setpoint writes it and leaves the rest of BRC but the supervision of its channel. -/
@[simp] theorem driveSetpoint_brc (v : Nat) (s : State) :
    (driveSetpoint v s).brc.setpoint = v ∧ (driveSetpoint v s).brc.releaseValve = s.brc.releaseValve ∧
    (driveSetpoint v s).brc.dumpValve = s.brc.dumpValve ∧
    (driveSetpoint v s).brc.servicePressure = s.brc.servicePressure ∧
    (driveSetpoint v s).brc.holdingPressure = s.brc.holdingPressure ∧
    (driveSetpoint v s).brc.bandClosed = s.brc.bandClosed ∧
    (driveSetpoint v s).brc.loopClosed = s.brc.loopClosed ∧ (driveSetpoint v s).brc.demands = s.brc.demands ∧
    (driveSetpoint v s).brc.driverLevel = s.brc.driverLevel ∧ (driveSetpoint v s).brc.hold = s.brc.hold ∧
    (driveSetpoint v s).brc.hostHold = s.brc.hostHold ∧ (driveSetpoint v s).brc.confirmed = s.brc.confirmed ∧
    (driveSetpoint v s).brc.permit = s.brc.permit ∧ (driveSetpoint v s).brc.latch = s.brc.latch ∧
    (driveSetpoint v s).brc.test = s.brc.test ∧ (driveSetpoint v s).brc.result = s.brc.result := by
  simp only [driveSetpoint]
  split
  · simp_all
  · simp

@[simp] theorem driveSetpoint_health (v : Nat) (c : Channel) (s : State) :
    ((driveSetpoint v s).brc.channel c).health = (s.brc.channel c).health := by
  simp only [driveSetpoint]
  split
  · rfl
  · rw [outputChanged_health]; cases c <;> rfl

/-- Driving HRLS writes it and leaves the rest of BRC but the supervision of its channel. -/
@[simp] theorem driveReleaseValve_brc (v : Bool) (s : State) :
    (driveReleaseValve v s).brc.setpoint = s.brc.setpoint ∧ (driveReleaseValve v s).brc.releaseValve = v ∧
    (driveReleaseValve v s).brc.dumpValve = s.brc.dumpValve ∧
    (driveReleaseValve v s).brc.servicePressure = s.brc.servicePressure ∧
    (driveReleaseValve v s).brc.holdingPressure = s.brc.holdingPressure ∧
    (driveReleaseValve v s).brc.bandClosed = s.brc.bandClosed ∧
    (driveReleaseValve v s).brc.loopClosed = s.brc.loopClosed ∧
    (driveReleaseValve v s).brc.demands = s.brc.demands ∧
    (driveReleaseValve v s).brc.driverLevel = s.brc.driverLevel ∧
    (driveReleaseValve v s).brc.hold = s.brc.hold ∧ (driveReleaseValve v s).brc.hostHold = s.brc.hostHold ∧
    (driveReleaseValve v s).brc.confirmed = s.brc.confirmed ∧
    (driveReleaseValve v s).brc.permit = s.brc.permit ∧ (driveReleaseValve v s).brc.latch = s.brc.latch ∧
    (driveReleaseValve v s).brc.test = s.brc.test ∧ (driveReleaseValve v s).brc.result = s.brc.result := by
  simp only [driveReleaseValve]
  split
  · simp_all
  · simp

@[simp] theorem driveReleaseValve_health (v : Bool) (c : Channel) (s : State) :
    ((driveReleaseValve v s).brc.channel c).health = (s.brc.channel c).health := by
  simp only [driveReleaseValve]
  split
  · rfl
  · rw [outputChanged_health]; cases c <;> rfl

/-- Driving DUMP writes it and leaves the rest of BRC but the supervision of its channel. -/
@[simp] theorem driveDumpValve_brc (v : Bool) (s : State) :
    (driveDumpValve v s).brc.setpoint = s.brc.setpoint ∧
    (driveDumpValve v s).brc.releaseValve = s.brc.releaseValve ∧ (driveDumpValve v s).brc.dumpValve = v ∧
    (driveDumpValve v s).brc.servicePressure = s.brc.servicePressure ∧
    (driveDumpValve v s).brc.holdingPressure = s.brc.holdingPressure ∧
    (driveDumpValve v s).brc.bandClosed = s.brc.bandClosed ∧
    (driveDumpValve v s).brc.loopClosed = s.brc.loopClosed ∧ (driveDumpValve v s).brc.demands = s.brc.demands ∧
    (driveDumpValve v s).brc.driverLevel = s.brc.driverLevel ∧ (driveDumpValve v s).brc.hold = s.brc.hold ∧
    (driveDumpValve v s).brc.hostHold = s.brc.hostHold ∧ (driveDumpValve v s).brc.confirmed = s.brc.confirmed ∧
    (driveDumpValve v s).brc.permit = s.brc.permit ∧ (driveDumpValve v s).brc.latch = s.brc.latch ∧
    (driveDumpValve v s).brc.test = s.brc.test ∧ (driveDumpValve v s).brc.result = s.brc.result := by
  simp only [driveDumpValve]
  split
  · simp_all
  · simp

@[simp] theorem driveDumpValve_health (v : Bool) (c : Channel) (s : State) :
    ((driveDumpValve v s).brc.channel c).health = (s.brc.channel c).health := by
  simp only [driveDumpValve]
  split
  · rfl
  · rw [outputChanged_health]; cases c <;> rfl

/-- What `settle` makes of BRC: the three outputs, the demands and the permit that the sources give. -/
theorem settle_brc (s : State) :
    (settle s).brc.setpoint = largestDemand (formedDemands s) ∧
    (settle s).brc.releaseValve = formedReleaseValve s ∧ (settle s).brc.dumpValve = formedDumpValve s ∧
    (settle s).brc.demands = formedDemands s ∧ (settle s).brc.hold = formedHolding s ∧
    (settle s).brc.permit = permitCondition s := by
  simp [settle, formDemands]

/-- What `settle` leaves of BRC. -/
@[simp] theorem settle_keeps_brc (s : State) :
    (settle s).brc.latch = s.brc.latch ∧ (settle s).brc.test = s.brc.test ∧
    (settle s).brc.result = s.brc.result ∧ (settle s).brc.driverLevel = s.brc.driverLevel ∧
    (settle s).brc.hostHold = s.brc.hostHold ∧ (settle s).brc.confirmed = s.brc.confirmed ∧
    (settle s).brc.loopClosed = s.brc.loopClosed ∧ (settle s).brc.servicePressure = s.brc.servicePressure ∧
    (settle s).brc.holdingPressure = s.brc.holdingPressure ∧ (settle s).brc.bandClosed = s.brc.bandClosed := by
  simp [settle, formDemands]

/-- `settle` leaves every channel's health. -/
@[simp] theorem settle_health (c : Channel) (s : State) :
    ((settle s).brc.channel c).health = (s.brc.channel c).health := by
  simp only [settle, driveDumpValve_health, driveReleaseValve_health, driveSetpoint_health]
  cases c <;> rfl

/-- After `settle` the brakes are as the sources give them. -/
theorem settle_settled (s : State) : BrakesSettled (settle s) := by
  obtain ⟨h1, h2, h3, h4, h5, h6⟩ := settle_brc s
  simp [BrakesSettled, h1, h2, h3, h4, h5, h6, formedDemands, formedHolding, permitCondition, formedReleaseValve,
    formedDumpValve, State.standing, State.testing]

/-! ### The emergency latch (R123, R124) -/

/-- What the abort of a brake test leaves of BRC's sources. -/
@[simp] theorem abortTest_brc (r : AbortReason) (s : State) :
    (abortTest r s).brc.test = none ∧ (abortTest r s).brc.latch = s.brc.latch ∧
    (abortTest r s).brc.driverLevel = s.brc.driverLevel ∧ (abortTest r s).brc.hostHold = s.brc.hostHold ∧
    (abortTest r s).brc.confirmed = s.brc.confirmed ∧ (abortTest r s).brc.loopClosed = s.brc.loopClosed := by
  simp only [abortTest]
  split
  · simp_all
  · simp [testOver, resumeSupervision]

/-- After a cause is added, the latch holds it and every cause it held. -/
theorem addLatchCause_latch (c : LatchCause) (s : State) :
    (addLatchCause c s).brc.latch = s.brc.latch.add c := by
  simp only [addLatchCause]
  split
  · rename_i h
    cases c <;> simp_all [LatchSet.has, LatchSet.add] <;> (rw [← h])
  · simp

/-- A new cause brings the whole evaluation of the brakes. -/
theorem addLatchCause_settled (c : LatchCause) (s : State) (h : s.brc.latch.has c = false) :
    BrakesSettled (addLatchCause c s) := by
  simp only [addLatchCause, h, Bool.false_eq_true, if_false]
  exact settle_settled _

/-! ### Events of DRC (R160 to R162) -/

/-- After an event of DRC no DOOR_STATE is owed. -/
theorem flushReport_due (s : State) : (flushReport s).drc.reportDue = false := by
  simp only [flushReport]
  split
  · simp [handDoorState]; split <;> simp [refreshKind, enqueueTail]
  · simp_all

/-- What handing the DOOR_STATE leaves of DRC. -/
@[simp] theorem flushReport_drc (s : State) :
    (flushReport s).drc.leaves = s.drc.leaves ∧ (flushReport s).drc.inputs = s.drc.inputs ∧
    (flushReport s).drc.doorHold = s.drc.doorHold ∧ (flushReport s).drc.release = s.drc.release ∧
    (flushReport s).drc.inForce = s.drc.inForce := by
  simp only [flushReport]
  split <;> simp

/-- Door hold follows the leaves, and nothing else of DRC changes with it. -/
theorem followDoorHold_drc (s : State) :
    (followDoorHold s).drc = { s.drc with doorHold := !everyLeafLocked s.drc } := by
  simp only [followDoorHold]
  split
  · rename_i h
    rw [h]
  · simp only [settle_keeps]
    split <;> simp

/-- After an event of DRC, door hold is present exactly while a used leaf is not locked (R160). -/
theorem drcEvent_doorHold (f : State → State) (s : State) : DoorHoldLaw (drcEvent f s) := by
  simp only [DoorHoldLaw, drcEvent, flushReport_drc, addLatchIf_keeps, followDoorHold_drc]
  have h : ∀ x y : Doors, x.leaves = y.leaves → x.inputs = y.inputs → everyLeafLocked x = everyLeafLocked y := by
    intro x y h1 h2
    simp [everyLeafLocked, driveUnlocked, h1, h2]
  rw [h (flushReport _).drc (f s).drc (by simp [followDoorHold_drc]) (by simp [followDoorHold_drc])]

/-! ### The leaf set (R142) -/

/-- A statement about every drive is one about each of the four. -/
theorem forall_drive {P : Drive → Prop} : (∀ d, P d) ↔ P .d1 ∧ P .d2 ∧ P .d3 ∧ P .d4 :=
  ⟨fun h => ⟨h _, h _, h _, h _⟩, fun ⟨a, b, c, e⟩ d => by cases d <;> assumption⟩
/-- R142: an entry is kept exactly when no lower-numbered drive has it. -/
theorem unlessTaken_eq_some {e : Option (Side × LeafIndex)} {lower : List (Option (Side × LeafIndex))} {x} :
    unlessTaken e lower = some x ↔ e = some x ∧ ∀ y ∈ lower, y ≠ some x := by
  unfold unlessTaken
  cases e with
  | none => simp
  | some y =>
    by_cases h : lower.contains (some y) = true
    · simp only [Option.isSome_some, h, Bool.and_self, if_true]
      simp only [List.contains_iff_mem] at h
      constructor
      · intro hh; cases hh
      · rintro ⟨hy, hall⟩; exact absurd hy (hall _ h)
    · simp only [Option.isSome_some, h, Bool.and_false]
      simp only [List.contains_iff_mem] at h
      constructor
      · intro hh; cases hh; exact ⟨rfl, fun y hy he => h (he ▸ hy)⟩
      · rintro ⟨hy, -⟩; exact hy

/-- R142: the mapping makes a drive the leaf of a side and index as `leafPlaces` gives it. -/
theorem mapsTo_iff (p : Table Nat 52) (d : Drive) (x : Side × LeafIndex) :
    mapsTo p d x ↔ (leafPlaces p).get d = some x := by
  unfold mapsTo
  rw [forall_drive]
  cases d <;> simp [leafPlaces, PerDrive.get, unlessTaken_eq_some, driveNumber] <;>
    simp [mappingEntries, driveEntry, PerDrive.of, driveNumber, mappingValue]

/-- The entry that parameters 43 … 46 give a drive. -/
@[simp] theorem mappingEntries_get (p : Table Nat 52) (d : Drive) : (mappingEntries p).get d = driveEntry p d := by
  cases d <;> rfl

/-- Two tables over the drives are equal when they agree at every drive. -/
theorem perDrive_ext {α : Type} {a b : PerDrive α} (h : ∀ d, a.get d = b.get d) : a = b := by
  cases a; cases b
  have h1 := h .d1; have h2 := h .d2; have h3 := h .d3; have h4 := h .d4
  simp only [PerDrive.get] at h1 h2 h3 h4
  simp [h1, h2, h3, h4]

/-- R142: the conflict flag is SET exactly when two used drives have the same side and index. -/
theorem mappingClash_iff (p : Table Nat 52) : mappingClash p ↔ mappingConflict p = true := by
  have key : mappingConflict p = true ↔ ¬∀ d x, driveEntry p d = some x → mapsTo p d x := by
    unfold mappingConflict
    rw [bne_iff_ne, not_iff_not]
    constructor
    · intro h d x hx
      rw [mapsTo_iff, h, mappingEntries_get]; exact hx
    · intro h
      refine perDrive_ext fun d => Option.ext fun x => ?_
      rw [← mapsTo_iff, mappingEntries_get]
      exact ⟨fun hm => hm.1, h d x⟩
  rw [key]
  unfold mappingClash mapsTo
  push Not
  constructor
  · rintro ⟨d, e, x, h, hd, he⟩; exact ⟨d, x, hd, fun _ => ⟨e, h, he⟩⟩
  · rintro ⟨d, x, hd, h⟩; obtain ⟨e, h1, h2⟩ := h hd; exact ⟨d, e, x, h1, hd, h2⟩

/-- R142: the leaf set and the conflict flag are those of the mapping, as the model computes them. -/
theorem leafSetLaw_iff (s : State) :
    LeafSetLaw s ↔ (∀ d, (s.drc.leaves.get d).map (fun l => (l.side, l.index)) = (leafPlaces s.cmc.params).get d) ∧
      s.drc.conflict = mappingConflict s.cmc.params := by
  unfold LeafSetLaw
  simp only [mapsTo_iff, mappingClash_iff]
  constructor
  · rintro ⟨a, b⟩
    refine ⟨fun d => Option.ext (fun x => a d x), ?_⟩
    cases h : s.drc.conflict <;> cases h' : mappingConflict s.cmc.params <;> simp_all
  · rintro ⟨a, b⟩
    exact ⟨fun d x => by rw [a], by rw [b]⟩

/-- A leaf put in CLOSING stays there when none of its lines is active that ends CLOSING at once (R153, R154, R158). -/
theorem closingEntry_quiet (d : Drive) (s : State) (h : quietDrive s d) : closingEntry d s = s := by
  obtain ⟨h1, h2, h3, h4⟩ := h
  unfold closingEntry
  split
  · rfl
  · simp [h1, h2, h3, h4]

/-! ### The uplink queue (R176, R177) -/

/-- A telegram that joins the queue takes the next uplink sequence. -/
@[simp] theorem enqueueTail_vrl (k : UplinkKind) (b : List Byte) (s : State) :
    (enqueueTail k b s).vrl.queue = s.vrl.queue ++ [⟨k, s.vrl.uplinkCounter + 1, 0, b⟩] ∧
    (enqueueTail k b s).vrl.uplinkCounter = s.vrl.uplinkCounter + 1 ∧
    (enqueueTail k b s).vrl.dialogue = s.vrl.dialogue := ⟨rfl, rfl, rfl⟩

/-- A refresh keeps every entry's kind and the queue's length. -/
theorem refreshKind_kinds (k : UplinkKind) (f : List Byte → List Byte) (s : State) :
    (refreshKind k f s).vrl.queue.map UplinkEntry.kind = s.vrl.queue.map UplinkEntry.kind := by
  simp only [refreshKind, List.map_map]
  refine List.map_congr_left fun e _ => ?_
  simp only [Function.comp, refreshEntry]
  split <;> rfl

/-! ### LINE_RESET (R13, R97) -/

/-- After a part of a LINE_RESET, that part is no longer outstanding, and DONE stands once none is. -/
theorem afterPart_done (p : ResetParts) (s : State) (lost : Bool) (h : s.hlp.slot = .pending lost) :
    (afterPart p s).hlp.slot = if p = noParts then .unread ⟨0x26, .done, 0, lost, []⟩ else .pending lost := by
  simp only [afterPart]
  split <;> simp [placeResetDone, h]

@[simp] theorem afterPart_parts (p : ResetParts) (s : State) : (afterPart p s).cmc.resetParts = p := by
  simp only [afterPart]
  split
  · simp
  · rfl

end Sys2Proof.Machine
end

