-- ==== Sys2Proof/Tests/Slice0.lean ====
section
/-! SUPPORT. Small checks of the model against figures of the manual, the refusal of ill-formed commands, and for every
statement of Certificates/Slice0 with hypotheses a concrete state and operands that meet them (`witness_…`). -/

namespace Sys2Proof.Tests

open Sys2Proof Sys2Proof.Machine

set_option Elab.async false

/-! ### States -/

/-- A field of the state after a command. -/
def after {α : Type} (c : Instr) (s : State) (f : State → α) : Option α :=
  match exec c s with
  | .next t => some (f t)
  | _ => none

def seg (start kind gradient up down present station sides origin : Nat) : SegmentRecord :=
  ⟨BitVec.ofNat 32 start, BitVec.ofNat 8 kind, BitVec.ofNat 16 gradient, BitVec.ofNat 16 up, BitVec.ofNat 16 down,
   BitVec.ofNat 8 present, BitVec.ofNat 8 station, BitVec.ofNat 8 sides, BitVec.ofNat 8 origin⟩

/-- The segments of section 3.8, with segment 4's station as given. -/
def exampleSegments (station : Nat) : List SegmentRecord :=
  [seg 0 1 12 6900 6900 1 1 3 1, seg 410000 1 45 6900 5500 0 0 0 0, seg 1120000 3 60 1400 1400 0 0 0 0,
   seg 1126000 2 220 3500 3000 0 0 0 0, seg 1980000 1 25 4200 4200 1 station 1 2, seg 2140000 3 70 1400 1400 0 0 0 0,
   seg 2146000 2 250 3000 2800 0 0 0 0, seg 3540000 2 180 2000 2000 1 3 2 1]

/-- The eight segments received, before PROFILE_END. -/
def received (station : Nat) : State :=
  { State.reset with
    cmc.mode := .preparation, sld.status := .loaded, lps := ⟨.loading, exampleSegments station, 8, 8, 3600000, none⟩ }

/-- In PREPARATION at the platform of station 2, with a VALID profile and position, the latch empty and every channel
OK. -/
def ready : State :=
  { State.reset with
    cmc := { State.reset.cmc with mode := .preparation, selected := .up },
    sld.status := .loaded,
    lps := ⟨.valid, exampleSegments 2, 8, 8, 3600000, none⟩,
    odo := { State.reset.odo with estimate := some ⟨1990000000, 50000⟩, status := .valid },
    ssv.blankets := ⟨true, false, false, false, false⟩,
    brc := { State.reset.brc with
      service := ⟨.ok, .settled, 0, none⟩, holding := ⟨.ok, .settled, 0, none⟩, emergency := ⟨.ok, .settled, 0, none⟩,
      latch := LatchSet.empty } }

def service : State := { ready with cmc.mode := .service }

/-- The header of a telegram from dispatch to car 1, the default address. -/
def toCar : Header := ⟨1, 0, 7⟩

/-- Drive 1 with its leaf in a state. -/
def leafIn (st : LeafState) (s : State) : State :=
  { s with drc.leaves.d1 := some { resetLeaf .left .valley with state := st, timer := some 500 } }

/-- Every door line inactive. -/
def quietLines : DoorInputs := ⟨false, false, false, false, false, false, false⟩

/-- Every leaf CLOSING with no line active. -/
def closing : State :=
  let leaf := fun (side : Side) (i : LeafIndex) => some { resetLeaf side i with state := .closing, timer := some 500 }
  { ready with
    drc := { ready.drc with
      inputs := ⟨quietLines, quietLines, quietLines, quietLines⟩,
      leaves := ⟨leaf .left .valley, leaf .left .mountain, leaf .right .valley, leaf .right .mountain⟩ } }

/-- Record (DISPATCH, 52) of section 5.10. -/
def record52 : Restriction := ⟨.dispatch, 52, some 9, .both, some ⟨3420000, 3492000, 2000⟩, none, some 1⟩

/-- The car of section 5.10: descending on the 200 ‰ rack stretch, with the record ahead. -/
def descending : State :=
  { service with
    cmc.selected := .down,
    lps := ⟨.valid,
      [seg 0 1 20 6900 6900 0 0 0 0, seg 2400000 1 20 6900 6900 0 0 0 0, seg 3000000 1 40 5500 5500 0 0 0 0,
       seg 3180000 3 60 1400 1400 0 0 0 0, seg 3186000 2 200 3500 3500 0 0 0 0, seg 3900000 2 240 3200 3000 0 0 0 0,
       seg 4700000 2 180 3000 3000 0 0 0 0], 7, 7, 5200000, none⟩,
    odo := { service.odo with
      estimate := some ⟨3500050000, 50000⟩, motion := .moving, windowSum := -1000000, engagement := .engaged },
    ssv.blankets := ⟨false, false, false, false, false⟩, vrl.dialogue := .joined,
    rtb.slots := (Table.replicate 32 none).set 3 (some record52) }

/-- In the open with a speed and LINK_SILENCE as the lowest limit: V_perm is 2,800 (section 6, R96). -/
def atSpeed (v : Nat) (st : Intervention) : State :=
  { service with
    odo := { service.odo with estimate := some ⟨500000000, 50000⟩, motion := .moving, windowSum := v * 250 },
    ssv.state := st }

/-- A running brake test at a step, the first pair passed. -/
def testing (step : TestStep) : State :=
  { ready with
    brc.test := some ⟨step, 1000, 80, 150, 700, 3000⟩,
    brc.result := ⟨.inProgress, ⟨.pass 10, .pass 10, .pass 10, .pass 10, .pass 10, .notRun⟩, none⟩ }

/-- All parts of a LINE_RESET outstanding. -/
def resettingState : State :=
  { testing .s1 with
    cmc.resetParts := ⟨true, true, true, true, true, true⟩, hlp.slot := .pending true, vrl.dialogue := .joined }

/-- A full gang on the left side at the given profile index, its leaves CLOSING. -/
def ganged (index : Nat) : State :=
  { closing with drc.gangLeft := some ⟨index, ⟨true, true, false, false⟩⟩ }

/-- A full gang on the left side at index 2 with drive 1 in a state, quiet lines and release in force there. -/
def gangWith (st : LeafState) : State := leafIn st { ganged 2 with drc.inForce := some .left }

/-- Where every line of every drive is inactive, no leaf has a line active that ends CLOSING at once. -/
theorem quiet_of_lines (p : Drive → Leaf → Prop) (s : State)
    (h : s.drc.inputs = ⟨quietLines, quietLines, quietLines, quietLines⟩) : quietWhere p s := by
  intro d l _ _
  unfold quietDrive
  rw [h]
  cases d <;> decide

/-- Seventeen DISPATCH records. -/
def crowded : State :=
  { ready with
    rtb.slots := (List.range 17).foldl
      (fun t i => t.set i (some { record52 with id := 40 - i })) (Table.replicate 32 none) }

/-- Six replies queued. -/
def gated : State := { ready with vrl.queue := List.replicate 6 ⟨.restrictReply, 1, 0, []⟩ }

def answers (s : State) : Bool :=
  match step s with
  | .next _ => true
  | _ => false

/-! ### Figures of the manual -/

/-- Section 10.1: the CRC over the digits 1 to 9. -/
theorem test_crc_check_value : crc16 [0x31, 0x32, 0x33, 0x34, 0x35, 0x36, 0x37, 0x38, 0x39] = 0x29B1 := by
  decide +kernel

/-- R86: the gravity terms of 200, 37 and 300 per mille. -/
theorem test_gravity_terms : [-200, -37, -300, 5].map gravityTerm = [1962, 363, 2943, 0] := by decide +kernel

/-- Section 5.10: V_loc 3,500, V_perm 2,559, two targets, a_eff 638. -/
theorem test_worked_descent :
    (computeRecord descending 4000).localLimit = 3500 ∧ (computeRecord descending 4000).permitted = 2559 ∧
    (computeRecord descending 4000).targets = 2 ∧
    (computeRecord descending 4000).target.map TargetRecord.effectiveDeceleration = some 638 := by decide +kernel

/-- Section 3.8: the first load fails at index 4 with STATION_DUPLICATE, the second is VALID. -/
theorem test_profile_loads :
    after .profileEnd (received 1) (fun t => (t.lps.status, t.lps.failure)) =
      some (.invalid, some (4, .stationDuplicate)) ∧
    after .profileEnd (received 2) (·.lps.status) = some .valid := by decide +kernel

/-- Section 3.8: the lookups. -/
theorem test_profile_lookups :
    (containing ready 1123500).map Located.index = some 2 ∧ (containing ready 3600000).map Located.index = some 7 ∧
    (overlapping ready 1118000 1139000).map Located.index = [1, 2, 3] ∧
    (overlapping ready 1120000 1126000).map Located.index = [2, 3] := by decide +kernel

/-- Section 1.5: 350 is clamped to 401 against a pending service margin of 400. -/
theorem test_pending_margin :
    after (.setParameter 11 350) { service with cmc.pendingSet := emptyPending.set 9 (some 400) }
      (fun t => (pendingValue t.cmc.pendingSet 11, paramValue t.cmc.params 11)) = some (some 401, 800) := by
  decide +kernel

/-- R29: seven wheel counts UP of 37,500 µm in 250 ms give 1,050 mm/s. -/
theorem test_speed_of_window :
    after (.speedUpdate true) { ready with odo := { ready.odo with motion := .moving, windowSum := 7 * 37500 } }
      (fun t => (t.odo.speed, t.odo.travel)) = some (1050, .up) := by decide +kernel

/-- Section 2.7: the accumulator at 300 mm does not set ROLLBACK, at 400 mm it does. -/
theorem test_rollback :
    [200000, 300000].map (fun mm => after (.pulseCount .tooth .down)
      { service with odo := { service.odo with
          engagement := .engaged, estimate := some ⟨1500000000, 0⟩, motion := .moving, reverse := mm } }
      (·.brc.latch.rollback)) = [some false, some true] := by decide +kernel

/-- R18: a wheel count of 25,520 µm at 10 ‰ raises U by 256 µm. -/
theorem test_growth_rounds_up :
    after (.pulseCount .wheel .up)
      { ready with cmc.params := setParam (setParam ready.cmc.params 33 3190) 34 125,
                   odo := { ready.odo with estimate := some ⟨500000000, 50000⟩ } }
      (·.odo.estimate) = some (some ⟨500025520, 50256⟩) := by decide +kernel

/-- R101: a speed exactly at a threshold does not pass it. -/
theorem test_intervention_thresholds :
    [2800, 2801, 3100, 3101, 3600, 3601].map (fun v => after (.speedUpdate true) (atSpeed v .normal) (·.ssv.state)) =
      [some .normal, some .warning, some .warning, some .service, some .service, some .emergency] := by decide +kernel

/-- R103: an acknowledged intervention ends at the release speed of 2,600 and not above it. -/
theorem test_release_speed :
    [2600, 2601].map (fun v => after (.speedUpdate true)
      { atSpeed v .service with ssv := { (atSpeed v .service).ssv with acknowledged := true } } (·.ssv.state)) =
      [some .normal, some .service] := by decide +kernel

/-- R55: a span whose low bound equals a zone's end is clear of it, one whose high bound equals a zone's start is not. -/
theorem test_clearance_bounds :
    [clearOf descending 3420000 3500000, clearOf descending 3420000 3500001, clearOf descending 3520100 3530000,
     clearOf descending 3520101 3530000] = [true, false, false, true] := by decide +kernel

/-- R63: a sequence 127 ahead is newer, one 128 ahead is stale. -/
theorem test_sequence_distance :
    [judgeSequence (some 10) 137, judgeSequence (some 10) 138, judgeSequence (some 10) 10, judgeSequence (some 250) 1] =
      [.newer, .stale, .duplicate, .newer] := by decide +kernel

/-- R199: strap set 5 at power-on. -/
theorem test_straps :
    after (.powerOn { resetPins with cfg0 := true, cfg2 := true }) State.reset
      (fun t => [2, 3, 4, 5, 33, 34, 50].map (paramValue t.cmc.params)) =
      some [2000, 2800, 800, 1100, 2000, 48, 1200] := by decide +kernel

/-- R172: car 23 under slot count 8 and slot length 120 has its window after 840 ms, under slot count 5 after 360. -/
theorem test_window_delay :
    [8, 5].map (fun n : Byte => after (.beacon ⟨23, 0, 1⟩ ⟨3, n, 120, 4⟩ false)
      { ready with cmc.params := setParam ready.cmc.params 42 23 } (·.vrl.windowTimer)) =
      [some (some 840), some (some 360)] := by decide +kernel

/-- R115: with setpoint 500 and a band of 80, 420 and 580 agree, 419 and 581 do not. -/
theorem test_service_band :
    [419, 420, 580, 581].map (fun p => after (.feedbackChange (.servicePressure p))
      { ready with brc.setpoint := 500 } (·.brc.service.supervision)) =
      [some (.checking 800), some .settled, some .settled, some (.checking 800)] := by decide +kernel

/-- R114: an output change with the feedback already in agreement ends SETTLED, otherwise CHECKING. -/
theorem test_output_change :
    [500, 80].map (fun p => after (.driverBrake 500)
      { ready with brc := { ready.brc with
          setpoint := 0, servicePressure := p, demands := ⟨none, none, none, none, none⟩, dumpValve := true } }
      (·.brc.service.supervision)) = [some .settled, some (.checking 800)] := by decide +kernel

/-- R155: with profile 3 an obstruction brings the leaf to HELD and raises DOOR. -/
theorem test_third_obstruction :
    after (.obstruction .d1 .edge true)
      { closing with drc.leaves.d1 := some { resetLeaf .left .valley with state := .closing, profile := 3 } }
      (fun t => (t.drc.leaves.d1.map Leaf.state, t.hlp.attention.door)) = some (some (.held .drive), true) := by
  decide +kernel

/-- R176: the first telegram after power-on takes sequence 1. -/
theorem test_first_sequence : State.reset.vrl.queue.map UplinkEntry.sequence = [1, 2] := by decide +kernel

/-- R196: a response not yet read makes the next one carry LOST. -/
theorem test_lost_flag :
    after .readAttention { ready with hlp.slot := .unread ⟨4, .done, 0, false, []⟩ }
      (fun t => match t.hlp.slot with | .unread r => r.lost | _ => false) = some true := by decide +kernel

/-- R195: the octets of a SET_PARAMETER spell it. -/
theorem test_set_parameter_octets :
    judgeTransaction [0xA5, 0x23, 0x05, 0x0B, 0x00, 0x00, 0x01, 0x5E] = .request (.setParameter 11 350) := by
  decide +kernel

/-- No row of the table gives bits: no word spells a command. -/
theorem test_no_word_spells_a_command : decodeTableWord 16 0x1234 = none := rfl

/-! ### Ill-formed commands -/

theorem test_ill_formed_refused :
    [Instr.powerOn { resetPins with servicePressure := 1001 }, .powerOn { resetPins with holdingPressure := 1001 },
     .settingsLoadEnd (List.replicate 7899 0), .hostFrameRejected [0xA5, 0x04, 0x00],
     .feedbackChange (.servicePressure 1001), .feedbackChange (.holdingPressure 1001),
     .frameDropped ⟨⟨1, 0, 8, 0, List.replicate 65 0⟩, false⟩, .beacon toCar ⟨0, 1, 20, 1⟩ false,
     .beacon toCar ⟨64, 1, 20, 1⟩ false, .beacon toCar ⟨1, 0, 20, 1⟩ false, .beacon toCar ⟨1, 17, 20, 1⟩ false,
     .beacon toCar ⟨1, 1, 19, 1⟩ false, .beacon toCar ⟨1, 1, 501, 1⟩ false, .beacon toCar ⟨1, 1, 20, 0⟩ false,
     .beacon toCar ⟨1, 1, 20, 17⟩ false, .poll ⟨1, 64, 0⟩, .notice toCar 1 [], .notice toCar 1 (List.replicate 49 0),
     .unknownDoorCommand 1 0, .unknownDoorCommand 7 0].all (fun c => !c.wellFormed) = true := by decide +kernel

theorem test_well_formed_accepted :
    [Instr.powerOn resetPins, .settingsLoadEnd [], .hostFrameRejected [0xA5], .feedbackChange (.servicePressure 1000),
     .frameDropped ⟨⟨1, 0, 8, 0, List.replicate 64 0⟩, true⟩, .beacon toCar ⟨63, 16, 500, 16⟩ true, .poll ⟨1, 63, 0⟩,
     .notice toCar 1 (List.replicate 48 0), .unknownDoorCommand 8 0, .unknownDoorCommand 0 0].all Instr.wellFormed =
      true := by decide +kernel

/-! ### Witnesses: states and operands that meet the hypotheses of the statements, clause by clause -/

theorem witness_EmptyQueueLetsTimersRun :
    State.reset.pending = [] ∧ dueExpiry State.reset = none ∧
    dueExpiry { State.reset with odo.standstillTimer := some 0 } = some .standstillExpiry := by decide +kernel

theorem witness_SetModeJudgedInOrder :
    ready.resetting = false ∧ after (.setMode 3) ready (·.cmc.mode) = some .service ∧
    service.resetting = false ∧ after (.setMode 2) service (·.cmc.mode) = some .preparation := by decide +kernel

/-- The watch and the accumulator at a change of mode: MISSED and kept on leaving SERVICE, ARMED and cleared on entry. -/
theorem witness_SetModeJudgedInOrder_odometry :
    after (.setMode 2) { service with odo.watch := .missed 5, odo.reverse := 9 } (fun t => (t.odo.watch, t.odo.reverse)) =
      some (.missed 5, 9) ∧
    after (.setMode 4) { ready with odo.watch := .armed 5, odo.reverse := 9 } (fun t => (t.odo.watch, t.odo.reverse)) =
      some (.idle, 0) := by decide +kernel

theorem witness_SetDirectionJudgedInOrder :
    ready.resetting = false ∧ after (.setDirection 2) ready (·.cmc.selected) = some .down := by decide +kernel

theorem witness_ParameterWriteAndRead :
    ready.resetting = false ∧ after (.setParameter 52 4) ready (fun t => paramValue t.cmc.params 52) = some 4 := by
  decide +kernel

theorem witness_StandstillAppliesPendingSet :
    service.odo.standstillTimer = none ∧ { service with odo.standstillTimer := some 0 }.odo.standstillTimer ≠ none := by
  decide +kernel

theorem witness_LineResetBeginsAndEnds :
    ready.resetting = false ∧ after .lineReset service (·.cmc.mode) = some .preparation ∧
    resettingState.hlp.slot = .pending true ∧ resettingState.cmc.resetParts.odo = true ∧
    { resettingState with cmc.resetParts := ⟨false, false, false, false, false, true⟩ }.hlp.slot = .pending true := by
  decide +kernel

/-- TABLE_OVERFLOW with VRL's part taken, and without; leaves that are LOCKED, and others with quiet lines. -/
theorem witness_LineResetParts :
    resettingState.cmc.resetParts = ⟨true, true, true, true, true, true⟩ ∧ resettingState.brc.test ≠ none ∧
    resettingState.vrl.dialogue ≠ .unjoined ∧ resettingState.drc.leaves.d1.map Leaf.state = some .locked ∧
    quietWhere (fun _ l => l.state ≠ .locked) closing ∧
    after .drcLineReset { ganged 2 with cmc.resetParts := ⟨true, true, true, true, true, true⟩ }
      (fun t => (t.drc.leaves.d1.map Leaf.state, t.drc.gangLeft.map Gang.index)) = some (some .closing, some 1) ∧
    [true, false].map (fun vrl => after .rtbLineReset
      { resettingState with
        cmc.resetParts := ⟨false, true, false, false, false, vrl⟩, ssv.blankets := ⟨false, true, true, false, false⟩ }
      (·.ssv.blankets.tableOverflow)) = [some true, some false] :=
  have h : resettingState.brc.test ≠ none ∧ resettingState.vrl.dialogue ≠ .unjoined := by decide +kernel
  ⟨rfl, h.1, h.2, rfl, quiet_of_lines _ _ rfl, by decide +kernel⟩

/-- WHEEL is the source with the pinion FREE (R17). -/
theorem wheel_counts (s : State) (h : s.odo.engagement = .free) : countsFrom s .wheel := by
  rintro ⟨e, -⟩
  rw [h] at e
  cases e

/-- WHEEL with the pinion FREE, and ENGAGED on an ADHESION segment; TOOTH with no estimate. -/
theorem witness_PulseCountMovesOrAnchorsEstimate_sources :
    countsFrom ready .wheel ∧ countsFrom { ready with odo.engagement := .engaged } .wheel ∧
    countsFrom { State.reset with odo := { State.reset.odo with engagement := .engaged, estimate := none } } .tooth := by
  refine ⟨wheel_counts _ rfl, ?_, rfl, fun e h => by cases h⟩
  rintro ⟨-, h⟩
  obtain ⟨g, hg, hk⟩ := h _ rfl
  have h2 : (containing ready (1990000000 / 1000)).map (fun g => g.record.track) = some (some .adhesion) := by
    decide +kernel
  have h3 : containing ready (1990000000 / 1000) = some g := hg
  rw [h3] at h2
  rcases hk with hk | hk <;> · rw [Option.map_some, hk] at h2; revert h2; decide

/-- Neither engagement nor disengagement with the wheel source; an engagement and a disengagement, each with a start
exactly within reach (U plus two pitches) and with none. -/
theorem witness_PulseCountMovesOrAnchorsEstimate :
    meshing { ready with odo.wheelTravel := 0 } .tooth = .none ∧ meshing ready .wheel = .none ∧ sourceInUse ready = .wheel ∧
    meshing ready .tooth = .engagement ∧ 1120000 ∈ entryStarts ready ∧
    1120250 * 1000 ≤ 1120000 * 1000 + (50000 + 2 * paramValue ready.cmc.params 32 * 1000) ∧
    ¬ 1990000 * 1000 ≤ 1120000 * 1000 + (50000 + 2 * paramValue ready.cmc.params 32 * 1000) ∧
    meshing { ready with odo.engagement := .engaged } .wheel = .disengagement ∧
    [1120249, 1120288].map (fun mm => after (.pulseCount .wheel .down)
      { ready with odo := { ready.odo with engagement := .engaged, estimate := some ⟨mm * 1000, 50000⟩ } }
      (fun t => (t.odo.estimate, t.odo.status))) =
      [some (some ⟨1120000000, 50000⟩, .valid), some (some ⟨1120288000, 50000⟩, .degraded)] := by decide +kernel

/-- In SERVICE with the maximum position 10 mm below the RACK_ENTRY start at 1,120,000. -/
def nearEntry (watch : Watch) : State :=
  { service with odo := { service.odo with watch := watch, estimate := some ⟨1119940000, 50000⟩, motion := .moving } }

/-- The watch: newly armed; left IDLE with no start reached; kept ARMED; gone IDLE below its start; a MISSED one kept;
and IDLE after an engagement. -/
theorem witness_MotionSetsLatchCauses_watch :
    countsFrom (nearEntry .idle) .wheel ∧ maximumIs (nearEntry .idle) 1119990000 ∧ 1120000 ∈ entryStarts (nearEntry .idle) ∧
    1119990000 < 1120000 * 1000 ∧
    [(Instr.pulseCount .wheel .up, Watch.idle), (.pulseCount .wheel .down, .idle),
     (.pulseCount .wheel .up, .armed 1120000), (.pulseCount .wheel .down, .armed 1120000),
     (.pulseCount .wheel .up, .missed 1120000), (.pulseCount .tooth .up, .armed 1120000)].map
      (fun x => after x.1 (nearEntry x.2) (·.odo.watch)) =
      [some (.armed 1120000), some .idle, some (.armed 1120000), some .idle, some (.missed 1120000), some .idle] :=
  ⟨wheel_counts _ rfl, ⟨by decide, _, rfl, by decide +kernel⟩, by decide +kernel, by decide, by decide +kernel⟩

theorem witness_MotionSetsLatchCauses :
    State.reset.cmc.mode = .stabled ∧
    after (.pulseCount .wheel .down) { service with odo.reverse := 300000 } (fun t => (t.odo.reverse, t.brc.latch.rollback)) =
      some (337500, true) ∧
    (leafIn .opened ready).odo.motion = .standstill ∧ everyLeafLocked (leafIn .opened ready).drc = false ∧
    after (.pulseCount .wheel .up)
      { service with odo := { service.odo with
          watch := .armed 1120000, estimate := some ⟨1126050000, 50000⟩, motion := .moving } }
      (fun t => (t.odo.watch, t.brc.latch.rackMissed)) = some (.missed 1120000, true) := by decide +kernel

theorem witness_SetPositionJudgedInOrder :
    ready.resetting = false ∧ after (.setPosition 1130000 0) ready (·.odo.estimate) = some (some ⟨1130000000, 50000⟩) := by
  decide +kernel

theorem witness_ProfileLoadJudgedInOrder :
    ready.resetting = false ∧ after (.profileBegin 8 3600000) ready (fun t => (t.lps.status, t.odo.estimate)) =
      some (.loading, none) ∧
    (received 2).resetting = false ∧ (received 2).lps.status ≠ .valid := by decide +kernel

theorem witness_ProfileEndValidates : (received 1).resetting = false ∧ (received 2).resetting = false := by
  decide +kernel

/-- A CLEARING record, a record that the span is clear of, and one that it is not, at a place within its zone. -/
theorem witness_AmendmentAndRevocation :
    { record52 with inForce := none }.inForce = none ∧ record52.inForce = some ⟨3420000, 3492000, 2000⟩ ∧
    clearOf descending 3420000 3492000 = true ∧ clearOf descending 3420000 3500001 = false ∧ ¬ 3400000 ≤ 3399999 ∧
    { record52 with inForce := some ⟨3420000, 3500001, 2000⟩ }.inForce = some ⟨3420000, 3500001, 2000⟩ ∧
    3420000 ≤ 3500000 ∧ 3500000 < 3500001 ∧ record52.appliesTo.includes .up = true ∧
    { record52 with trailing := some ⟨1, 2, 3, .down⟩ }.trailing = some ⟨1, 2, 3, .down⟩ ∧
    AppliesTo.down.includes .down = true := by decide +kernel

theorem toCar_reaches_ready : reaches toCar ready := by unfold reaches; decide +kernel

/-- The gate open with five replies and closed with six; a record held with a stored sequence. -/
theorem witness_RestrictAndRevokeTelegrams :
    reaches toCar ready ∧ countKind .restrictReply ready.vrl.queue < 6 ∧
    countKind .restrictReply (gated.vrl.queue.drop 1) < 6 ∧ reaches toCar gated ∧
    6 ≤ countKind .restrictReply gated.vrl.queue ∧ reaches toCar descending ∧
    findRecord descending .dispatch 52 = some (3, record52) ∧ record52.sequence = some 9 := by
  unfold reaches; decide +kernel

/-- A clearance under status VALID, and none under DEGRADED. -/
theorem witness_AmendmentAndRevocation_clearance :
    spanClear descending 3420000 3492000 ∧ ¬spanClear descending 3420000 3500001 ∧
    ¬spanClear { descending with odo.status := .degraded } 3420000 3492000 := by
  refine ⟨⟨rfl, _, rfl, .inr (by decide)⟩, ?_, fun h => absurd h.1 (by decide)⟩
  rintro ⟨-, e, h, hc⟩
  cases h
  exact absurd hc (by decide +kernel)

/-- JOINED, with a record in every slot of the table and nothing queued. -/
def full : State :=
  { ready with
    vrl := { ready.vrl with dialogue := .joined, queue := [] },
    rtb.slots := (List.range 32).foldl
      (fun t i => t.set i (some { record52 with id := 100 + i })) (Table.replicate 32 none) }

/-- A full table away from UNJOINED: the new list's two pages and the reply, in the order the command gives. -/
theorem witness_RestrictAndRevokeTelegrams_full :
    [true, false].map (fun listFirst =>
      after (.restrict toCar ⟨9, 1, 0, 100, 1, 500, 0, 0⟩ listFirst) full
        (fun t => t.vrl.queue.map fun e => (e.kind, e.sequence))) =
      [some [(.restrictList, 3), (.restrictList, 4), (.restrictReply, 5)],
       some [(.restrictReply, 3), (.restrictList, 4), (.restrictList, 5)]] := by decide +kernel

theorem witness_CabRestrictionsJudgedInOrder :
    ready.resetting = false ∧
    after (.addRestriction ⟨2, 7, 1, 100, 200, 1000, 0, 0⟩) ready (fun t => (slotRecord t 0).map Restriction.id) =
      some (some 7) := by decide +kernel

/-- A life of 1 expires and a life of 2 does not; slot 0 is free. -/
theorem witness_LivesRunOut :
    slotRecord descending 3 = some record52 ∧ record52.life = some 1 ∧
    slotRecord { descending with rtb.slots := (Table.replicate 32 none).set 3 (some { record52 with life := some 2 }) } 3 =
      some { record52 with life := some 2 } ∧
    slotRecord descending 0 = none := by decide +kernel

/-- The expiry of a DISPATCH record raises RESTRICTION; one of a CAB record does not. -/
theorem witness_LivesRunOut_attention :
    [Origin.dispatch, .cab].map (fun o => after .secondTick
      { descending with rtb.slots := (Table.replicate 32 none).set 3 (some { record52 with origin := o }) }
      (fun t => (t.rtb.changeCount, t.hlp.attention.restriction))) = [some (1, true), some (1, false)] := by decide +kernel

/-- A place within a zone and one outside every zone, with a record that gives the limit and with none. -/
theorem witness_RestrictionReadsAndLookup_limits :
    (heldRecords descending).length = 1 ∧ restrictionLimit descending .down 3450000 = some 2000 ∧
    restrictionLimit descending .down 3492000 = none ∧ profileLimit descending .down 3450000 = some 3500 ∧
    descending.lps.status = .valid ∧ State.reset.lps.status ≠ .valid := by decide +kernel

/-- Record 52 CLEARING, with its trailing zone up to a place. -/
def trailing52 (finish : Nat) : Restriction :=
  { record52 with inForce := none, life := none, trailing := some ⟨3420000, finish, 2000, .both⟩ }

/-- A trailing part that the span is clear of goes at a speed update, and with a wider zone none does. -/
theorem witness_SpeedUpdate_released :
    [3492000, 3500001].map (fun finish => after (.speedUpdate true)
      { descending with rtb.slots := (Table.replicate 32 none).set 3 (some (trailing52 finish)) }
      (fun t => (t.rtb.changeCount, t.hlp.attention.restriction, (slotRecord t 3).isSome))) =
      [some (1, true, false), some (0, false, true)] := by decide +kernel

theorem witness_RestrictionReadsAndLookup :
    descending.resetting = false ∧ Way.ofCode 1 = some .up ∧ Way.ofCode 3 = none ∧
    after (.lookupLimit 3450000 1) descending (·.hlp.slot.isUnread) = some true := by decide +kernel

/-- The curve's cases: the root (2,559), the line maximum, the floor, and no effective distance. -/
theorem witness_BrakingCurveOfTarget :
    paramValue descending.cmc.params 1 ≤ 12500 ∧
    (curve descending .down 4000 ⟨3492000, 2000, 8000, 3492000, 3520100, .lineEnd⟩).speed = 2559 ∧
    (curve descending .down 4000 ⟨3440000, 2000, 60000, 3440000, 3520100, .lineEnd⟩).speed = 6900 ∧
    (curve { descending with brc.service.health := .degraded } .down 4000
      ⟨3492000, 2000, 8000, 3492000, 3520100, .lineEnd⟩).record.floorApplied = true ∧
    (curve descending .down 4000 ⟨3494000, 2000, 6000, 3494000, 3520100, .lineEnd⟩).record.effectiveDistance = 0 ∧
    overlapping descending 3492000 3520100 ≠ [] := by decide +kernel

/-- A target governs the car of section 5.10; a segment, a blanket and the line maximum govern others. -/
theorem witness_PermittedSpeedIsLowest :
    (computePass descending 4000 .down).permitted < (computePass descending 4000 .down).localLimit ∧
    (computePass descending 4000 .down).governing = some (.part ⟨3, .dispatch, 52, true⟩) ∧
    (computePass { descending with rtb.slots := Table.replicate 32 none } 0 .down).governing = some (.segment 4) ∧
    (computePass service 0 .up).governing = some (.blanket .linkSilence) ∧
    (computePass { service with ssv.blankets := ⟨false, false, false, false, false⟩, odo.estimate := none } 0 .up).governing =
      some .lineMaximum := by decide +kernel

theorem witness_InterventionEvaluation :
    (atSpeed 3100 .normal).cmc.mode = .service ∧ (atSpeed 3100 .warning).ssv.state = .warning ∧
    after (.speedUpdate false) (atSpeed 3601 .service) (fun t => (t.ssv.state, t.brc.latch.overspeed)) =
      some (.emergency, true) ∧
    after (.speedUpdate false) (atSpeed 100 .emergency) (·.ssv.state) = some .emergency ∧
    after (.speedUpdate false) { atSpeed 3101 .normal with brc.service.health := .failed } (·.ssv.state) =
      some .emergency := by decide +kernel

theorem witness_InterventionEvaluation_acknowledged :
    (atSpeed 0 .service).resetting = false ∧
    after .ackIntervention { atSpeed 0 .service with ssv := { (atSpeed 0 .service).ssv with released := true } }
      (·.ssv.state) = some .normal := by decide +kernel

/-- No test, each supervision state, both confirmations at the threshold of 150, and a lost confirmation that takes
release away. -/
theorem witness_FeedbackStoredAndSupervised :
    ready.brc.test = none ∧ ready.brc.service.supervision = .settled ∧ resetChannel.supervision = .idle ∧
    { ready with brc.service.supervision := .checking 5 }.brc.service.supervision = .checking 5 ∧ ready.brc.confirmed = true ∧
    after (.feedbackChange (.holdingPressure 149)) ready (·.brc.confirmed) = some true ∧
    after (.feedbackChange (.holdingPressure 150)) ready (fun t => (t.brc.confirmed, t.brc.holding.supervision)) =
      some (false, .checking 800) ∧
    after (.feedbackChange (.holdingPressure 900))
      { ready with drc := { ready.drc with release := some ⟨.left, .cab, none⟩, inForce := some .left } } (·.drc.inForce) =
      some none := by decide +kernel

theorem witness_CheckFailure :
    (∀ left, (ready.brc.channel .service).supervision ≠ .checking left) ∧
    ({ ready with brc.service.supervision := .checking 0 }.brc.channel .service).supervision = .checking 0 := by
  refine ⟨fun left => ?_, rfl⟩
  have h : (ready.brc.channel .service).supervision = .settled := rfl
  rw [h]; simp

theorem witness_EmergencyLatchSetAndReset :
    ready.resetting = false ∧ ready.brc.latch.hostRequest = false ∧ ready.brc.latch.loopOpen = false ∧
    ready.brc.loopClosed = true ∧
    after .resetEmergency { ready with brc.latch := ready.brc.latch.add .hostRequest } (·.brc.latch.any) = some false := by
  decide +kernel

theorem witness_DriverBrakeAndHoldRequest :
    ready.resetting = false ∧ after (.driverBrake 1001) ready (·.brc.driverLevel) = some 1000 ∧
    after (.holdRequest 2) ready (·.brc.hostHold) = some .release := by decide +kernel

/-- Below 1,000 less the band of 80, step 1 runs. -/
theorem witness_BrakeTestStartsAndAborts :
    ready.resetting = false ∧ ready.brc.servicePressure + paramValue ready.cmc.params 19 < 1000 ∧
    after .startBrakeTest { ready with brc.servicePressure := 919 } (fun t => t.brc.test.map TestContext.step) =
      some (some .s1) ∧
    (testing .s3).resetting = false ∧ (testing .s3).brc.test.isSome = true ∧ ready.brc.test = none := by decide +kernel

/-- Each step's condition at its bound. -/
theorem witness_BrakeTestStepEnds :
    ready.brc.test = none ∧ (testing .s1).brc.test = some ⟨.s1, 1000, 80, 150, 700, 3000⟩ ∧ 1000 ≤ min 920 1000 + 80 ∧
    min 79 1000 < 80 ∧ 700 < min 701 1000 ∧ min 149 1000 < 150 ∧
    after .stepTimerExpiry (testing .s6) (·.brc.test) = some none ∧
    after (.feedbackChange (.bandSwitch true)) (testing .s6) (·.brc.result.overall) = some .passed := by decide +kernel

/-- R138: step 4 ends with PASS, the HOLDING health brings release into force, and the abort DOOR is step 5's. -/
theorem test_door_abort_after_step_four :
    after (.feedbackChange (.holdingPressure 149))
      { testing .s4 with
        brc.holding := ⟨.failed, .idle, 0, none⟩, brc.confirmed := true, drc.release := some ⟨.left, .cab, none⟩ }
      (fun t => (t.brc.result.steps.s4, t.brc.result.abort, t.drc.doorHold, t.drc.leaves.d1.map Leaf.state)) =
      some (.pass 2000, some (.door, .s5), true, some .unlocked) := by decide +kernel

theorem ready_gangs : GangLaw ready := by
  refine ⟨fun side => by cases side <;> decide +kernel, fun side g h => ?_, fun d l h => ?_⟩
  · cases side <;> cases h
  · cases d <;> cases h <;> decide

theorem ready_leaves : LeafSetLaw ready := by
  rw [leafSetLaw_iff]
  exact ⟨fun d => by cases d <;> decide +kernel, by decide +kernel⟩

/-- A mapping entry at both ends of its range, a conflict, and ganging ON and OFF. -/
theorem witness_LeafSetAndGangsFormed :
    GangLaw ready ∧ LeafSetLaw ready ∧ ready.resetting = false ∧ ready.sld.status ≠ .loading ∧
    ready.sld.status ≠ .saving ∧ ready.cmc.mode ≠ .service ∧ ready.cmc.mode ≠ .shunt ∧
    [0, 1, 7, 8].map (fun v : Word => after (.setParameter 44 v) ready
      (fun t => (t.drc.leaves.d2.map fun l => (l.side, l.index), t.drc.conflict))) =
      [some (none, false), some (none, true), some (some (.right, .mountain), true),
       some (some (.right, .mountain), true)] ∧
    after (.setParameter 43 0) ready (·.drc.leaves.d1) = some none ∧
    after (.setParameter 46 0) ready (·.drc.leaves.d4) = some none ∧
    after (.setParameter 48 1) ready (fun t => t.drc.gangLeft.map Gang.members) =
      some (some ⟨true, true, false, false⟩) ∧
    after (.setParameter 49 0) { ready with drc.gangRight := some ⟨1, ⟨false, false, true, true⟩⟩ } (·.drc.gangRight) =
      some none :=
  ⟨ready_gangs, ready_leaves, by decide +kernel⟩

theorem witness_DoorSwitches :
    ready.drc.leaves.get .d1 = some (resetLeaf .left .valley) ∧ (resetLeaf .left .valley).state ≠ .locking ∧
    (leafIn .locking closing).drc.leaves.get .d1 =
      some { resetLeaf .left .valley with state := .locking, timer := some 500 } ∧
    ((closing.drc.inputs.get .d1).ovc = false ∧ (closing.drc.inputs.get .d1).edge = false ∧
      (closing.drc.inputs.get .d1).force = false) := by decide +kernel

/-- A leaf that is no gang member, and a gang member that an overcurrent isolates. -/
theorem witness_DoorLines :
    (leafIn .closing closing).drc.leaves.get .d1 =
      some { resetLeaf .left .valley with state := .closing, timer := some 500 } ∧
    gangMember closing .left .d1 = false ∧
    after (.obstruction .d1 .force true) closing (fun t => t.drc.leaves.d1.map Leaf.profile) = some (some 2) ∧
    gangMember (ganged 2) .left .d1 = true ∧
    after (.overcurrent .d1 true) (ganged 2) (fun t => t.drc.leaves.d1.map Leaf.state) =
      some (some (.isolated .overcurrent)) := by decide +kernel

theorem witness_DoorTimers :
    (ready.drc.leaves.get .d1).map Leaf.timer = some none ∧
    [LeafState.opening, .closing, .locking, .opened, .reversing .dwell, .held .dwell].map
      (fun st => (leafIn st closing).drc.leaves.d1.map Leaf.timer) = List.replicate 6 (some (some 500)) ∧
    gangMember closing .left .d1 = false ∧ quietDrive closing .d1 := by unfold quietDrive; decide +kernel

/-- Drive 1 in every state that a clause asks for, in a full gang with quiet lines, and what its gang then does. -/
theorem witness_GangMovesTogether :
    (∀ st, (gangWith st).drc.leaves.get .d1 = some { resetLeaf .left .valley with state := st, timer := some 500 } ∧
      (gangWith st).drc.gang .left = some ⟨2, ⟨true, true, false, false⟩⟩ ∧ (gangWith st).drc.inForce = some .left ∧
      (gangWith st).resetting = false ∧ (gangWith st).odo.motion = .standstill ∧
      ∀ p, quietWhere p (gangWith st)) ∧
    after (.obstruction .d1 .edge true) (ganged 3) (fun t => t.drc.leaves.d2.map Leaf.state) =
      some (some (.held .drive)) ∧
    [Instr.autoCloseDwell .d1, .closeSide 1].map (fun c => after c (gangWith .opened)
      (fun t => (t.drc.gangLeft.map Gang.index, t.drc.leaves.d1.map Leaf.state))) =
      List.replicate 2 (some (some 1, some .closing)) ∧
    [Instr.forceClose 1, .holdRetryInterval .d1].map (fun c => after c (gangWith (.held .dwell))
      (fun t => (t.drc.gangLeft.map Gang.index, t.drc.leaves.d1.map Leaf.profile))) =
      [some (some 3, some 3), some (some 1, some 1)] ∧
    (leafIn (.isolated .host) (ganged 1)).drc.inputs.d1.lockSw = false ∧ (resetDoorInputs).lockSw = true :=
  ⟨fun _ => ⟨rfl, rfl, rfl, rfl, rfl, fun p => quiet_of_lines p _ rfl⟩, by decide +kernel, by decide +kernel,
    by decide +kernel, rfl, rfl⟩

/-- A full gang of the left side at an index, drive 1 in a state, with lines at drive 1, and release in force that a
count or a withdrawal ends. -/
def obstructed (index : Nat) (lines : DoorInputs) (st : LeafState) : State :=
  { gangWith st with
    drc := { (gangWith st).drc with
      gangLeft := some ⟨index, ⟨true, true, false, false⟩⟩, inputs := ⟨lines, quietLines, quietLines, quietLines⟩,
      release := some ⟨.left, .cab, none⟩ } }

/-- Each start meets its clause: a gang member obstructed as it starts reverses its gang, or is HELD with it at the last
index; one whose closed and lock switches are made is LOCKED at once; an overcurrent takes it out of the gang. -/
theorem witness_ClosingStartsFindTheirLines :
    (∀ lines st, (obstructed 1 lines st).drc.leaves.get .d1 =
        some { resetLeaf .left .valley with state := st, timer := some 500 } ∧
      (obstructed 1 lines st).resetting = false ∧ (obstructed 1 lines st).odo.motion = .standstill ∧
      (obstructed 1 lines st).drc.inForce = some .left ∧ (obstructed 1 lines st).drc.release ≠ none) ∧
    quietLines.lockSw = false ∧ releaseCondition { obstructed 1 quietLines .opened with odo.motion := .moving } ≠ some .left ∧
    (let edge := { quietLines with edge := true }
     [(Instr.reopenDwell .d1, obstructed 1 edge (.reversing .dwell)), (.autoCloseDwell .d1, obstructed 2 edge .opened),
      (.closeSide 1, obstructed 2 { quietLines with closedSw := true, lockSw := true } .opened),
      (.forceClose 1, obstructed 1 edge (.held .dwell)),
      (.holdRetryInterval .d1, obstructed 3 { quietLines with ovc := true } (.held .dwell)),
      (.closedSwitch .d1 false, obstructed 1 edge .locking), (.restore 1, obstructed 1 edge (.isolated .host)),
      (.doorCommandWithdraw 0, obstructed 2 edge .opened), (.pulseCount .wheel .up, obstructed 2 edge .opened)].map
       (fun x => after x.1 x.2 fun t =>
         (t.drc.leaves.d1.map fun l => (l.state, l.profile), t.drc.gangLeft.map fun g => (g.index, g.members.d1)))) =
      [some (some (.reversing .drive, 2), some (2, true)), some (some (.reversing .drive, 2), some (2, true)),
       some (some (.locked, 1), some (1, true)), some (some (.held .drive, 3), some (3, true)),
       some (some (.isolated .overcurrent, 1), some (1, false)), some (some (.reversing .drive, 2), some (2, true)),
       some (some (.reversing .drive, 2), some (2, true)), some (some (.reversing .drive, 2), some (2, true)),
       some (some (.reversing .drive, 2), some (2, true))] :=
  ⟨fun _ _ => ⟨rfl, rfl, rfl, rfl, fun h => by cases h⟩, rfl, by decide +kernel, by decide +kernel⟩

/-- DRC's part with an edge line active, and SSV's evaluation after its part. -/
theorem witness_LineResetParts_lines :
    after .drcLineReset
      { obstructed 3 { quietLines with edge := true } .opened with
        cmc.resetParts := ⟨true, true, true, true, true, true⟩ }
      (fun t => (t.drc.leaves.d1.map fun l => (l.state, l.profile), t.drc.gangLeft.map Gang.index)) =
      some (some (.reversing .drive, 2), some 2) ∧
    after .ssvLineReset resettingState (fun t => (t.ssv.record.evaluation, t.brc.demands.intervention)) =
      some (.idle, none) := by decide +kernel

/-- At the platform of station 2 with its radio release for the left side, in force or not. -/
def released (inForce : Option Side) : State :=
  { ready with
    drc := { ready.drc with
      inputs := ⟨quietLines, quietLines, quietLines, quietLines⟩, release := some ⟨.left, .radio, some 2⟩,
      inForce := inForce } }

/-- Each event of R149 brings a release into force or ends it; no value is pending. -/
theorem witness_ReleaseInForceAndItsChanges_events :
    (released none).cmc.pendingSet = emptyPending ∧ (∀ side p, quietWhere p (released side)) ∧
    [(Instr.standstillExpiry, { released none with odo := { ready.odo with motion := .moving, standstillTimer := some 0 } }),
     (.setMode 2, { released none with cmc.mode := .stabled }),
     (.setPosition 1990000 0, { released none with odo := { ready.odo with status := .unknown } }),
     (.profileEnd, { released none with lps := (received 2).lps })].map (fun x => after x.1 x.2 (·.drc.inForce)) =
      List.replicate 4 (some (some .left)) ∧
    [(Instr.profileBegin 8 3600000, released (some .left)), (.feedbackChange (.holdingPressure 900), released (some .left)),
     (.odoLineReset, { released (some .left) with cmc.resetParts := ⟨true, false, false, false, false, false⟩ }),
     (.checkTimerExpiry .holding, { released (some .left) with brc.holding := ⟨.degraded, .checking 0, 0, none⟩ }),
     (.stepTimerExpiry, { released (some .left) with brc := (testing .s4).brc }),
     (.lineReset, { released (some .left) with cmc.mode := .service, drc.release := none }),
     (.pulseCount .wheel .up, released (some .left))].map (fun x => after x.1 x.2 (·.drc.inForce)) =
      List.replicate 7 (some none) :=
  ⟨rfl, fun _ p => quiet_of_lines p _ rfl, by decide +kernel, by decide +kernel⟩

/-- A side that gains release with a LOCKED leaf; a side that loses it with an OPEN leaf and a gang. -/
theorem witness_ReleaseInForceAndItsChanges :
    quietWhere (fun _ l => ready.drc.inForce = some l.side ∧ unclosed l) ready ∧
    after (.doorCommandRelease 1) ready (fun t => (t.drc.inForce, t.drc.leaves.d1.map Leaf.state)) =
      some (some .left, some .unlocked) ∧
    (∀ p, quietWhere p (gangWith .opened)) ∧ ready.brc.test = none ∧
    after (.pulseCount .wheel .up) { gangWith .opened with drc.release := some ⟨.left, .cab, none⟩ }
      (fun t => (t.drc.inForce, t.drc.leaves.d1.map Leaf.state, t.drc.gangLeft.map Gang.index)) =
      some (none, some .closing, some 1) := by
  refine ⟨?_, by decide +kernel, fun p => quiet_of_lines p _ rfl, rfl, by decide +kernel⟩
  rintro d l - ⟨h, -⟩
  have h2 : ready.drc.inForce = none := rfl
  rw [h2] at h
  cases h

theorem witness_DoorReleasesJudgedInOrder :
    ready.resetting = false ∧ reaches toCar ready ∧
    after (.doorCommandRelease 1) ready (fun t => (t.drc.release, t.drc.inForce)) =
      some (some ⟨.left, .cab, none⟩, some .left) ∧
    after (.doorRelease toCar 1 1) ready (fun t => t.drc.release) = some (some ⟨.left, .radio, some 1⟩) := by
  unfold reaches; decide +kernel

/-- A side with release in force, quiet lines, and leaves to name in each state the clauses ask. -/
theorem witness_DoorCommandsOnSidesAndLeaves :
    closing.resetting = false ∧ closing.drc.inForce = none ∧ (gangWith .opened).drc.inForce = some .left ∧
    (∀ p, quietWhere p closing) ∧ quietDrive closing .d1 ∧ namedLeaf closing 0 = none ∧ namedLeaf closing 5 = none ∧
    (namedLeaf closing 1).map Prod.fst = some .d1 ∧ (namedLeaf closing 4).map Prod.fst = some .d4 ∧
    { resetLeaf .left .valley with state := .held .dwell }.isHeld = true ∧ gangMember closing .left .d1 = false ∧
    (namedLeaf (leafIn (.isolated .host) closing) 1).map (fun x => x.2.state) = some (.isolated .host) ∧
    closing.odo.motion = .standstill ∧ (resetDoorInputs).lockSw = true ∧ quietLines.lockSw = false ∧
    after (.restore 1)
      { leafIn (.isolated .host) closing with drc.inputs := ⟨{ quietLines with ovc := true }, quietLines, quietLines, quietLines⟩ }
      (fun t => t.drc.leaves.d1.map Leaf.state) = some (some (.isolated .overcurrent)) :=
  ⟨by decide +kernel, by decide +kernel, by decide +kernel, fun p => quiet_of_lines p _ rfl, ⟨rfl, rfl, rfl, rfl⟩,
    by decide +kernel⟩

/-- An uplink kind, another car's frame, a kind outside the table, an empty notice, and a car that sends. -/
theorem witness_CompletedFramesJudged :
    ready.vrl.transmission = none ∧ 0x81 ≤ (0x81 : Byte).toNat ∧ (0x85 : Byte).toNat ≤ 0x85 ∧
    ¬(⟨2, 0, 7, 1, []⟩ : Frame).destination.toNat = paramValue ready.cmc.params 42 ∧
    after (.frameDropped ⟨⟨1, 0, 10, 1, []⟩, true⟩) ready (·.vrl.malformedCount) = some 1 ∧
    after (.frameDropped ⟨⟨1, 0, 8, 1, [5]⟩, true⟩) ready (·.vrl.malformedCount) = some 1 ∧
    after (.frameDropped ⟨⟨2, 0, 7, 1, []⟩, true⟩) ready (·.vrl.foreignCount) = some 1 ∧
    { ready with vrl.transmission := some ⟨[], 9600⟩ }.vrl.transmission ≠ none := by decide +kernel

/-- The beacon fields at both ends of their ranges. -/
theorem witness_BeaconTaken :
    reaches toCar ready ∧ beaconFields ⟨1, 1, 20, 1⟩ = true ∧ beaconFields ⟨63, 16, 500, 16⟩ = true ∧
    after (.beacon toCar ⟨63, 16, 500, 16⟩ false) ready (fun t => (t.vrl.dialogue, t.vrl.windowTimer)) =
      some (.reporting, some 500) := by unfold reaches; decide +kernel

/-- One page and two; an empty queue, a head not sent and one sent, and a queued ALARM and DOOR_STATE. -/
theorem witness_UplinkTelegramsQueued :
    (listEntries descending).length = 1 ∧ (listEntries crowded).length = 17 ∧
    ((listEntries crowded).map ListEntry.id).head? = some 24 ∧ ({ ready with vrl.queue := [] }.vrl.queue = []) ∧
    [0, 1].map (fun attempts => ((handAlarm .doorFault { ready with vrl.queue := [⟨.restrictReply, 1, attempts, []⟩] }).vrl.queue.map
      UplinkEntry.kind)) = [[.alarm, .restrictReply], [.restrictReply, .alarm]] ∧
    (∃ e, State.reset.vrl.queue = [] ++ [⟨.alarm, 1, 0, [0x00, 0x01]⟩] ++ [e] ∧ e.kind = .doorState) ∧
    (handAlarm .doorFault State.reset).vrl.queue.head? = some ⟨.alarm, 3, 0, [0x08, 0x01]⟩ ∧
    (handDoorState State.reset).vrl.queue.map UplinkEntry.sequence = [1, 3] ∧
    ready.resetting = false ∧ ready.brc.latch.hostRequest = false ∧ reaches toCar State.reset ∧
    State.reset.cmc.mode = .stabled := by
  refine ⟨by decide +kernel, by decide +kernel, by decide +kernel, rfl, by decide +kernel, ⟨_, rfl, rfl⟩,
    by decide +kernel, by decide +kernel, by decide +kernel, by decide +kernel, ?_, rfl⟩
  unfold reaches; decide +kernel

theorem witness_PollAckSyncDoneAndNotice :
    reaches toCar ready ∧ 1 ≤ [(0x41 : Byte)].length ∧ (List.replicate 48 (0x41 : Byte)).length ≤ 48 ∧
    after (.notice toCar 5 [0x41]) ready (fun t => t.vrl.notices.map Notice.number) = some [5] := by
  unfold reaches; decide +kernel

/-- The longest body, and a whole frame with CHBUSY changing from bit to bit. -/
theorem witness_ReceivedBitsAreTheFrame :
    ready.vrl.transmission = none ∧ ready.vrl.receiver = .search 0 ∧
    (⟨1, 0, 8, 1, List.replicate 64 0⟩ : Frame).body.length ≤ 64 ∧
    (let bits := bitsOf (airFrame 1 0 7 1 [])
     let arrivals := bits.map fun b => (⟨b, b⟩ : Arrival Bool)
     arrivals.map Arrival.what = bits ∧ (arrivals.getLast?.map Arrival.busy).isSome = true) := by decide +kernel

/-- A length octet at each end of FRAMING's ranges, and a CRC that is not the frame's. -/
theorem witness_ReceivedBitsAreTheFrame_broken :
    (0 : Byte).toNat < 4 ∧ (3 : Byte).toNat < 4 ∧ 68 < (69 : Byte).toNat ∧ 4 ≤ (4 : Byte).toNat ∧ (68 : Byte).toNat ≤ 68 ∧
    [(1 : Byte), 0, 7, 1].length = (4 : Byte).toNat ∧ (0 : Half) ≠ crc16 [4, 1, 0, 7, 1] ∧
    (bitsOf [0xB4, 0x2D, 3]).length = 24 ∧
    ((bitsOf ([0xB4, 0x2D, 4] ++ [1, 0, 7, 1] ++ octets2 0)).map fun b => (⟨b, b⟩ : Arrival Bool)).length = 72 := by
  decide +kernel

theorem witness_TransactionsIgnoredOrAnswered :
    resettingState.resetting = true ∧ requestParts .readStatus ≠ none ∧ Instr.readStatus ≠ .readResponse ∧
    judgeTransaction [0xA5, 0x04, 0x00] ≠ .request .readResponse ∧ ready.resetting = false ∧ (0xA4 : Byte) ≠ 0xA5 ∧
    requestLength 0x99 ≠ some 0 ∧ requestLength 0x23 ≠ some 4 ∧ [(0 : Byte)].length < 5 := by decide +kernel

theorem witness_SlotAttentionNoticesAndErrors :
    ready.resetting = false ∧
    after (.setAttentionMask 0xFFFE) ready (fun t => (t.hlp.mask.supervision, t.hlp.mask.settings)) =
      some (false, true) := by decide +kernel

theorem witness_TransactionsSpellRequests :
    transactionOf (.setMode 3) = some [0xA5, 0x10, 0x01, 0x03] ∧ (Instr.setMode 3).wellFormed = true := by decide +kernel

theorem witness_ReadRequestsAnswerOnly :
    countsFrom ready .wheel ∧ ready.resetting = false ∧ ready.brc.test = none ∧ (testing .s2).resetting = false ∧
    (testing .s2).brc.test = some ⟨.s2, 1000, 80, 150, 700, 3000⟩ := ⟨wheel_counts _ rfl, by decide +kernel⟩

/-- After the load; no signature; a wrong format; images without a block, with the bounds of a block, and beyond them. -/
theorem witness_SettingsLoadedAndSaved :
    ready.sld.status ≠ .loading ∧ State.reset.sld.status = .loading ∧
    after (.settingsLoadEnd []) State.reset (·.sld.status) = some .absent ∧
    after (.settingsLoadEnd [0xC3, 0x02]) State.reset (·.sld.status) = some .corrupt ∧
    (storedProfile (List.replicate 216 0)).count = 0 ∧
    [[0x00, 0x01, 0x00, 0x0F, 0x42, 0x40], [0x02, 0x00, 0x02, 0x62, 0x5A, 0x00], [0x02, 0x01, 0x00, 0x0F, 0x42, 0x40]].map
      (fun tail => ((storedProfile (List.replicate 210 0 ++ tail)).count, (storedProfile (List.replicate 210 0 ++ tail)).length)) =
      [(1, 1000000), (512, 40000000), (513, 1000000)] ∧ ready.resetting = false := by decide +kernel

/-- R202: C3h is written last, at offset 0, and only where the image read back as meant. -/
theorem test_signature_written_last :
    [[0x00, 0x01], [0x00, 0x02]].map (fun readBack => after (.saveEnd readBack 0xC3)
      { ready with sld := ⟨0, .saving, false, some [0x00, 0x01], [(0, 0x00), (1, 0x01)]⟩ }
      (fun t => (t.sld.status, t.sld.writes))) =
      [some (.saved, [(0, 0x00), (1, 0x01), (0, 0xC3)]), some (.writeFailed, [(0, 0x00), (1, 0x01)])] := by
  decide +kernel

theorem witness_StoredImageReadsBack :
    (∀ v ∈ resetParams.list, v < 2 ^ 32) ∧ 8 = (exampleSegments 2).length ∧ 8 ≤ 512 ∧ 3600000 < 2 ^ 32 := by decide +kernel

/-! ### Witnesses of the laws: a state of each law that takes a step -/

/-- READY in SERVICE with a speed update waiting, its demands formed. -/
def lawful : State :=
  { descending with
    brc := { descending.brc with
      dumpValve := true, setpoint := 0, demands := ⟨none, none, none, none, none⟩, hostHold := .release, permit := true,
      hold := ⟨false, false, false, false, false⟩, releaseValve := true },
    pending := [.speedUpdate true] }

/-- RTB's part stands next after VRL's, and the car has rejoined and taken a NAK FULL since. -/
def rejoined : State :=
  { lawful with
    cmc.resetParts := ⟨false, true, false, false, false, false⟩, hlp.slot := .pending false, vrl.dialogue := .reporting,
    ssv.blankets := ⟨false, true, false, false, false⟩, pending := [.rtbLineReset] }

theorem witness_EveryStepKeepsBlanketLaw :
    (BlanketLaw lawful ∧ ¬RejoinedBeforeTablePart lawful ∧ CausesLaw lawful ∧ answers lawful = true) ∧
    BlanketLaw rejoined ∧ RejoinedBeforeTablePart rejoined ∧ answers rejoined = true := by
  unfold BlanketLaw CausesLaw RejoinedBeforeTablePart JoinedLaw PositionLaw BrakeLaw ShuntLaw; decide +kernel

theorem witness_EveryStepKeepsQueueCaps : QueueLaw lawful ∧ answers lawful = true := by
  unfold QueueLaw; decide +kernel

theorem witness_EveryStepKeepsTableLaw :
    TableLaw { crowded with pending := [.secondTick] } ∧ answers { crowded with pending := [.secondTick] } = true := by
  unfold TableLaw RecordLaw; decide +kernel

theorem lawful_doors : DoorLaw lawful := by
  refine ⟨by unfold DoorHoldLaw; decide +kernel, by unfold DoorMotionLaw; decide +kernel, rfl, ?_, ?_⟩
  · exact ready_leaves
  · exact ready_gangs

/-- A confirmation that changes where no release is at stake. -/
theorem witness_FeedbackStoredAndSupervised_unjudged :
    DoorLaw lawful ∧ lawful.brc.test = none ∧ lawful.brc.confirmed = true ∧ releaseCondition lawful = lawful.drc.inForce ∧
    after (.feedbackChange (.holdingPressure 900)) lawful (fun t => (t.brc.confirmed, t.drc.inForce)) =
      some (false, none) := ⟨lawful_doors, by decide +kernel, by decide +kernel, by decide +kernel, by decide +kernel⟩

theorem witness_EveryStepKeepsDoorLaw : DoorLaw lawful ∧ answers lawful = true := ⟨lawful_doors, by decide +kernel⟩

theorem lawful_params : ParamsLaw lawful := by
  refine ⟨fun n h1 h2 => ?_, fun n v h1 h2 h => ?_, by decide +kernel, by decide +kernel, by decide +kernel,
    by decide +kernel⟩
  · have h : ∀ n ∈ List.range 53, 1 ≤ n → valueInRange n (paramValue lawful.cmc.params n) = true := by decide +kernel
    exact h n (List.mem_range.2 (by omega)) h1
  · have h3 : ∀ n ∈ List.range 32, pendingValue lawful.cmc.pendingSet n = none := by decide +kernel
    rw [h3 n (List.mem_range.2 (by omega))] at h
    cases h

theorem witness_EveryStepKeepsParamsLaw : ParamsLaw lawful ∧ answers lawful = true :=
  ⟨lawful_params, by decide +kernel⟩

theorem witness_EveryStepKeepsBrakesLaw : ParamsLaw lawful ∧ BrakesLaw lawful ∧ answers lawful = true :=
  ⟨lawful_params, by unfold BrakesLaw BrakesSettled; decide +kernel, by decide +kernel⟩

end Sys2Proof.Tests
end

section
/-! SUPPORT. The tables of active and pending parameters (R10 to R12): what a write to one of them reads back, what the
pending set applied gives, and that every clamp answers a value in its parameter's range. -/

namespace Sys2Proof.Machine

/-! ### Reading after a write -/

theorem paramValue_setParam_self (p : Table Nat 52) {n : Nat} (v : Nat) (h1 : 1 ≤ n) (h2 : n ≤ 52) :
    paramValue (setParam p n v) n = v := by
  simp [paramValue, setParam, Table.get_set_self p v (show n - 1 < 52 by omega)]

theorem paramValue_setParam_other (p : Table Nat 52) {m n : Nat} (v : Nat) (h1 : 1 ≤ m) (h2 : 1 ≤ n) (h : m ≠ n) :
    paramValue (setParam p n v) m = paramValue p m := by
  simp [paramValue, setParam, Table.get_set_other p v (show m - 1 ≠ n - 1 by omega)]

theorem pendingValue_set_self (q : Table (Option Nat) 31) {n : Nat} (v : Nat) (h1 : 1 ≤ n) (h2 : n ≤ 31) :
    pendingValue (q.set (n - 1) (some v)) n = some v := by
  simp [pendingValue, Table.get_set_self q (some v) (show n - 1 < 31 by omega)]

theorem pendingValue_set_other (q : Table (Option Nat) 31) {m n : Nat} (v : Nat) (h1 : 1 ≤ m) (h2 : 1 ≤ n)
    (h : m ≠ n) : pendingValue (q.set (n - 1) (some v)) m = pendingValue q m := by
  simp [pendingValue, Table.get_set_other q (some v) (show m - 1 ≠ n - 1 by omega)]

@[simp] theorem pendingValue_emptyPending (n : Nat) : pendingValue emptyPending n = none := by
  simp only [pendingValue, emptyPending, Table.replicate, Table.get?, List.getElem?_replicate]
  split <;> rfl

theorem table_ext {α : Type} {n : Nat} {a b : Table α n} (h : a.list = b.list) : a = b := by
  cases a; cases b; simpa using h

/-! ### The pending set applied (R12) -/

/-- A pending set that counts no value is the empty one. -/
theorem eq_emptyPending_of_count {q : Table (Option Nat) 31} (h : pendingCount q = 0) : q = emptyPending := by
  refine table_ext (List.eq_replicate_iff.2 ⟨q.len, fun x hx => ?_⟩)
  simp only [pendingCount, List.length_eq_zero_iff, List.filter_eq_nil_iff] at h
  simpa using h x hx

/-- The pending set applied makes each pending value active and leaves every other parameter. -/
theorem paramValue_applyPending (p : Table Nat 52) (q : Table (Option Nat) 31) {n : Nat} (h1 : 1 ≤ n) (h2 : n ≤ 52) :
    paramValue (applyPending p q) n = (pendingValue q n).getD (paramValue p n) := by
  have hp : n - 1 < p.list.length := by rw [p.len]; omega
  simp only [paramValue, pendingValue, applyPending, Table.get?, List.getElem?_zipWith, List.getElem?_eq_getElem hp]
  by_cases hq : n - 1 < q.list.length
  · rw [List.getElem?_append_left hq, List.getElem?_eq_getElem hq]; rfl
  · have hr : n - 1 - q.list.length < 21 := by rw [q.len]; omega
    rw [List.getElem?_append_right (by omega), List.getElem?_replicate, if_pos hr,
      List.getElem?_eq_none (by omega)]
    rfl

@[simp] theorem applyPending_emptyPending (p : Table Nat 52) : applyPending p emptyPending = p := by
  refine table_ext (List.ext_getElem? fun i => ?_)
  simp only [applyPending, emptyPending, Table.replicate, List.replicate_append_replicate, List.getElem?_zipWith,
    List.getElem?_replicate]
  by_cases h : i < 52
  · rw [if_pos h]; cases p.list[i]? <;> rfl
  · rw [if_neg h, List.getElem?_eq_none (by rw [p.len]; omega)]

/-- Newly active values are CMC's, and nothing else of CMC changes. -/
@[simp] theorem activate_cmc (p : Table Nat 52) (s : State) : (activate p s).cmc = { s.cmc with params := p } := by
  simp [activate]

/-- CMC after the pending set has become active whole: the values active, the set empty (R12). -/
@[simp] theorem applyPendingSet_cmc (s : State) :
    (applyPendingSet s).cmc =
      { s.cmc with params := applyPending s.cmc.params s.cmc.pendingSet, pendingSet := emptyPending } := by
  unfold applyPendingSet
  split
  · rename_i h
    rw [eq_emptyPending_of_count h, applyPending_emptyPending]
    rw [← eq_emptyPending_of_count h]
  · simp

/-! ### Clamps and ranges (R11, R165, R201) -/

theorem paramRange_ordered (n : Nat) : (paramRange n).1 ≤ (paramRange n).2 := by
  unfold paramRange
  split <;> decide

theorem le_clampTo (r : Nat × Nat) (v : Nat) : r.1 ≤ clampTo r v := le_max_left _ _

theorem clampTo_le {r : Nat × Nat} (h : r.1 ≤ r.2) (v : Nat) : clampTo r v ≤ r.2 := by
  simp only [clampTo]; omega

/-- A clamped rate is one of the five rates of R165. -/
theorem valueInRange_clampRate (v : Nat) : valueInRange 50 (clampRate v) = true := by
  unfold clampRate
  repeat' split
  all_goals rfl

/-- A parameter but for the margins is clamped into its range, whatever its partner. -/
theorem valueInRange_clampParam {n : Nat} (h10 : n ≠ 10) (h11 : n ≠ 11) (partner v : Nat) :
    valueInRange n (clampParam n partner v) = true := by
  by_cases h50 : n = 50
  · subst h50; exact valueInRange_clampRate v
  · simp only [valueInRange, clampParam, if_neg h10, if_neg h11, if_neg h50, Bool.and_eq_true, decide_eq_true_eq]
    exact ⟨le_clampTo _ _, clampTo_le (paramRange_ordered n) _⟩

theorem valueInRange_serviceMargin {v : Nat} : valueInRange 10 v = true ↔ 100 ≤ v ∧ v ≤ 1500 := by
  simp [valueInRange]

theorem valueInRange_emergencyMargin {v : Nat} : valueInRange 11 v = true ↔ 101 ≤ v ∧ v ≤ 2000 := by
  simp [valueInRange]

/-- A written service margin lies in its range and below the emergency margin it was clamped against. -/
theorem clamped_serviceMargin {partner : Nat} (h : valueInRange 11 partner = true) (v : Nat) :
    valueInRange 10 (clampParam 10 partner v) = true ∧ clampParam 10 partner v < partner := by
  rw [valueInRange_emergencyMargin] at h
  rw [valueInRange_serviceMargin]
  simp only [clampParam, if_pos, clampTo, serviceMarginRange]
  omega

/-- A written emergency margin lies in its range and above the service margin it was clamped against. -/
theorem clamped_emergencyMargin {partner : Nat} (h : valueInRange 10 partner = true) (v : Nat) :
    valueInRange 11 (clampParam 11 partner v) = true ∧ partner < clampParam 11 partner v := by
  rw [valueInRange_serviceMargin] at h
  rw [valueInRange_emergencyMargin]
  simp only [clampParam, if_pos, clampTo, emergencyMarginRange, if_neg (show ¬(11 : Nat) = 10 by decide)]
  omega

/-- The values of a stored image as they become active (R201). -/
theorem paramValue_loadedParams (values : List Nat) {n : Nat} (h1 : 1 ≤ n) (h2 : n ≤ 52) :
    paramValue (loadedParams values) n = loadedValue values n := by
  have h : n - 1 < 52 := by omega
  simp [paramValue, loadedParams, Table.get?, h, Nat.sub_add_cancel h1]

/-- Every value of a stored image is clamped into its range (R201). -/
theorem valueInRange_loadedValue (values : List Nat) (n : Nat) : valueInRange n (loadedValue values n) = true := by
  by_cases h10 : n = 10
  · subst h10
    rw [valueInRange_serviceMargin]
    simp only [loadedValue, if_pos, clampTo]; omega
  · by_cases h11 : n = 11
    · subst h11
      rw [valueInRange_emergencyMargin]
      simp only [loadedValue, if_pos, clampTo, emergencyMarginRange, if_neg h10]; omega
    · simp only [loadedValue, if_neg h10, if_neg h11]
      exact valueInRange_clampParam h10 h11 _ _

/-- The stored emergency margin ends above the stored service margin (R201). -/
theorem loadedValue_margins (values : List Nat) : loadedValue values 10 < loadedValue values 11 := by
  simp only [loadedValue, if_pos, clampTo, emergencyMarginRange, if_neg (show ¬(11 : Nat) = 10 by decide)]
  omega

theorem strapSelection_lt (pins : PowerOnPins) : strapSelection pins < 8 := by
  unfold strapSelection
  split <;> split <;> split <;> decide

/-- The values of every strap set, with the defaults of the rest, lie in their ranges (R199). -/
theorem valueInRange_strapParams {k n : Nat} (hk : k < 8) (h1 : 1 ≤ n) (h2 : n ≤ 52) :
    valueInRange n (paramValue (strapParams k) n) = true := by
  have h : ∀ k < 8, ∀ n < 53, 1 ≤ n → valueInRange n (paramValue (strapParams k) n) = true := by decide +kernel
  exact h k hk n (by omega) h1

theorem strapParams_margins {k : Nat} (hk : k < 8) :
    paramValue (strapParams k) 10 < paramValue (strapParams k) 11 := by
  have h : ∀ k < 8, paramValue (strapParams k) 10 < paramValue (strapParams k) 11 := by decide +kernel
  exact h k hk

end Sys2Proof.Machine
end

section
/-! SUPPORT. Which commands leave mode, parameters, pending set and start-up load alone: all but seven. -/

namespace Sys2Proof.Machine

/-- From `s` to `t` the mode, the active and the pending values stay, and no start-up load begins. -/
def SettingsKept (s t : State) : Prop :=
  t.cmc.mode = s.cmc.mode ∧ t.cmc.params = s.cmc.params ∧ t.cmc.pendingSet = s.cmc.pendingSet ∧
  (t.sld.status = .loading → s.sld.status = .loading)

/-- The operation touches neither CMC nor SLD. -/
def LeavesSettings (f : State → State) : Prop := ∀ s, (f s).cmc = s.cmc ∧ (f s).sld = s.sld

theorem SettingsKept.of_eq {s t : State} (hc : t.cmc = s.cmc) (hs : t.sld = s.sld) : SettingsKept s t := by
  simp [SettingsKept, hc, hs]

theorem SettingsKept.refl (s : State) : SettingsKept s s := .of_eq rfl rfl

theorem LeavesSettings.kept {f : State → State} (h : LeavesSettings f) (s : State) : SettingsKept s (f s) :=
  .of_eq (h s).1 (h s).2

/-- A request keeps what its owner keeps. -/
theorem SettingsKept.request (q : Byte) {owner : State → Reply × State} {s : State}
    (h : SettingsKept s (owner s).2) : SettingsKept s (request q owner s) := by
  unfold Machine.request
  split
  · exact .of_eq rfl rfl
  · exact h

/-! ### Events of DRC -/

theorem LeavesSettings.foldl {α : Type} {f : State → α → State} (h : ∀ a, LeavesSettings fun s => f s a) (l : List α) :
    LeavesSettings fun s => l.foldl f s :=
  fun s => ⟨foldl_keeps (·.cmc) (fun s a => (h a s).1) l s, foldl_keeps (·.sld) (fun s a => (h a s).2) l s⟩

theorem LeavesSettings.drcEvent {f : State → State} (h : LeavesSettings f) : LeavesSettings (drcEvent f) :=
  fun s => ⟨drcEvent_cmc f (fun s => (h s).1) s, drcEvent_sld f (fun s => (h s).2) s⟩

theorem LeavesSettings.lineEvent (d : Drive) (level : DoorInputs → DoorInputs) {f : Leaf → State → State}
    (h : ∀ l, LeavesSettings (f l)) : LeavesSettings (lineEvent d level f) := by
  refine LeavesSettings.drcEvent fun s => ?_
  dsimp only
  split
  · exact ⟨rfl, rfl⟩
  · exact h _ _

theorem LeavesSettings.timerEvent (d : Drive) {f : Leaf → State → State} (h : ∀ l, LeavesSettings (f l)) :
    LeavesSettings (timerEvent d f) := by
  intro s
  unfold Machine.timerEvent
  split
  · exact ⟨rfl, rfl⟩
  · split
    · exact LeavesSettings.drcEvent (h _) s
    · exact ⟨rfl, rfl⟩

/-- An operation taken under a condition. -/
theorem LeavesSettings.ite (p : Prop) [Decidable p] {f : State → State} (h : LeavesSettings f) :
    LeavesSettings fun s => if p then f s else s := by
  intro s
  dsimp only
  split
  · exact h s
  · exact ⟨rfl, rfl⟩

theorem openLeaf_leavesSettings (d : Drive) : LeavesSettings (openLeaf d) := fun s => by simp

theorem openSwitchMade_leavesSettings (d : Drive) (l : Leaf) : LeavesSettings (openSwitchMade d l) := by
  intro s
  unfold openSwitchMade
  split <;> simp

theorem closedSwitchChanged_leavesSettings (d : Drive) (made : Bool) (l : Leaf) :
    LeavesSettings (closedSwitchChanged d made l) := by
  intro s
  unfold closedSwitchChanged
  repeat' split
  all_goals simp

theorem lockSwitchChanged_leavesSettings (d : Drive) (confirms : Bool) (l : Leaf) :
    LeavesSettings (lockSwitchChanged d confirms l) := by
  intro s
  unfold lockSwitchChanged lockedSwitchChanged
  repeat' split
  all_goals simp

theorem pressButton_leavesSettings (d : Drive) (l : Leaf) : LeavesSettings (pressButton d l) := by
  intro s
  unfold pressButton
  split
  · split
    · exact LeavesSettings.foldl openLeaf_leavesSettings _ s
    · simp
  · exact ⟨rfl, rfl⟩

/-! ### The owners of the requests -/

@[simp] theorem storeRelease_event (r : Release) (s : State) :
    (drcEvent (storeRelease r) s).cmc = s.cmc ∧ (drcEvent (storeRelease r) s).sld = s.sld :=
  LeavesSettings.drcEvent (fun s => by simp) s

@[simp] theorem isolateLeaf_event (d : Drive) (c : IsolationCause) (s : State) :
    (drcEvent (isolateLeaf d c) s).cmc = s.cmc ∧ (drcEvent (isolateLeaf d c) s).sld = s.sld :=
  LeavesSettings.drcEvent (fun s => by simp) s

@[simp] theorem restoreLeaf_event (d : Drive) (s : State) :
    (drcEvent (restoreLeaf d) s).cmc = s.cmc ∧ (drcEvent (restoreLeaf d) s).sld = s.sld :=
  LeavesSettings.drcEvent (fun s => by simp) s

theorem judgeRelease148_kept (side : Byte) (s : State) : SettingsKept s (judgeRelease148 side s).2 := by
  unfold judgeRelease148
  repeat' split
  all_goals exact .of_eq (by simp [refused]) (by simp [refused])

theorem judgeWithdraw_kept (s : State) : SettingsKept s (judgeWithdraw s).2 := by
  unfold judgeWithdraw
  split
  · exact LeavesSettings.kept (LeavesSettings.drcEvent fun s => by simp) s
  · exact .refl s

theorem judgeOpenSide_kept (side : Byte) (s : State) : SettingsKept s (judgeOpenSide side s).2 := by
  unfold judgeOpenSide
  split
  · exact .refl s
  · split
    · exact (LeavesSettings.drcEvent fun s => LeavesSettings.foldl openLeaf_leavesSettings _ s).kept s
    · exact .refl s

theorem judgeCloseSide_kept (side : Byte) (s : State) : SettingsKept s (judgeCloseSide side s).2 := by
  unfold judgeCloseSide
  split
  · exact .refl s
  · exact LeavesSettings.kept (LeavesSettings.drcEvent fun s => by simp) s

theorem judgeForceClose_kept (drive : Byte) (s : State) : SettingsKept s (judgeForceClose drive s).2 := by
  unfold judgeForceClose
  split
  · exact .refl s
  · split
    · exact LeavesSettings.kept (LeavesSettings.drcEvent fun s => by simp) s
    · exact .refl s

theorem judgeIsolate_kept (drive : Byte) (s : State) : SettingsKept s (judgeIsolate drive s).2 := by
  unfold judgeIsolate
  repeat' split
  all_goals exact .of_eq (by simp [refused]) (by simp [refused])

theorem judgeRestore_kept (drive : Byte) (s : State) : SettingsKept s (judgeRestore drive s).2 := by
  unfold judgeRestore
  repeat' split
  all_goals exact .of_eq (by simp [refused]) (by simp [refused])

theorem judgeSetPosition_kept (p u : Nat) (s : State) : SettingsKept s (judgeSetPosition p u s).2 := by
  unfold judgeSetPosition
  repeat' split
  all_goals exact .of_eq (by simp [refused]) (by simp [refused])

theorem judgeSetDirection_kept (code : Byte) (s : State) : SettingsKept s (judgeSetDirection code s).2 := by
  unfold judgeSetDirection
  repeat' split
  all_goals simp [SettingsKept, refused, changeDirection]

theorem judgeAdd_kept (q : RestrictionRequest) (s : State) : SettingsKept s (judgeAdd q s).2 := by
  unfold judgeAdd
  repeat' split
  all_goals exact .of_eq (by simp [refused]) (by simp [refused])

theorem judgeAmend_kept (q : RestrictionRequest) (s : State) : SettingsKept s (judgeAmend q s).2 := by
  unfold judgeAmend
  repeat' split
  all_goals exact .of_eq (by simp [refused]) (by simp [refused])

theorem judgeRevoke_kept (origin : Byte) (id : Half) (s : State) : SettingsKept s (judgeRevoke origin id s).2 := by
  unfold judgeRevoke
  repeat' split
  all_goals exact .of_eq (by simp [refused]) (by simp [refused])

theorem judgeResetEmergency_kept (s : State) : SettingsKept s (judgeResetEmergency s).2 := by
  unfold judgeResetEmergency
  repeat' split
  all_goals exact .of_eq (by simp [refused]) (by simp [refused])

theorem judgeDriverBrake_kept (level : Half) (s : State) : SettingsKept s (judgeDriverBrake level s).2 := by
  unfold judgeDriverBrake
  split
  all_goals exact .of_eq (by simp [refused]) (by simp [refused])

theorem judgeHoldRequest_kept (value : Byte) (s : State) : SettingsKept s (judgeHoldRequest value s).2 := by
  unfold judgeHoldRequest
  repeat' split
  all_goals exact .of_eq (by simp [refused]) (by simp [refused])

theorem judgeStartTest_kept (s : State) : SettingsKept s (judgeStartTest s).2 := by
  unfold judgeStartTest
  repeat' split
  all_goals exact .of_eq (by simp [refused]) (by simp [refused])

theorem judgeProfileBegin_kept (count length : Nat) (s : State) :
    SettingsKept s (judgeProfileBegin count length s).2 := by
  unfold judgeProfileBegin
  repeat' split
  all_goals exact .of_eq (by simp [refused]) (by simp [refused])

theorem judgeProfileSegment_kept (index : Nat) (r : SegmentRecord) (s : State) :
    SettingsKept s (judgeProfileSegment index r s).2 := by
  unfold judgeProfileSegment
  repeat' split
  all_goals exact .of_eq (by simp [refused]) (by simp [refused])

theorem judgeProfileEnd_kept (s : State) : SettingsKept s (judgeProfileEnd s).2 := by
  unfold judgeProfileEnd
  repeat' split
  all_goals exact .of_eq (by simp [refused]) (by simp [refused])

/-- An accepted save ends no start-up load and begins none (R202). -/
theorem judgeSave_kept (s : State) : SettingsKept s (judgeSave s).2 := by
  unfold judgeSave
  repeat' split
  · exact .refl s
  · exact .refl s
  · simp [SettingsKept]

theorem judgeReadRestriction_kept (slot : Byte) (s : State) : SettingsKept s (judgeReadRestriction slot s).2 := by
  unfold judgeReadRestriction
  split <;> exact .refl s

theorem judgeFindRestriction_kept (origin : Byte) (id : Half) (s : State) :
    SettingsKept s (judgeFindRestriction origin id s).2 := by
  unfold judgeFindRestriction
  repeat' split
  all_goals exact .refl s

theorem judgeLookupLimit_kept (position : Nat) (direction : Byte) (s : State) :
    SettingsKept s (judgeLookupLimit position direction s).2 := by
  unfold judgeLookupLimit
  split <;> exact .refl s

theorem judgeReadNotice_kept (s : State) : SettingsKept s (judgeReadNotice s).2 := by
  unfold judgeReadNotice
  split <;> exact .of_eq rfl rfl

theorem judgeReadTestResult_kept (s : State) : SettingsKept s (judgeReadTestResult s).2 := by
  unfold judgeReadTestResult
  dsimp only
  split <;> exact .refl s

theorem judgeReadParameter_kept (n : Nat) (s : State) : SettingsKept s (judgeReadParameter n s).2 := by
  unfold judgeReadParameter
  split <;> exact .refl s

/-! ### LINE_RESET parts, and the events of ODO, BRC and VRL -/

theorem afterPart_kept (p : ResetParts) (s : State) : SettingsKept s (afterPart p s) := by
  simp only [afterPart]
  split <;> simp [SettingsKept]

/-- The state after an owner's part of a LINE_RESET, taken or not. -/
theorem takePart_kept (outstanding : Bool) (left : ResetParts) {part : State → State} (h : LeavesSettings part)
    (s : State) : ∃ t, takePart outstanding left part s = .next t ∧ SettingsKept s t := by
  refine ⟨_, rfl, ?_⟩
  split
  · obtain ⟨hm, hp, hq, hs⟩ := afterPart_kept left (part s)
    obtain ⟨hc, hd⟩ := h s
    exact ⟨by rw [hm, hc], by rw [hp, hc], by rw [hq, hc], fun hl => hd ▸ hs hl⟩
  · exact .refl s

theorem resetDoors_leavesSettings : LeavesSettings (drcEvent resetDoors) :=
  LeavesSettings.drcEvent fun s => by simp

theorem execFeedbackChange_kept (f : Feedback) (s : State) :
    ∃ t, execFeedbackChange f s = .next t ∧ SettingsKept s t := by
  refine ⟨_, rfl, ?_⟩
  split <;> exact .of_eq (by simp) (by simp)

theorem execCheckTimerExpiry_kept (c : Channel) (s : State) :
    ∃ t, execCheckTimerExpiry c s = .next t ∧ SettingsKept s t := by
  refine ⟨_, rfl, ?_⟩
  dsimp only
  repeat' split
  all_goals exact .of_eq (by simp) (by simp)

theorem execStepTimerExpiry_kept (s : State) : ∃ t, execStepTimerExpiry s = .next t ∧ SettingsKept s t := by
  refine ⟨_, rfl, ?_⟩
  split <;> exact .of_eq (by simp) (by simp)

theorem execPulseCount_kept (pair : Pair) (way : Way) (s : State) :
    ∃ t, execPulseCount pair way s = .next t ∧ SettingsKept s t := by
  refine ⟨_, rfl, ?_⟩
  split <;> exact .of_eq (by simp) (by simp)

theorem execIllegalStep_kept (pair : Pair) (s : State) : ∃ t, execIllegalStep pair s = .next t ∧ SettingsKept s t :=
  ⟨_, rfl, by cases pair <;> exact .of_eq rfl rfl⟩

theorem execSpeedUpdate_kept (rtbFirst : Bool) (s : State) :
    ∃ t, execSpeedUpdate rtbFirst s = .next t ∧ SettingsKept s t := by
  refine ⟨_, rfl, ?_⟩
  split <;> exact .of_eq (by simp) (by simp)

theorem telegramArrives_kept (h : Header) (t : Telegram) (b : Bool) (s : State) :
    SettingsKept s (telegramArrives h t b s) := .of_eq (by simp) (by simp)

/-- An event that takes an operation under a condition. -/
theorem ite_kept (p : Prop) [Decidable p] {s t u : State} (ht : SettingsKept s t) (hu : SettingsKept s u) :
    SettingsKept s (if p then t else u) := by
  split
  · exact ht
  · exact hu

/-- The end of a save ends no start-up load and begins none (R202). -/
theorem execSaveEnd_kept (readBack : List Byte) (signature : Byte) (s : State) :
    ∃ t, execSaveEnd readBack signature s = .next t ∧ SettingsKept s t := by
  refine ⟨_, rfl, ite_kept _ ?_ (.refl s)⟩
  unfold SettingsKept saveOutcome
  split <;> simp

/-! ### The commands -/

/-- The commands that can change the mode, a parameter value or the start-up load. -/
def changesSettings : Instr → Bool
  | .powerOn _ => true
  | .settingsLoadEnd _ => true
  | .hostFrameRejected _ => true
  | .setMode _ => true
  | .setParameter _ _ => true
  | .lineReset => true
  | .standstillExpiry => true
  | _ => false

/-- Every other command keeps mode, active and pending values, and begins no start-up load. -/
theorem exec_kept (c : Instr) (s : State) (hc : changesSettings c = false) :
    ∃ t, exec c s = .next t ∧ SettingsKept s t :=
  match c with
  | .powerOn _ => absurd hc Bool.noConfusion
  | .settingsLoadEnd _ => absurd hc Bool.noConfusion
  | .hostFrameRejected _ => absurd hc Bool.noConfusion
  | .setMode _ => absurd hc Bool.noConfusion
  | .setParameter _ _ => absurd hc Bool.noConfusion
  | .lineReset => absurd hc Bool.noConfusion
  | .standstillExpiry => absurd hc Bool.noConfusion
  | .saveEnd readBack signature => execSaveEnd_kept readBack signature s
  | .readResponse => ⟨_, rfl, .of_eq rfl rfl⟩
  | .readAttention => ⟨_, rfl, .request _ (.of_eq rfl rfl)⟩
  | .setAttentionMask _ => ⟨_, rfl, .request _ (.of_eq rfl rfl)⟩
  | .readStatus => ⟨_, rfl, .request _ (.refl s)⟩
  | .readPosition => ⟨_, rfl, .request _ (.refl s)⟩
  | .readRestriction slot => ⟨_, rfl, .request _ (judgeReadRestriction_kept slot s)⟩
  | .findRestriction origin id => ⟨_, rfl, .request _ (judgeFindRestriction_kept origin id s)⟩
  | .lookupLimit position direction => ⟨_, rfl, .request _ (judgeLookupLimit_kept position.toNat direction s)⟩
  | .readDoors => ⟨_, rfl, .request _ (.refl s)⟩
  | .readNotice => ⟨_, rfl, .request _ (judgeReadNotice_kept s)⟩
  | .readTestResult => ⟨_, rfl, .request _ (judgeReadTestResult_kept s)⟩
  | .readRadio => ⟨_, rfl, .request _ (.refl s)⟩
  | .readParameter number => ⟨_, rfl, .request _ (judgeReadParameter_kept number.toNat s)⟩
  | .setDirection direction => ⟨_, rfl, .request _ (judgeSetDirection_kept direction s)⟩
  | .setPosition position uncertainty =>
    ⟨_, rfl, .request _ (judgeSetPosition_kept position.toNat uncertainty.toNat s)⟩
  | .odoLineReset => takePart_kept _ _ (fun s => by simp) s
  | .rtbLineReset => takePart_kept _ _ (fun s => by simp) s
  | .ssvLineReset => takePart_kept _ _ (fun s => by simp) s
  | .brcLineReset => takePart_kept _ _ (fun s => by simp) s
  | .drcLineReset => takePart_kept _ _ resetDoors_leavesSettings s
  | .vrlLineReset => takePart_kept _ _ (fun s => by simp) s
  | .addRestriction q => ⟨_, rfl, .request _ (judgeAdd_kept q s)⟩
  | .amendRestriction q => ⟨_, rfl, .request _ (judgeAmend_kept q s)⟩
  | .revokeRestriction origin id => ⟨_, rfl, .request _ (judgeRevoke_kept origin id s)⟩
  | .ackIntervention =>
    ⟨_, rfl, .request _ (.of_eq (takeAcknowledgement_keeps s).1 (takeAcknowledgement_keeps s).2.2.2.2.2.2.1)⟩
  | .resetEmergency => ⟨_, rfl, .request _ (judgeResetEmergency_kept s)⟩
  | .triggerEmergency => ⟨_, rfl, .request _ (.of_eq (by simp) (by simp))⟩
  | .driverBrake level => ⟨_, rfl, .request _ (judgeDriverBrake_kept level s)⟩
  | .holdRequest value => ⟨_, rfl, .request _ (judgeHoldRequest_kept value s)⟩
  | .doorCommandRelease side => ⟨_, rfl, .request _ (judgeRelease148_kept side s)⟩
  | .doorCommandWithdraw _ => ⟨_, rfl, .request _ (judgeWithdraw_kept s)⟩
  | .openSide side => ⟨_, rfl, .request _ (judgeOpenSide_kept side s)⟩
  | .closeSide side => ⟨_, rfl, .request _ (judgeCloseSide_kept side s)⟩
  | .forceClose drive => ⟨_, rfl, .request _ (judgeForceClose_kept drive s)⟩
  | .isolate drive => ⟨_, rfl, .request _ (judgeIsolate_kept drive s)⟩
  | .restore drive => ⟨_, rfl, .request _ (judgeRestore_kept drive s)⟩
  | .startBrakeTest => ⟨_, rfl, .request _ (judgeStartTest_kept s)⟩
  | .abortBrakeTest => ⟨_, rfl, .request _ (.of_eq (by simp) (by simp))⟩
  | .profileBegin count length => ⟨_, rfl, .request _ (judgeProfileBegin_kept count.toNat length.toNat s)⟩
  | .profileSegment index segment => ⟨_, rfl, .request _ (judgeProfileSegment_kept index.toNat segment s)⟩
  | .profileEnd => ⟨_, rfl, .request _ (judgeProfileEnd_kept s)⟩
  | .saveSettings => ⟨_, rfl, .request _ (judgeSave_kept s)⟩
  | .clearRadioErrors => ⟨_, rfl, .request _ (.of_eq rfl rfl)⟩
  | .pulseCount pair way => execPulseCount_kept pair way s
  | .illegalStep pair => execIllegalStep_kept pair s
  | .speedUpdate rtbFirst => execSpeedUpdate_kept rtbFirst s
  | .secondTick => ⟨_, rfl, .of_eq (by simp) (by simp)⟩
  | .restrictionExpiry _ => ⟨_, rfl, .of_eq (by simp) (by simp)⟩
  | .loopChange _ => ⟨_, rfl, .of_eq (by simp) (by simp)⟩
  | .feedbackChange feedback => execFeedbackChange_kept feedback s
  | .checkTimerExpiry channel => execCheckTimerExpiry_kept channel s
  | .stepTimerExpiry => execStepTimerExpiry_kept s
  | .openSwitch d _ =>
    ⟨_, rfl, (LeavesSettings.lineEvent d _ fun l => .ite _ (openSwitchMade_leavesSettings d l)).kept s⟩
  | .closedSwitch d made => ⟨_, rfl, (LeavesSettings.lineEvent d _ (closedSwitchChanged_leavesSettings d made)).kept s⟩
  | .lockSwitch d confirms =>
    ⟨_, rfl, (LeavesSettings.lineEvent d _ (lockSwitchChanged_leavesSettings d confirms)).kept s⟩
  | .obstruction d _ _ => ⟨_, rfl, (LeavesSettings.lineEvent d _ fun _ => .ite _ fun s => by simp).kept s⟩
  | .overcurrent d _ => ⟨_, rfl, (LeavesSettings.lineEvent d _ fun _ => .ite _ fun s => by simp).kept s⟩
  | .doorButton d _ => ⟨_, rfl, (LeavesSettings.lineEvent d _ fun l => .ite _ (pressButton_leavesSettings d l)).kept s⟩
  | .openTimeout d => ⟨_, rfl, (LeavesSettings.timerEvent d fun _ => .ite _ fun s => by simp).kept s⟩
  | .travelLimit d => ⟨_, rfl, (LeavesSettings.timerEvent d fun _ => .ite _ fun s => by simp).kept s⟩
  | .lockTimeout d => ⟨_, rfl, (LeavesSettings.timerEvent d fun _ => .ite _ fun s => by simp).kept s⟩
  | .autoCloseDwell d => ⟨_, rfl, (LeavesSettings.timerEvent d fun _ => .ite _ fun s => by simp).kept s⟩
  | .reverseTime d => ⟨_, rfl, (LeavesSettings.timerEvent d fun _ s => by simp).kept s⟩
  | .reopenDwell d => ⟨_, rfl, (LeavesSettings.timerEvent d fun _ => .ite _ fun s => by simp).kept s⟩
  | .holdRetryInterval d => ⟨_, rfl, (LeavesSettings.timerEvent d fun _ => .ite _ fun s => by simp).kept s⟩
  | .framing => ⟨_, rfl, ite_kept _ (.refl s) (.of_eq (by simp) (by simp))⟩
  | .check => ⟨_, rfl, ite_kept _ (.refl s) (.of_eq (by simp) (by simp))⟩
  | .frameDropped _ => ⟨_, rfl, ite_kept _ (.refl s) (.of_eq (by simp) (by simp))⟩
  | .beacon _ _ _ => ⟨_, rfl, ite_kept _ (.refl s) (.of_eq (by simp) (by simp))⟩
  | .restrict header _ listFirst => ⟨_, rfl, telegramArrives_kept header _ listFirst s⟩
  | .revoke header _ _ => ⟨_, rfl, telegramArrives_kept header _ false s⟩
  | .syncDone header _ => ⟨_, rfl, telegramArrives_kept header _ false s⟩
  | .doorRelease header _ _ => ⟨_, rfl, telegramArrives_kept header _ false s⟩
  | .doorWithdraw header _ => ⟨_, rfl, telegramArrives_kept header _ false s⟩
  | .poll header => ⟨_, rfl, telegramArrives_kept header _ false s⟩
  | .notice header _ _ => ⟨_, rfl, telegramArrives_kept header _ false s⟩
  | .ack header _ => ⟨_, rfl, telegramArrives_kept header _ false s⟩
  | .silenceExpiry => ⟨_, rfl, ite_kept _ (.of_eq (by simp) (by simp)) (.refl s)⟩
  | .windowStart _ => ⟨_, rfl, ite_kept _ (.of_eq (by simp) (by simp)) (.refl s)⟩
  | .transmissionEnd => ⟨_, rfl, ite_kept _ (.of_eq rfl rfl) (.refl s)⟩
  | .receivedBit _ => ⟨_, rfl, ite_kept _ (.refl s) (.of_eq (by simp) (by simp))⟩
  | .unknownDoorCommand _ _ => ⟨_, rfl, .request _ (.refl s)⟩

end Sys2Proof.Machine
end

section
/-! The law of the parameters (R8, R11, R12, R14), kept by each of the seven commands that can touch it. -/

namespace Sys2Proof.Machine

/-- A set with nothing pending: what is pending or active is what is active. -/
theorem pendingOrActive_of_none {s : State} {n : Nat} (h : pendingValue s.cmc.pendingSet n = none) :
    pendingOrActive s n = paramValue s.cmc.params n := by
  simp [pendingOrActive, h]

/-- What is pending or active is what applying the pending set makes active (R12). -/
theorem paramValue_applied (s : State) {n : Nat} (h1 : 1 ≤ n) (h2 : n ≤ 52) :
    paramValue (applyPending s.cmc.params s.cmc.pendingSet) n = pendingOrActive s n :=
  paramValue_applyPending _ _ h1 h2

/-- With nothing pending the law is one of the active values and of the mode. -/
theorem ParamsLaw.of_nothing_pending {s : State} (hq : s.cmc.pendingSet = emptyPending)
    (hr : ∀ n, 1 ≤ n → n ≤ 52 → valueInRange n (paramValue s.cmc.params n) = true)
    (hm : paramValue s.cmc.params 10 < paramValue s.cmc.params 11)
    (hl : s.sld.status = .loading → s.cmc.mode = .stabled) : ParamsLaw s := by
  have hnone : ∀ n, pendingValue s.cmc.pendingSet n = none := fun n => by rw [hq, pendingValue_emptyPending]
  refine ⟨hr, fun n v _ _ h => ?_, hm, ?_, fun _ n _ _ => hnone n, hl⟩
  · rw [hnone n] at h; cases h
  · rwa [pendingOrActive_of_none (hnone 10), pendingOrActive_of_none (hnone 11)]

/-- The law speaks of mode, parameters, pending set and start-up load alone. -/
theorem ParamsLaw.of_kept {s t : State} (h : ParamsLaw s) (k : SettingsKept s t) : ParamsLaw t := by
  obtain ⟨kmode, kparams, kpending, kload⟩ := k
  obtain ⟨hrange, hpending, hmargins, heffective, hnone, hload⟩ := h
  unfold ParamsLaw pendingOrActive
  rw [kmode, kparams, kpending]
  exact ⟨hrange, hpending, hmargins, heffective, hnone, fun hl => hload (kload hl)⟩

/-- What is pending or active lies in its range. -/
theorem ParamsLaw.pendingOrActive_inRange {s : State} (h : ParamsLaw s) {n : Nat} (h1 : 1 ≤ n) (h2 : n ≤ 31) :
    valueInRange n (pendingOrActive s n) = true := by
  obtain ⟨hrange, hpending, -⟩ := h
  unfold pendingOrActive
  cases hv : pendingValue s.cmc.pendingSet n with
  | none => exact hrange n h1 (by omega)
  | some v => exact hpending n v h1 h2 hv

/-- The pending set applied whole keeps the law in any mode that the start-up load allows (R8, R12). -/
theorem ParamsLaw.of_applied {s t : State} (h : ParamsLaw s)
    (hp : t.cmc.params = applyPending s.cmc.params s.cmc.pendingSet) (hq : t.cmc.pendingSet = emptyPending)
    (hl : t.sld.status = .loading → t.cmc.mode = .stabled) : ParamsLaw t := by
  have heffective : pendingOrActive s 10 < pendingOrActive s 11 := h.2.2.2.1
  refine .of_nothing_pending hq (fun n h1 h2 => ?_) ?_ hl
  · rw [hp, paramValue_applied s h1 h2]
    by_cases h31 : n ≤ 31
    · exact h.pendingOrActive_inRange h1 h31
    · have hnone : pendingValue s.cmc.pendingSet n = none := by
        simp [pendingValue, Table.get?, List.getElem?_eq_none (show s.cmc.pendingSet.list.length ≤ n - 1 by
          rw [s.cmc.pendingSet.len]; omega)]
      rw [pendingOrActive_of_none hnone]
      exact h.1 n h1 h2
  · rw [hp, paramValue_applied s (by decide) (by decide), paramValue_applied s (by decide) (by decide)]
    exact heffective

/-- The pending set emptied unapplied keeps the law (R13). -/
theorem ParamsLaw.of_emptied {s t : State} (h : ParamsLaw s) (hp : t.cmc.params = s.cmc.params)
    (hq : t.cmc.pendingSet = emptyPending) (hl : t.sld.status = .loading → t.cmc.mode = .stabled) : ParamsLaw t := by
  obtain ⟨hrange, -, hmargins, -⟩ := h
  exact .of_nothing_pending hq (hp ▸ hrange) (hp ▸ hmargins) hl

/-! ### SET_PARAMETER (R11) -/

/-- The value that a write stores lies in its parameter's range (R11, check 5). -/
theorem ParamsLaw.writtenValue_inRange {s : State} (h : ParamsLaw s) (n v : Nat) :
    valueInRange n (writtenValue s n v) = true := by
  unfold writtenValue
  by_cases h10 : n = 10
  · subst h10
    exact (clamped_serviceMargin (h.pendingOrActive_inRange (by decide) (by decide)) v).1
  · by_cases h11 : n = 11
    · subst h11
      exact (clamped_emergencyMargin (h.pendingOrActive_inRange (by decide) (by decide)) v).1
    · exact valueInRange_clampParam h10 h11 _ v

/-- A written margin keeps its side of the partner as the partner stands pending, or else active (R11). -/
theorem ParamsLaw.writtenValue_margins {s : State} (h : ParamsLaw s) (v : Nat) :
    writtenValue s 10 v < pendingOrActive s 11 ∧ pendingOrActive s 10 < writtenValue s 11 v :=
  ⟨(clamped_serviceMargin (h.pendingOrActive_inRange (n := 11) (by decide) (by decide)) v).2,
   (clamped_emergencyMargin (h.pendingOrActive_inRange (n := 10) (by decide) (by decide)) v).2⟩

/-- Two margins, one of which may have been written, stay in order. -/
theorem ParamsLaw.margins_after {s : State} (h : ParamsLaw s) {f : Nat → Nat} (n v : Nat)
    (hself : ∀ m, m = n → m = 10 ∨ m = 11 → f m = writtenValue s n v)
    (hother : ∀ m, m ≠ n → m = 10 ∨ m = 11 → f m = pendingOrActive s m) : f 10 < f 11 := by
  have hwritten := h.writtenValue_margins v
  have heffective : pendingOrActive s 10 < pendingOrActive s 11 := h.2.2.2.1
  by_cases h10 : 10 = n
  · rw [hself 10 h10 (.inl rfl), hother 11 (by omega) (.inr rfl), ← h10]; exact hwritten.1
  · rw [hother 10 h10 (.inl rfl)]
    by_cases h11 : 11 = n
    · rw [hself 11 h11 (.inr rfl), ← h11]; exact hwritten.2
    · rw [hother 11 h11 (.inr rfl)]; exact heffective

/-- A deferred write held in SERVICE or SHUNT keeps the law (R11). -/
theorem ParamsLaw.holdPending {s : State} (h : ParamsLaw s) {n : Nat} (h1 : 1 ≤ n) (h2 : n ≤ 31)
    (hm : s.cmc.mode.supervised = true) (v : Nat) : ParamsLaw (holdPending n (writtenValue s n v) s) := by
  obtain ⟨hrange, hpending, hmargins, -, -, hload⟩ := id h
  refine ⟨hrange, fun m w hm1 hm2 hw => ?_, hmargins, ?_, fun hu => absurd hm (by simp_all [Machine.holdPending]), hload⟩
  · by_cases hmn : m = n
    · subst hmn
      simp only [Machine.holdPending, pendingValue_set_self _ _ h1 h2, Option.some.injEq] at hw
      exact hw ▸ h.writtenValue_inRange m v
    · simp only [Machine.holdPending, pendingValue_set_other _ _ hm1 h1 hmn] at hw
      exact hpending m w hm1 hm2 hw
  · refine h.margins_after (f := pendingOrActive (Machine.holdPending n (writtenValue s n v) s)) n v
      (fun m hmn _ => ?_) (fun m hmn hmargin => ?_)
    · subst hmn
      simp [pendingOrActive, Machine.holdPending, pendingValue_set_self _ _ h1 h2]
    · simp [pendingOrActive, Machine.holdPending, pendingValue_set_other _ _ (show 1 ≤ m by omega) h1 hmn]

/-- A write that becomes active at once keeps the law: outside SERVICE and SHUNT, or of a parameter that is not
deferred (R11). -/
theorem ParamsLaw.written {s t : State} (h : ParamsLaw s) {n : Nat} (h1 : 1 ≤ n) (h2 : n ≤ 52)
    (hm : s.cmc.mode.supervised = false ∨ 31 < n) (v : Nat)
    (hc : t.cmc = { s.cmc with params := setParam s.cmc.params n (writtenValue s n v) }) (hs : t.sld = s.sld) :
    ParamsLaw t := by
  obtain ⟨hrange, hpending, hmargins, heffective, hnone, hload⟩ := id h
  have hself : paramValue t.cmc.params n = writtenValue s n v := by rw [hc]; exact paramValue_setParam_self _ _ h1 h2
  have hother : ∀ m, 1 ≤ m → m ≠ n → paramValue t.cmc.params m = paramValue s.cmc.params m := fun m hm1 hmn => by
    rw [hc]; exact paramValue_setParam_other _ _ hm1 h1 hmn
  have hq : t.cmc.pendingSet = s.cmc.pendingSet := by rw [hc]
  have hmode : t.cmc.mode = s.cmc.mode := by rw [hc]
  refine ⟨fun m hm1 hm2 => ?_, by rw [hq]; exact hpending, ?_, ?_, by rw [hq, hmode]; exact hnone,
    by rw [hs, hmode]; exact hload⟩
  · by_cases hmn : m = n
    · rw [hmn, hself]; exact h.writtenValue_inRange n v
    · rw [hother m hm1 hmn]; exact hrange m hm1 hm2
  all_goals rcases hm with hm | hm
  · refine h.margins_after (f := paramValue t.cmc.params) n v (fun m hmn _ => hmn ▸ hself) fun m hmn hmargin => ?_
    rw [hother m (by omega) hmn, pendingOrActive_of_none (hnone hm m (by omega) (by omega))]
  · rw [hother 10 (by decide) (by omega), hother 11 (by decide) (by omega)]; exact hmargins
  · refine h.margins_after (f := pendingOrActive t) n v (fun m hmn hmargin => ?_) fun m hmn hmargin => ?_
    · rw [pendingOrActive_of_none (by rw [hq]; exact hnone hm m (by omega) (by omega)), hmn, hself]
    · unfold pendingOrActive; rw [hq, hother m (by omega) hmn]
  · unfold pendingOrActive at heffective ⊢
    rwa [hq, hother 10 (by decide) (by omega), hother 11 (by decide) (by omega)]

theorem ParamsLaw.judgeSetParameter {s : State} (h : ParamsLaw s) (n v : Nat) :
    ParamsLaw (judgeSetParameter n v s).2 := by
  unfold Machine.judgeSetParameter
  split
  · exact h
  · rename_i hn
    split
    · exact h
    · split
      · exact h
      · split
        · exact h
        · dsimp only
          split
          · rename_i hd
            refine h.holdPending (by omega) ?_ hd.1 v
            by_contra hn31
            have hclass := hd.2
            simp only [paramClass, if_neg hn31] at hclass
            split at hclass <;> cases hclass
          · rename_i hd
            refine h.written (by omega) (by omega) ?_ v (activate_cmc _ s) (activate_keeps _ s).2.2.2.2.1
            cases hm : s.cmc.mode.supervised with
            | false => exact .inl rfl
            | true =>
              refine .inr (not_le.1 fun hn31 => hd ⟨hm, ?_⟩)
              simp [paramClass, hn31]

/-! ### SET_MODE, LINE_RESET and STANDSTILL_EXPIRY (R8, R12, R13) -/

@[simp] theorem storeMode_cmc (m : Mode) (s : State) : (storeMode m s).cmc = { s.cmc with mode := m } := by
  simp [storeMode]

/-- CMC after a change of mode: leaving SERVICE or SHUNT for STABLED or PREPARATION applies the pending set (R8). -/
theorem changeMode_cmc (m : Mode) (s : State) :
    (changeMode m s).cmc =
      if s.cmc.mode.supervised && !m.supervised then
        { s.cmc with mode := m, params := applyPending s.cmc.params s.cmc.pendingSet, pendingSet := emptyPending }
      else { s.cmc with mode := m } := by
  unfold changeMode
  split <;> simp

/-- A change of mode keeps the law, with the load over wherever the new mode is not STABLED (R6, R8). -/
theorem ParamsLaw.changeMode {s : State} (h : ParamsLaw s) (m : Mode) (hl : s.sld.status = .loading → m = .stabled) :
    ParamsLaw (changeMode m s) := by
  have hc := changeMode_cmc m s
  have hs : (Machine.changeMode m s).sld = s.sld := (changeMode_keeps m s).2.2.1
  obtain ⟨hrange, hpending, hmargins, heffective, hnone, -⟩ := id h
  by_cases hleave : (s.cmc.mode.supervised && !m.supervised) = true
  · rw [if_pos hleave] at hc
    exact h.of_applied (by rw [hc]) (by rw [hc]) (by rw [hc, hs]; exact hl)
  · rw [if_neg hleave] at hc
    refine ⟨by rw [hc]; exact hrange, by rw [hc]; exact hpending, by rw [hc]; exact hmargins, ?_, ?_,
      by rw [hc, hs]; exact hl⟩
    · unfold pendingOrActive; rw [hc]; exact heffective
    · rw [hc]
      intro hm
      refine hnone (Bool.eq_false_iff.2 fun hs => hleave ?_)
      rw [hs, show m.supervised = false from hm]; rfl

theorem ParamsLaw.judgeSetMode {s : State} (h : ParamsLaw s) (code : Byte) : ParamsLaw (judgeSetMode code s).2 := by
  unfold Machine.judgeSetMode
  split
  · exact h
  · rename_i target _
    repeat' split
    · exact h
    · exact h
    · exact h
    · exact h
    · exact h
    · rename_i hload _ _ _ _
      refine h.changeMode target fun hl => ?_
      by_contra hne
      exact hload ⟨by simp [State.loading, hl], hne⟩

theorem ParamsLaw.resetModes {s : State} (h : ParamsLaw s) (hl : s.sld.status ≠ .loading) :
    ParamsLaw (resetModes s) := by
  have hempty : ParamsLaw { s with cmc.pendingSet := emptyPending } :=
    h.of_emptied rfl rfl fun hload => absurd hload hl
  unfold Machine.resetModes
  dsimp only
  split
  · exact hempty.changeMode .preparation fun hload => absurd hload hl
  · exact hempty

theorem ParamsLaw.execLineReset {s : State} (h : ParamsLaw s) :
    ∃ t, execLineReset s = .next t ∧ ParamsLaw t := by
  refine ⟨_, rfl, ?_⟩
  refine ParamsLaw.of_kept (s := _) ?_ (.of_eq rfl rfl)
  repeat' split
  · exact h
  · exact h.of_kept (.of_eq rfl rfl)
  · exact h.of_kept (.of_eq rfl rfl)
  · rename_i hl _
    exact (h.resetModes fun he => hl (by simp [State.loading, he])).of_kept ⟨rfl, rfl, rfl, id⟩

theorem ParamsLaw.execStandstillExpiry {s : State} (h : ParamsLaw s) :
    ∃ t, execStandstillExpiry s = .next t ∧ ParamsLaw t := by
  refine ⟨_, rfl, ?_⟩
  split
  · exact h
  · refine ParamsLaw.of_kept ?_ (.of_eq (judgeRelease_keeps _).1 (judgeRelease_keeps _).2.2.2.2.2.1)
    refine ParamsLaw.of_kept ?_ (.of_eq (settle_keeps _).1 (settle_keeps _).2.2.2.2.2.2.2.2.1)
    have hload := h.2.2.2.2.2
    unfold modesStanding
    split
    · refine h.of_applied ?_ ?_ ?_ <;> simp
      exact hload
    · exact h.of_kept (.of_eq rfl rfl)

/-! ### SETTINGS_LOAD_END and POWER_ON (R14, R199, R201) -/

theorem takeStoredProfile_settings (b : ProfileBlock) (s : State) :
    (takeStoredProfile b s).cmc = s.cmc ∧ (takeStoredProfile b s).sld = s.sld := by
  unfold takeStoredProfile
  repeat' split
  all_goals simp

/-- The end of the start-up load keeps the law: the car is STABLED, with nothing pending (R14, R201). -/
theorem ParamsLaw.endStartUpLoad {s : State} (h : ParamsLaw s) (hl : s.loading = true) (image : List Byte) :
    ParamsLaw (endStartUpLoad image s) := by
  obtain ⟨-, -, -, -, hnone, hload⟩ := id h
  have hmode : s.cmc.mode = .stabled := hload (by simpa [State.loading] using hl)
  unfold Machine.endStartUpLoad
  split
  · exact h.of_kept (by simp [SettingsKept])
  · split
    · exact h.of_kept (by simp [SettingsKept])
    · obtain ⟨hc, hs⟩ := takeStoredProfile_settings (storedProfile image)
        (activate (loadedParams (storedValues image))
          { s with sld.status := .loaded, sld.clampMark := anyClamped (storedValues image) })
      have hq : s.cmc.pendingSet = emptyPending := by
        refine eq_emptyPending_of_count ?_
        simp only [pendingCount, List.length_eq_zero_iff, List.filter_eq_nil_iff]
        intro x hx
        obtain ⟨i, hi, hx⟩ := List.getElem_of_mem hx
        have hi31 : i < 31 := s.cmc.pendingSet.len ▸ hi
        have hn := hnone (by rw [hmode]; rfl) (i + 1) (by omega) (by omega)
        simp only [pendingValue, Table.get?, Nat.add_sub_cancel, List.getElem?_eq_getElem hi, hx] at hn
        simpa using hn
      refine .of_nothing_pending ?_ (fun n h1 h2 => ?_) ?_ ?_
      · rw [loadImage, hc, activate_cmc]; exact hq
      · rw [loadImage, hc, activate_cmc, paramValue_loadedParams _ h1 h2]; exact valueInRange_loadedValue _ n
      · rw [loadImage, hc, activate_cmc, paramValue_loadedParams _ (by decide) (by decide),
          paramValue_loadedParams _ (by decide) (by decide)]
        exact loadedValue_margins _
      · intro _
        rw [loadImage, hc, activate_cmc]; exact hmode

theorem ParamsLaw.execSettingsLoadEnd {s : State} (h : ParamsLaw s) (image : List Byte) :
    ∃ t, execSettingsLoadEnd image s = .next t ∧ ParamsLaw t := by
  refine ⟨_, rfl, ?_⟩
  split
  · rename_i hl
    exact h.endStartUpLoad hl image
  · exact h

theorem handAlarm_only_vrl (c : AlarmCause) (s : State) (v : RadioLink) :
    { handAlarm c s with vrl := v } = { s with vrl := v } := by
  unfold handAlarm
  split <;> rfl

theorem handAlarmIf_only_vrl (cond : Bool) (c : AlarmCause) (s : State) (v : RadioLink) :
    { handAlarmIf cond c s with vrl := v } = { s with vrl := v } := by
  unfold handAlarmIf
  split
  · exact handAlarm_only_vrl c s v
  · rfl

theorem firstAlarms_only_vrl (s : State) (v : RadioLink) : { firstAlarms s with vrl := v } = { s with vrl := v } := by
  unfold firstAlarms
  refine (foldl_keeps (fun s => { s with vrl := v }) (fun s d => handAlarmIf_only_vrl _ _ s v) Drive.all _).trans ?_
  exact (handAlarmIf_only_vrl _ _ _ v).trans (handAlarm_only_vrl _ s v)

/-- The part after power-on differs from the start values in VRL alone, which has taken the first telegrams (R14). -/
theorem start_only_vrl (pins : PowerOnPins) (waiting : List Instr) :
    start pins waiting = { startValues pins waiting with vrl := (start pins waiting).vrl } := by
  have hdoors : ∀ s v, { handDoorState s with vrl := v } = { s with vrl := v } := by
    intro s v
    unfold handDoorState
    split <;> rfl
  exact (hdoors (firstAlarms (startValues pins waiting)) (start pins waiting).vrl).trans (firstAlarms_only_vrl _ _)

/-- CMC and SLD after power-on are those of the start values (R14, R201). -/
theorem start_settings (pins : PowerOnPins) (waiting : List Instr) :
    (start pins waiting).cmc = (startValues pins waiting).cmc ∧
    (start pins waiting).sld = (startValues pins waiting).sld := by
  rw [start_only_vrl]; exact ⟨rfl, rfl⟩

/-- The part right after power-on satisfies the law, whatever the straps (R14, R199). -/
theorem paramsLaw_start (pins : PowerOnPins) (waiting : List Instr) : ParamsLaw (start pins waiting) := by
  obtain ⟨hc, hs⟩ := start_settings pins waiting
  refine .of_nothing_pending (by rw [hc]; rfl) (fun n h1 h2 => ?_) ?_ (fun _ => by rw [hc]; rfl)
  · rw [hc]; exact valueInRange_strapParams (strapSelection_lt pins) h1 h2
  · rw [hc]; exact strapParams_margins (strapSelection_lt pins)

/-! ### Every command, every step -/

theorem ParamsLaw.request {s : State} (h : ParamsLaw s) (q : Byte) {owner : State → Reply × State}
    (ho : ParamsLaw (owner s).2) : ParamsLaw (request q owner s) := by
  unfold Machine.request
  split
  · exact h.of_kept (.of_eq rfl rfl)
  · exact ho.of_kept (.of_eq rfl rfl)

/-- A well-formed transaction is its command, or has no owner and changes nothing (R194). -/
theorem takeRequest_cases (c : Instr) (s : State) :
    takeRequest c s = .next s ∨ (takeRequest c s = exec c s ∧ ∀ octets, c ≠ .hostFrameRejected octets) := by
  cases c <;> first | exact .inl rfl | exact .inr ⟨rfl, fun _ => Instr.noConfusion⟩

theorem ParamsLaw.exec_of_direct {s : State} (h : ParamsLaw s) (c : Instr)
    (hc : ∀ octets, c ≠ .hostFrameRejected octets) : ∃ t, exec c s = .next t ∧ ParamsLaw t := by
  by_cases hch : changesSettings c = false
  · obtain ⟨t, ht, hk⟩ := exec_kept c s hch
    exact ⟨t, ht, h.of_kept hk⟩
  · cases c with
    | powerOn pins => exact ⟨_, rfl, paramsLaw_start pins s.pending⟩
    | settingsLoadEnd image => exact h.execSettingsLoadEnd image
    | hostFrameRejected octets => exact absurd rfl (hc octets)
    | setMode code => exact ⟨_, rfl, h.request _ (h.judgeSetMode code)⟩
    | setParameter number value => exact ⟨_, rfl, h.request _ (h.judgeSetParameter number.toNat value.toNat)⟩
    | lineReset => exact h.execLineReset
    | standstillExpiry => exact h.execStandstillExpiry
    | _ => exact absurd rfl hch

theorem ParamsLaw.exec {s : State} (h : ParamsLaw s) (c : Instr) : ∃ t, exec c s = .next t ∧ ParamsLaw t := by
  by_cases hc : ∀ octets, c ≠ .hostFrameRejected octets
  · exact h.exec_of_direct c hc
  · push Not at hc
    obtain ⟨octets, rfl⟩ := hc
    change ∃ t, execHostFrameRejected octets s = .next t ∧ ParamsLaw t
    unfold execHostFrameRejected
    split
    · exact ⟨_, rfl, h.of_kept (.of_eq rfl rfl)⟩
    · exact ⟨_, rfl, h.request _ h⟩
    · rename_i c _
      rcases takeRequest_cases c s with hr | ⟨hr, hne⟩
      · exact ⟨s, hr, h⟩
      · rw [hr]; exact h.exec_of_direct c hne

/-- A step is a command taken on the state with some queue, or a millisecond. -/
theorem step_cases (s : State) :
    (∃ c rest, step s = exec c { s with pending := rest }) ∨ step s = .next (tick s) := by
  unfold step
  split
  · rename_i hp
    unfold idle
    split
    · rename_i c _
      exact .inl ⟨c, [], by rw [← hp]⟩
    · exact .inr rfl
  · rename_i c rest _
    exact .inl ⟨c, rest, rfl⟩

/-- Settles O59: seven commands can touch mode, values, pending set or start-up load, and each keeps the law; every
other command, and the passing of a millisecond, leaves all four alone. -/
theorem everyStepKeepsParamsLaw : Obligations.EveryStepKeepsParamsLaw := by
  intro s t h hstep
  rcases step_cases s with ⟨c, rest, hc⟩ | htick
  · obtain ⟨u, hu, hlaw⟩ := (h.of_kept (.of_eq rfl rfl) : ParamsLaw { s with pending := rest }).exec c
    rw [hc, hu] at hstep
    cases hstep
    exact hlaw
  · rw [htick] at hstep
    cases hstep
    exact h.of_kept (.of_eq rfl rfl)

end Sys2Proof.Machine
end

section
/-! SUPPORT. What an operation of DRC, and an event of DRC, can change outside DRC: the brakes' evaluation, the uplink queue
with its counter, and the attention set (R160 to R162, R177, R198). -/

namespace Sys2Proof.Machine

/-! ### The links: VRL but for the uplink queue, HLP but for the attention set -/

/-- From `s` to `t` VRL changes in its uplink queue and counter alone, and HLP in its attention set alone. -/
structure LinksKept (s t : State) : Prop where
  vrl : t.vrl = { s.vrl with queue := t.vrl.queue, uplinkCounter := t.vrl.uplinkCounter }
  hlp : t.hlp = { s.hlp with attention := t.hlp.attention }

namespace LinksKept

theorem refl (s : State) : LinksKept s s := ⟨rfl, rfl⟩

theorem trans {s t u : State} (h : LinksKept s t) (k : LinksKept t u) : LinksKept s u where
  vrl := k.vrl.trans (by rw [h.vrl])
  hlp := k.hlp.trans (by rw [h.hlp])

theorem of_eq {s t : State} (hv : t.vrl = s.vrl) (hh : t.hlp = s.hlp) : LinksKept s t := ⟨by rw [hv], by rw [hh]⟩

theorem slot {s t : State} (h : LinksKept s t) : t.hlp.slot = s.hlp.slot := by rw [h.hlp]

theorem raise (c : Attention) (s : State) : LinksKept s (raise c s) := ⟨rfl, rfl⟩

theorem handAlarm (c : AlarmCause) (s : State) : LinksKept s (handAlarm c s) := by
  unfold Machine.handAlarm
  split <;> exact ⟨rfl, rfl⟩

theorem handDoorState (s : State) : LinksKept s (handDoorState s) := by
  unfold Machine.handDoorState
  split <;> exact ⟨rfl, rfl⟩

theorem settle (s : State) : LinksKept s (settle s) := .of_eq (by simp) (by simp)

theorem abortTest (r : AbortReason) (s : State) : LinksKept s (abortTest r s) := by
  unfold Machine.abortTest testOver
  split
  · exact refl s
  · refine .trans ?_ (raise _ _)
    exact .of_eq (by simp) (by simp)

theorem addLatchCause (c : LatchCause) (s : State) : LinksKept s (addLatchCause c s) := by
  unfold Machine.addLatchCause
  split
  · exact refl s
  · refine .trans ?_ (settle _)
    refine .trans ?_ (abortTest _ _)
    refine .trans ?_ (handAlarm _ _)
    refine .trans ?_ (raise _ _)
    exact .of_eq rfl rfl

theorem addLatchIf (b : Bool) (c : LatchCause) (s : State) : LinksKept s (addLatchIf b c s) := by
  unfold Machine.addLatchIf
  split
  · exact addLatchCause c s
  · exact refl s

theorem followDoorHold (s : State) : LinksKept s (followDoorHold s) := by
  unfold Machine.followDoorHold
  dsimp only
  split
  · exact refl s
  · refine .trans ?_ (settle _)
    split
    · refine .trans ?_ (abortTest _ _)
      exact .of_eq rfl rfl
    · exact .of_eq rfl rfl

theorem flushReport (s : State) : LinksKept s (flushReport s) := by
  unfold Machine.flushReport
  split
  · refine .trans ?_ (handDoorState _)
    exact .of_eq rfl rfl
  · exact refl s

end LinksKept

/-! ### Operations of DRC on its leaves, gangs and records -/

/-- From `s` to `t` only leaves, gangs, records and lines of DRC move, with what they bring to the links: the brakes, ODO, CMC
and door hold stay. -/
structure DoorMove (s t : State) : Prop where
  cmc : t.cmc = s.cmc
  odo : t.odo = s.odo
  brc : t.brc = s.brc
  doorHold : t.drc.doorHold = s.drc.doorHold
  links : LinksKept s t

namespace DoorMove

theorem refl (s : State) : DoorMove s s := ⟨rfl, rfl, rfl, rfl, .refl s⟩

theorem trans {s t u : State} (h : DoorMove s t) (k : DoorMove t u) : DoorMove s u :=
  ⟨k.cmc.trans h.cmc, k.odo.trans h.odo, k.brc.trans h.brc, k.doorHold.trans h.doorHold, h.links.trans k.links⟩

theorem foldl {α : Type} {f : State → α → State} (h : ∀ s a, DoorMove s (f s a)) :
    ∀ (l : List α) (s : State), DoorMove s (l.foldl f s)
  | [], s => refl s
  | a :: l, s => (h s a).trans (foldl h l (f s a))

theorem raise (c : Attention) (s : State) : DoorMove s (raise c s) := ⟨rfl, rfl, rfl, rfl, .raise c s⟩

theorem handAlarm (c : AlarmCause) (s : State) : DoorMove s (handAlarm c s) :=
  ⟨by simp, by simp, by simp, by simp, .handAlarm c s⟩

theorem dueReport (s : State) : DoorMove s (dueReport s) := ⟨rfl, rfl, rfl, rfl, ⟨rfl, rfl⟩⟩

theorem setLeaf (d : Drive) (l : Leaf) (s : State) : DoorMove s (setLeaf d l s) := ⟨rfl, rfl, rfl, rfl, ⟨rfl, rfl⟩⟩

theorem setGang (side : Side) (g : Option Gang) (s : State) : DoorMove s (setGang side g s) := by
  cases side <;> exact ⟨rfl, rfl, rfl, rfl, ⟨rfl, rfl⟩⟩

theorem setMember (side : Side) (d : Drive) (b : Bool) (s : State) : DoorMove s (setMember side d b s) :=
  setGang side _ s

theorem setGangIndex (side : Side) (k : Nat) (s : State) : DoorMove s (setGangIndex side k s) := setGang side _ s

theorem enterState (d : Drive) (x : LeafState) (k : Nat) (t : Timer) (s : State) :
    DoorMove s (enterState d x k t s) := by
  unfold Machine.enterState
  split
  · exact refl s
  · exact (setLeaf d _ s).trans (dueReport _)

theorem isolationAlarm (c : IsolationCause) (s : State) : DoorMove s (isolationAlarm c s) := by
  cases c
  · exact handAlarm _ s
  · exact handAlarm _ s
  · exact refl s

theorem isolateLeaf (d : Drive) (c : IsolationCause) (s : State) : DoorMove s (isolateLeaf d c s) := by
  unfold Machine.isolateLeaf
  split
  · exact refl s
  · exact (((enterState d _ _ _ s).trans (setMember _ d _ _)).trans (raise _ _)).trans (isolationAlarm c _)

theorem enterLocked (d : Drive) (s : State) : DoorMove s (enterLocked d s) := by
  unfold Machine.enterLocked
  split
  · exact refl s
  · exact (enterState d _ _ _ s).trans (setMember _ d _ _)

theorem enterLocking (d : Drive) (s : State) : DoorMove s (enterLocking d s) := by
  unfold Machine.enterLocking
  split
  · exact refl s
  · dsimp only
    split
    · exact (enterState d _ _ _ s).trans (enterLocked d _)
    · exact enterState d _ _ _ s

theorem endDrive (d : Drive) (s : State) : DoorMove s (endDrive d s) := by
  unfold Machine.endDrive setPhase
  repeat' split
  · exact refl s
  · exact setLeaf d _ s
  · exact setLeaf d _ s
  · exact refl s

theorem enterReversing (d : Drive) (k : Nat) (s : State) : DoorMove s (enterReversing d k s) := by
  unfold Machine.enterReversing
  dsimp only
  split
  · exact (enterState d _ _ _ s).trans (endDrive d _)
  · exact enterState d _ _ _ s

theorem enterHeld (d : Drive) (s : State) : DoorMove s (enterHeld d s) := by
  unfold Machine.enterHeld
  split
  · exact refl s
  · dsimp only
    split
    · exact ((enterState d _ _ _ s).trans (raise _ _)).trans (endDrive d _)
    · exact (enterState d _ _ _ s).trans (raise _ _)

theorem obstruct (d : Drive) (s : State) : DoorMove s (obstruct d s) := by
  unfold Machine.obstruct
  split
  · exact refl s
  · dsimp only
    split
    · split
      · exact refl s
      · split
        · exact foldl (fun s d => enterHeld d s) _ s
        · exact (foldl (fun s d => enterReversing d _ s) _ s).trans (setGangIndex _ _ _)
    · split
      · exact enterHeld d s
      · exact enterReversing d _ s

theorem closingEntry (d : Drive) (s : State) : DoorMove s (closingEntry d s) := by
  unfold Machine.closingEntry
  dsimp only
  repeat' split
  · exact refl s
  · exact isolateLeaf d _ s
  · exact enterLocking d s
  · exact obstruct d s
  · exact refl s
  · exact refl s

theorem startClosing (ds : List Drive) (k : Nat) (s : State) : DoorMove s (startClosing ds k s) :=
  (foldl (fun s d => enterState d _ k _ s) ds s).trans (foldl (fun s d => closingEntry d s) ds _)

theorem closeLeaves (side : Side) (ds : List Drive) (s : State) : DoorMove s (closeLeaves side ds s) := by
  unfold Machine.closeLeaves
  split
  · exact (setGangIndex side 1 s).trans (startClosing ds 1 _)
  · exact startClosing ds 1 s

theorem enterUnlocked (d : Drive) (s : State) : DoorMove s (enterUnlocked d s) := by
  unfold Machine.enterUnlocked
  split
  · exact refl s
  · exact enterState d _ _ _ s

theorem unlockSide (side : Side) (s : State) : DoorMove s (unlockSide side s) := by
  refine foldl (fun s d => ?_) _ s
  unfold unlockLeaf
  split
  · exact isolateLeaf d _ s
  · exact enterUnlocked d s

/-- What DRC does when it judges release in force (R149, R150). -/
theorem judge (s : State) : DoorMove s (judge s) := by
  have hforce : ∀ x, DoorMove s { s with drc.inForce := x } := fun x => ⟨rfl, rfl, rfl, rfl, ⟨rfl, rfl⟩⟩
  unfold Machine.judge
  dsimp only
  split
  · exact refl s
  · have hloss : DoorMove s
        (match s.drc.inForce with
          | some side => closeOnLoss side { s with drc.inForce := releaseCondition s }
          | none => { s with drc.inForce := releaseCondition s }) := by
      split
      · exact (hforce _).trans (closeLeaves _ _ _)
      · exact hforce _
    split
    · exact hloss.trans (unlockSide _ _)
    · exact hloss

theorem freshFaults (before : Doors) (s : State) : DoorMove s (freshFaults before s) := by
  refine foldl (fun s d => ?_) _ s
  split
  · exact (raise _ s).trans (handAlarm _ _)
  · exact refl s

theorem formLeaves (s : State) : DoorMove s (formLeaves s) := by
  unfold Machine.formLeaves
  dsimp only
  split
  · exact ⟨rfl, rfl, rfl, rfl, ⟨rfl, rfl⟩⟩
  · refine .trans ?_ (dueReport _)
    refine .trans ?_ (freshFaults _ _)
    exact ⟨rfl, rfl, rfl, rfl, ⟨rfl, rfl⟩⟩

theorem gangOn (side : Side) (s : State) : DoorMove s (gangOn side s) := by
  refine .trans (foldl (fun s d => ?_) _ s) (setGang side _ _)
  split
  · exact setLeaf d _ s
  · exact refl s

theorem formGang (side : Side) (s : State) : DoorMove s (formGang side s) := by
  unfold Machine.formGang
  split
  · exact gangOn side s
  · exact setGang side none s
  · exact refl s

/-- What DRC does with newly active parameters (R142, R156). -/
theorem formBoth (s : State) : DoorMove s (Machine.formGang .right (Machine.formGang .left (Machine.formLeaves s))) :=
  ((formLeaves s).trans (formGang .left _)).trans (formGang .right _)

/-- What DRC does at a LINE_RESET (R163). -/
theorem resetDoors (s : State) : DoorMove s (resetDoors s) := by
  have h : DoorMove s { s with drc.release := none, drc.inForce := none, drc.lastRefused := none } :=
    ⟨rfl, rfl, rfl, rfl, ⟨rfl, rfl⟩⟩
  exact (((h.trans (setGangIndex .right 1 _)).trans (setGangIndex .left 1 _)).trans (dueReport _)).trans
    (startClosing _ 1 _)

end DoorMove

/-! ### Events of DRC -/

/-- An event of DRC touches the links as its operations do (R160 to R162). -/
theorem LinksKept.drcEvent {f : State → State} {s : State} (h : DoorMove s (f s)) : LinksKept s (drcEvent f s) :=
  ((h.links.trans (followDoorHold _)).trans (addLatchIf _ _ _)).trans (flushReport _)

theorem LinksKept.judgeRelease (s : State) : LinksKept s (judgeRelease s) := .drcEvent (.judge s)

theorem LinksKept.formDoors (s : State) : LinksKept s (formDoors s) := .drcEvent (.formBoth s)

/-- The evaluation of the brakes leaves the INTERVENTION demand, which SSV places (R105). -/
@[simp] theorem settle_intervention (s : State) :
    (settle s).brc.demands.intervention = s.brc.demands.intervention := by
  rw [(settle_brc s).2.2.2.1]; rfl

@[simp] theorem abortTest_intervention (r : AbortReason) (s : State) :
    (abortTest r s).brc.demands.intervention = s.brc.demands.intervention := by
  unfold abortTest
  split
  · rfl
  · simp [testOver, resumeSupervision]

/-- Door hold that follows the leaves touches neither latch nor INTERVENTION demand. -/
@[simp] theorem followDoorHold_brc (s : State) :
    (followDoorHold s).brc.latch = s.brc.latch ∧
    (followDoorHold s).brc.demands.intervention = s.brc.demands.intervention := by
  unfold followDoorHold
  dsimp only
  split
  · exact ⟨rfl, rfl⟩
  · split <;> simp

/-- At standstill an event of DRC adds no latch cause (R161), and never one moves the INTERVENTION demand. -/
theorem drcEvent_brc_of_standing {f : State → State} {s : State} (h : DoorMove s (f s)) (hs : s.standing = true) :
    (drcEvent f s).brc.latch = s.brc.latch ∧
    (drcEvent f s).brc.demands.intervention = s.brc.demands.intervention := by
  simp [drcEvent, hs, addLatchIf, h.brc]

theorem judgeRelease_brc_of_standing {s : State} (hs : s.standing = true) :
    (judgeRelease s).brc.latch = s.brc.latch ∧
    (judgeRelease s).brc.demands.intervention = s.brc.demands.intervention :=
  drcEvent_brc_of_standing (.judge s) hs

theorem formDoors_brc_of_standing {s : State} (hs : s.standing = true) :
    (formDoors s).brc.latch = s.brc.latch ∧
    (formDoors s).brc.demands.intervention = s.brc.demands.intervention :=
  drcEvent_brc_of_standing (.formBoth s) hs

/-- Settled brakes stay settled while the brakes and what they read of CMC, ODO and DRC stay. -/
theorem BrakesSettled.congr {s t : State} (h : BrakesSettled s) (hb : t.brc = s.brc) (hc : t.cmc = s.cmc)
    (ho : t.odo = s.odo) (hd : t.drc.doorHold = s.drc.doorHold) : BrakesSettled t := by
  simpa [BrakesSettled, formedDemands, formedHolding, formedReleaseValve, formedDumpValve, permitCondition,
    State.standing, State.testing, hb, hc, ho, hd] using h

theorem BrakesSettled.followDoorHold {s : State} (h : BrakesSettled s) : BrakesSettled (followDoorHold s) := by
  unfold Machine.followDoorHold
  dsimp only
  split
  · exact h
  · exact settle_settled _

theorem BrakesSettled.addLatchIf {s : State} (h : BrakesSettled s) (b : Bool) (c : LatchCause) :
    BrakesSettled (addLatchIf b c s) := by
  unfold Machine.addLatchIf
  split
  · cases hc : s.brc.latch.has c with
    | false => exact addLatchCause_settled c s hc
    | true => simpa [addLatchCause, hc] using h
  · exact h

/-- An event of DRC leaves settled brakes settled (R117, R119, R122, R160). -/
theorem BrakesSettled.drcEvent {f : State → State} {s : State} (h : BrakesSettled s) (hf : DoorMove s (f s)) :
    BrakesSettled (drcEvent f s) := by
  have hmoved : BrakesSettled (f s) := h.congr hf.brc hf.cmc hf.odo hf.doorHold
  unfold Machine.drcEvent
  refine (hmoved.followDoorHold.addLatchIf (!s.standing && leafCameUnlocked s.drc (f s).drc) .doorMotion).congr ?_ ?_ ?_ ?_
  all_goals simp

theorem BrakesSettled.judgeRelease {s : State} (h : BrakesSettled s) : BrakesSettled (judgeRelease s) :=
  h.drcEvent (.judge s)

/-! ### New parameter values and the pending set -/

/-- The pending set holds no radio bit rate, so that applying it restarts no receiver (R10, R167). -/
theorem bitRate_applyPending (p : Table Nat 52) (q : Table (Option Nat) 31) : bitRate (applyPending p q) = bitRate p := by
  have hq : pendingValue q 50 = none := by
    simp [pendingValue, Table.get?, List.getElem?_eq_none (show q.list.length ≤ 49 by rw [q.len]; decide)]
  rw [bitRate, paramValue_applyPending p q (by decide) (by decide), hq]; rfl

theorem LinksKept.applyPendingSet (s : State) : LinksKept s (applyPendingSet s) := by
  unfold Machine.applyPendingSet
  split
  · exact refl s
  · unfold activate restartReceiver
    rw [if_pos (bitRate_applyPending _ _)]
    refine .trans ?_ (formDoors _)
    refine .trans ?_ (settle _)
    exact .of_eq rfl rfl

/-- At standstill new values leave latch and INTERVENTION demand alone. -/
theorem activate_brc_of_standing (p : Table Nat 52) {s : State} (hs : s.standing = true) :
    (activate p s).brc.latch = s.brc.latch ∧
    (activate p s).brc.demands.intervention = s.brc.demands.intervention := by
  unfold activate
  have h := formDoors_brc_of_standing
    (s := settle (restartReceiver s.cmc.params p { s with cmc.params := p })) (by simpa [State.standing] using hs)
  simpa using h

theorem applyPendingSet_brc_of_standing {s : State} (hs : s.standing = true) :
    (applyPendingSet s).brc.latch = s.brc.latch ∧
    (applyPendingSet s).brc.demands.intervention = s.brc.demands.intervention := by
  unfold applyPendingSet
  split
  · exact ⟨rfl, rfl⟩
  · exact activate_brc_of_standing _ (s := { s with cmc.pendingSet := emptyPending }) hs

end Sys2Proof.Machine
end

section
/-! Chapter 1: modes, direction, parameters and LINE_RESET (R6 to R13), and what ODO's standstill brings (R27). -/

namespace Sys2Proof.Machine

/-! ### Requests that change nothing but the slot -/

/-- A request whose owner leaves the state alone answers, and nothing else changes (R194, R196). -/
theorem request_answered {s : State} (h : s.resetting = false) (q : Byte) {owner : State → Reply × State} {r : Reply}
    (ho : owner s = (r, s)) : request q owner s = answered s q r := by
  rw [request_eq q owner s h, ho]; rfl

/-- The slot after a request that an owner answered. -/
theorem request_slot_of {s t : State} (h : s.resetting = false) (q : Byte) {owner : State → Reply × State} {r : Reply}
    (ho : owner s = (r, t)) : (request q owner s).hlp.slot = answer s q r := by
  rw [request_slot q owner s h, ho]; rfl

/-- Outside HLP a request outside a LINE_RESET leaves what its owner leaves. -/
theorem request_blocks {s : State} (h : s.resetting = false) (q : Byte) (owner : State → Reply × State) :
    (request q owner s).cmc = (owner s).2.cmc ∧ (request q owner s).odo = (owner s).2.odo ∧
    (request q owner s).lps = (owner s).2.lps ∧ (request q owner s).rtb = (owner s).2.rtb ∧
    (request q owner s).ssv = (owner s).2.ssv ∧ (request q owner s).brc = (owner s).2.brc ∧
    (request q owner s).drc = (owner s).2.drc ∧ (request q owner s).vrl = (owner s).2.vrl ∧
    (request q owner s).sld = (owner s).2.sld ∧ (request q owner s).pending = (owner s).2.pending := by
  rw [request_eq q owner s h]; simp

theorem mode_supervised_iff (m : Mode) : m.supervised = true ↔ m = .service ∨ m = .shunt := by
  cases m <;> simp [Mode.supervised]

theorem mode_unsupervised_iff (m : Mode) : m.supervised = false ↔ m = .stabled ∨ m = .preparation := by
  cases m <;> simp [Mode.supervised]

theorem loading_iff (s : State) : s.loading = true ↔ s.sld.status = .loading := by simp [State.loading]

theorem saving_iff (s : State) : s.saving = true ↔ s.sld.status = .saving := by simp [State.saving]

theorem testing_iff (s : State) : s.testing = true ↔ s.brc.test ≠ none := by
  rw [State.testing, Option.isSome_iff_ne_none]

theorem standing_iff (s : State) : s.standing = true ↔ s.odo.motion = .standstill := by simp [State.standing]

/-! ### SET_DIRECTION (R9) -/

theorem judgeSetDirection_accepted {s : State} {code : Byte} {d : Selected} (hd : Selected.ofCode code = some d)
    (hne : d ≠ s.cmc.selected) (hs : s.odo.motion = .standstill) :
    judgeSetDirection code s = ({ code := .done }, changeDirection d s) := by
  simp [judgeSetDirection, hd, hne, State.standing, hs]

/-- Settles O5: each refusal answers and changes nothing, and an accepted direction is one evaluation of the brakes. -/
theorem setDirectionJudgedInOrder : Obligations.SetDirectionJudgedInOrder := by
  intro s code hr
  refine ⟨_, rfl, ?_⟩
  split
  · rename_i hd
    exact request_answered hr _ (by simp [judgeSetDirection, hd, refused])
  · rename_i d hd
    split
    · rename_i hsame
      exact request_answered hr _ (by simp [judgeSetDirection, hd, hsame, refused])
    · rename_i hne
      split
      · rename_i hmotion
        exact request_answered hr _ (by simp [judgeSetDirection, hd, hne, State.standing, hmotion, refused])
      · rename_i hmotion
        have hj := judgeSetDirection_accepted hd hne (not_not.1 hmotion)
        have hpermit : (changeDirection d s).brc.permit = permitCondition (changeDirection d s) :=
          (settle_settled _).2.2.1
        rw [request_eq _ _ s hr, hj]
        refine ⟨by simp [changeDirection], by simp [changeDirection], hpermit, fun hn => ?_, by simp [changeDirection],
          by simp [changeDirection], by simp, by simp, by simp, by simp, by simp, ?_, by simp, by simp⟩
        · refine hpermit.trans ?_
          simp [permitCondition, changeDirection, hn]
        · simp [quietSdo, place, answer, changeDirection]

/-! ### SET_MODE (R6 to R8) -/

/-- R7: every used leaf is locked as each one is LOCKED, or ISOLATED with its lock switch confirming. -/
theorem everyLeafLocked_iff (drc : Doors) :
    everyLeafLocked drc = true ↔ ∀ d l, drc.leaves.get d = some l →
      l.state = .locked ∨ (∃ c, l.state = .isolated c) ∧ (drc.inputs.get d).lockSw = true := by
  have hleaf : ∀ i l, leafLocked i l = true ↔ l.state = .locked ∨ (∃ c, l.state = .isolated c) ∧ i.lockSw = true := by
    intro i l
    unfold leafLocked
    cases l.state <;> simp
  have hdrive : ∀ d, driveUnlocked drc d = false ↔ ∀ l, drc.leaves.get d = some l →
      leafLocked (drc.inputs.get d) l = true := by
    intro d
    unfold driveUnlocked
    cases drc.leaves.get d <;> simp
  simp only [← hleaf, ← hdrive, everyLeafLocked]
  rw [forall_drive]
  simp [Drive.all]

/-- The condition of R7 on the channels fails when one is UNTESTED or FAILED. -/
theorem brakesReady_eq_false_iff (b : Brakes) :
    brakesReady b = false ↔ b.service.health = .untested ∨ b.service.health = .failed ∨ b.holding.health = .untested ∨
      b.holding.health = .failed ∨ b.emergency.health = .untested ∨ b.emergency.health = .failed := by
  have h : ∀ x : Health, (x == .ok || x == .degraded) = false ↔ x = .untested ∨ x = .failed := fun x => by
    cases x <;> simp
  simp only [brakesReady, List.all_cons, List.all_nil, Bool.and_true, Bool.and_eq_false_iff, h, or_assoc]

/-- The first condition of R7 that fails, in ascending order of detail code. -/
theorem modeConditionFault_eq (s : State) (target : Mode) :
    modeConditionFault s target =
      if (target = .stabled ∨ target = .preparation ∧ (s.cmc.mode = .service ∨ s.cmc.mode = .shunt)) ∧
        everyLeafLocked s.drc = false then some 0x01
      else if target = .service ∧ s.lps.status ≠ .valid then some 0x02
      else if target = .service ∧ s.odo.status = .unknown then some 0x03
      else if (target = .service ∨ target = .shunt) ∧ s.cmc.selected = .neutral then some 0x04
      else if target = .service ∧
          (s.brc.service.health = .untested ∨ s.brc.service.health = .failed ∨ s.brc.holding.health = .untested ∨
           s.brc.holding.health = .failed ∨ s.brc.emergency.health = .untested ∨ s.brc.emergency.health = .failed)
        then some 0x05
      else if target = .shunt ∧ s.brc.emergency.health ≠ .ok then some 0x06
      else if (target = .service ∨ target = .shunt) ∧ s.brc.latch.any = true then some 0x07
      else none := by
  have hcons : ∀ (checked holds : Bool) (code : Byte) (rest : List (Bool × Bool × Byte)),
      ((((checked, holds, code) :: rest).find? fun c => c.1 && !c.2.1).map fun c => c.2.2) =
        if checked = true ∧ holds = false then some code
        else (rest.find? fun c => c.1 && !c.2.1).map fun c => c.2.2 := by
    intro checked holds code rest
    cases checked <;> cases holds <;> rfl
  unfold modeConditionFault modeConditions
  simp only [hcons, List.find?_nil, Option.map_none, Bool.or_eq_true, Bool.and_eq_true, beq_iff_eq, mode_supervised_iff,
    State.profileValid, beq_eq_false_iff_ne, bne_eq_false_iff_eq, Bool.not_eq_false', ne_eq, brakesReady_eq_false_iff]
  rfl

/-- A change of mode at standstill: each block it reaches. -/
theorem changeMode_ssv (m : Mode) (s : State) :
    (changeMode m s).ssv =
      if s.cmc.mode.supervised && !m.supervised then (clearSupervision (storeMode m s)).ssv else (storeMode m s).ssv := by
  unfold changeMode
  split <;> simp

@[simp] theorem changeMode_odo (m : Mode) (s : State) : (changeMode m s).odo = (storeMode m s).odo := by
  unfold changeMode
  split <;> simp

theorem storeMode_odo (m : Mode) (s : State) :
    (storeMode m s).odo =
      { s.odo with
        watch := if m = .service then s.odo.watch else s.odo.watch.disarm,
        reverse := if m.supervised && !s.cmc.mode.supervised then 0 else s.odo.reverse } := by
  simp [storeMode]

theorem storeMode_ssv (m : Mode) (s : State) :
    (storeMode m s).ssv = { s.ssv with blankets := { s.ssv.blankets with noProfile := m == .shunt } } := rfl

theorem clearSupervision_links (s : State) : LinksKept s (clearSupervision s) := by
  unfold clearSupervision setIntervention
  dsimp only
  split <;> exact ⟨rfl, rfl⟩

/-- SSV without supervision (R8, R95, R110). -/
theorem clearSupervision_ssv (s : State) :
    (clearSupervision s).ssv.state = .normal ∧ (clearSupervision s).ssv.permitted = 0 ∧
    (clearSupervision s).ssv.acknowledged = false ∧ (clearSupervision s).ssv.released = false ∧
    (clearSupervision s).ssv.overspeed = false ∧ (clearSupervision s).ssv.blankets = s.ssv.blankets := by
  unfold clearSupervision setIntervention
  dsimp only
  split
  · rename_i h
    exact ⟨h, rfl, rfl, rfl, rfl, rfl⟩
  · exact ⟨rfl, rfl, rfl, rfl, rfl, rfl⟩

@[simp] theorem clearSupervision_brc (s : State) :
    (clearSupervision s).brc = { s.brc with demands := { s.brc.demands with intervention := none } } := by
  unfold clearSupervision setIntervention
  dsimp only
  split <;> rfl

/-- After a change of mode the brakes are as their sources give them (R117, R119, R122). -/
theorem changeMode_settled (m : Mode) (s : State) : BrakesSettled (changeMode m s) :=
  (settle_settled _).judgeRelease

theorem changeMode_links (m : Mode) (s : State) : LinksKept s (changeMode m s) := by
  have hstore : LinksKept s (storeMode m s) := .of_eq (by simp) (by simp)
  unfold changeMode
  refine .trans ?_ (LinksKept.judgeRelease _)
  refine .trans ?_ (LinksKept.settle _)
  split
  · exact (hstore.trans (clearSupervision_links _)).trans (LinksKept.applyPendingSet _)
  · exact hstore

/-- A change of mode at standstill keeps the latch, and the INTERVENTION demand unless it ends supervision (R8). -/
theorem changeMode_brc (m : Mode) {s : State} (hs : s.standing = true) :
    (changeMode m s).brc.latch = s.brc.latch ∧
    (changeMode m s).brc.demands.intervention =
      if s.cmc.mode.supervised && !m.supervised then none else s.brc.demands.intervention := by
  unfold changeMode
  split
  · have h := judgeRelease_brc_of_standing (s := settle (applyPendingSet (clearSupervision (storeMode m s))))
      (by simpa [State.standing, storeMode_odo] using hs)
    have ha := applyPendingSet_brc_of_standing (s := clearSupervision (storeMode m s))
      (by simpa [State.standing, storeMode_odo] using hs)
    simp [h.1, h.2, ha.1, ha.2]
  · have h := judgeRelease_brc_of_standing (s := settle (storeMode m s))
      (by simpa [State.standing, storeMode_odo] using hs)
    simp [h.1, h.2]

/-- SET_MODE refused, with the request judged by R6 in turn. -/
theorem judgeSetMode_of_fault {s : State} {code : Byte} {target : Mode} {detail : Byte}
    (ht : Mode.ofCode code = some target) (hne : target ≠ s.cmc.mode)
    (hl : ¬(s.sld.status = .loading ∧ target ≠ .stabled)) (htest : ¬s.brc.test ≠ none)
    (hm : ¬s.odo.motion ≠ .standstill) (hf : modeConditionFault s target = some detail) :
    judgeSetMode code s = (refuseDetail detail, s) := by
  rw [← loading_iff] at hl
  rw [← testing_iff] at htest
  simp [judgeSetMode, ht, hne, hl, htest, State.standing, not_not.1 hm, hf, refused]

theorem judgeSetMode_accepted {s : State} {code : Byte} {target : Mode}
    (ht : Mode.ofCode code = some target) (hne : target ≠ s.cmc.mode)
    (hl : ¬(s.sld.status = .loading ∧ target ≠ .stabled)) (htest : ¬s.brc.test ≠ none)
    (hm : ¬s.odo.motion ≠ .standstill) (hf : modeConditionFault s target = none) :
    judgeSetMode code s = ({ code := .done }, changeMode target s) := by
  rw [← loading_iff] at hl
  rw [← testing_iff] at htest
  simp [judgeSetMode, ht, hne, hl, htest, State.standing, not_not.1 hm, hf]

/-- What an accepted change of mode leaves of each block (R8, R25, R31). -/
theorem changeMode_effects {s t : State} {target : Mode} (hs : s.standing = true)
    (hcmc : t.cmc = (changeMode target s).cmc) (hodo : t.odo = (changeMode target s).odo)
    (hssv : t.ssv = (changeMode target s).ssv) (hbrc : t.brc = (changeMode target s).brc)
    (hdrc : t.drc = (changeMode target s).drc) (hvrl : t.vrl = (changeMode target s).vrl) :
    t.cmc.mode = target ∧ t.cmc.selected = s.cmc.selected ∧ t.cmc.resetParts = s.cmc.resetParts ∧
    t.ssv.blankets = { s.ssv.blankets with noProfile := target == .shunt } ∧
    t.brc.hold.mode = (target == .stabled) ∧ t.brc.permit = permitCondition t ∧ t.brc.latch = s.brc.latch ∧
    (if (s.cmc.mode = .service ∨ s.cmc.mode = .shunt) ∧ (target = .stabled ∨ target = .preparation) then
      t.ssv.state = .normal ∧ t.ssv.permitted = 0 ∧ t.ssv.acknowledged = false ∧ t.ssv.released = false ∧
      t.ssv.overspeed = false ∧ t.brc.demands.intervention = none ∧
      t.cmc.params = applyPending s.cmc.params s.cmc.pendingSet ∧ t.cmc.pendingSet = emptyPending
    else
      t.ssv = { s.ssv with blankets := t.ssv.blankets } ∧ t.cmc.params = s.cmc.params ∧
      t.cmc.pendingSet = s.cmc.pendingSet ∧ t.brc.demands.intervention = s.brc.demands.intervention) ∧
    t.odo.watch = (if target = .service then s.odo.watch else s.odo.watch.disarm) ∧
    t.odo.reverse =
      (if (s.cmc.mode = .stabled ∨ s.cmc.mode = .preparation) ∧ (target = .service ∨ target = .shunt) then 0
       else s.odo.reverse) ∧
    t.odo = { s.odo with watch := t.odo.watch, reverse := t.odo.reverse } ∧
    t.vrl = { s.vrl with queue := t.vrl.queue, uplinkCounter := t.vrl.uplinkCounter } := by
  have hsettled : BrakesSettled t := (changeMode_settled target s).congr hbrc hcmc hodo (by rw [hdrc])
  obtain ⟨hlatch, hintervention⟩ := changeMode_brc target hs
  have hleave : (s.cmc.mode.supervised && !target.supervised) = true ↔
      (s.cmc.mode = .service ∨ s.cmc.mode = .shunt) ∧ (target = .stabled ∨ target = .preparation) := by
    rw [Bool.and_eq_true, Bool.not_eq_true', mode_supervised_iff, mode_unsupervised_iff]
  have henter : (target.supervised && !s.cmc.mode.supervised) = true ↔
      (s.cmc.mode = .stabled ∨ s.cmc.mode = .preparation) ∧ (target = .service ∨ target = .shunt) := by
    rw [Bool.and_eq_true, Bool.not_eq_true', mode_supervised_iff, mode_unsupervised_iff, and_comm]
  have hcmc' := hcmc.trans (changeMode_cmc target s)
  have hssv' := hssv.trans (changeMode_ssv target s)
  have hodo' := (hodo.trans (changeMode_odo target s)).trans (storeMode_odo target s)
  have hmode : t.cmc.mode = target := by rw [hcmc']; split <;> rfl
  obtain ⟨hstate, hpermitted, hack, hreleased, hover, hblankets⟩ := clearSupervision_ssv (storeMode target s)
  refine ⟨hmode, by rw [hcmc']; split <;> rfl, by rw [hcmc']; split <;> rfl, ?_, ?_, hsettled.2.2.1,
    by rw [hbrc, hlatch], ?_, by rw [hodo'], ?_, by rw [hodo'], ?_⟩
  · rw [hssv']
    split
    · rw [hblankets, storeMode_ssv]
    · rw [storeMode_ssv]
  · rw [hsettled.2.1, ← hmode]; rfl
  · rw [← hbrc] at hintervention
    by_cases hl : (s.cmc.mode.supervised && !target.supervised) = true
    · rw [if_pos (hleave.1 hl)]
      rw [if_pos hl] at hcmc' hssv' hintervention
      rw [hssv', hcmc']
      exact ⟨hstate, hpermitted, hack, hreleased, hover, hintervention, rfl, rfl⟩
    · rw [if_neg (mt hleave.2 hl)]
      rw [if_neg hl] at hcmc' hssv' hintervention
      rw [hssv', hcmc']
      exact ⟨by rw [storeMode_ssv], rfl, rfl, hintervention⟩
  · rw [hodo']
    by_cases he : (target.supervised && !s.cmc.mode.supervised) = true
    · rw [if_pos (henter.1 he)]; exact if_pos he
    · rw [if_neg (mt henter.2 he)]; exact if_neg he
  · rw [hvrl]; exact (changeMode_links target s).vrl

/-- Settles O4: the checks of R6 and R7 one by one, each refusal an answer alone, and then the one change of mode. -/
theorem setModeJudgedInOrder : Obligations.SetModeJudgedInOrder := by
  intro s code hr
  refine ⟨everyLeafLocked_iff s.drc, request 0x10 (judgeSetMode code) s, rfl, ?_⟩
  have hslot : ∀ r t, judgeSetMode code s = (r, t) → (request 0x10 (judgeSetMode code) s).hlp.slot = answer s 0x10 r :=
    fun r t h => request_slot_of hr _ h
  have hblocks := request_blocks hr 0x10 (judgeSetMode code)
  have hrefused : ∀ r, judgeSetMode code s = (r, s) → request 0x10 (judgeSetMode code) s = answered s 0x10 r :=
    fun r h => request_answered hr _ h
  generalize request 0x10 (judgeSetMode code) s = t at hslot hblocks hrefused ⊢
  cases ht : Mode.ofCode code with
  | none => exact hrefused _ (by simp [judgeSetMode, ht, refused])
  | some target =>
  dsimp only
  by_cases hsame : target = s.cmc.mode
  · rw [if_pos hsame]
    exact hrefused _ (by simp [judgeSetMode, ht, hsame, refused])
  rw [if_neg hsame]
  by_cases hl : s.sld.status = .loading ∧ target ≠ .stabled
  · rw [if_pos hl]
    exact hrefused _ (by simp [judgeSetMode, ht, hsame, (loading_iff s).2 hl.1, hl.2, refused])
  rw [if_neg hl]
  by_cases htest : s.brc.test ≠ none
  · rw [if_pos htest]
    rw [← loading_iff] at hl
    exact hrefused _ (by simp [judgeSetMode, ht, hsame, hl, (testing_iff s).2 htest, refused])
  rw [if_neg htest]
  by_cases hm : s.odo.motion ≠ .standstill
  · rw [if_pos hm]
    rw [← loading_iff] at hl
    rw [← testing_iff] at htest
    exact hrefused _ (by simp [judgeSetMode, ht, hsame, hl, htest, State.standing, hm, refused])
  rw [if_neg hm]
  have hfault : ∀ detail, modeConditionFault s target = some detail →
      t = answered s 0x10 (refuseDetail detail) :=
    fun detail hf => hrefused _ (judgeSetMode_of_fault ht hsame hl htest hm hf)
  rw [modeConditionFault_eq] at hfault
  by_cases h1 : (target = .stabled ∨ target = .preparation ∧ (s.cmc.mode = .service ∨ s.cmc.mode = .shunt)) ∧
      everyLeafLocked s.drc = false
  · rw [if_pos h1]; exact hfault _ (if_pos h1)
  rw [if_neg h1] at hfault ⊢
  by_cases h2 : target = .service ∧ s.lps.status ≠ .valid
  · rw [if_pos h2]; exact hfault _ (if_pos h2)
  rw [if_neg h2] at hfault ⊢
  by_cases h3 : target = .service ∧ s.odo.status = .unknown
  · rw [if_pos h3]; exact hfault _ (if_pos h3)
  rw [if_neg h3] at hfault ⊢
  by_cases h4 : (target = .service ∨ target = .shunt) ∧ s.cmc.selected = .neutral
  · rw [if_pos h4]; exact hfault _ (if_pos h4)
  rw [if_neg h4] at hfault ⊢
  by_cases h5 : target = .service ∧
      (s.brc.service.health = .untested ∨ s.brc.service.health = .failed ∨ s.brc.holding.health = .untested ∨
       s.brc.holding.health = .failed ∨ s.brc.emergency.health = .untested ∨ s.brc.emergency.health = .failed)
  · rw [if_pos h5]; exact hfault _ (if_pos h5)
  rw [if_neg h5] at hfault ⊢
  by_cases h6 : target = .shunt ∧ s.brc.emergency.health ≠ .ok
  · rw [if_pos h6]; exact hfault _ (if_pos h6)
  rw [if_neg h6] at hfault ⊢
  by_cases h7 : (target = .service ∨ target = .shunt) ∧ s.brc.latch.any = true
  · rw [if_pos h7]; exact hfault _ (if_pos h7)
  rw [if_neg h7]
  have hf : modeConditionFault s target = none := by
    rw [modeConditionFault_eq, if_neg h1, if_neg h2, if_neg h3, if_neg h4, if_neg h5, if_neg h6, if_neg h7]
  have hj := judgeSetMode_accepted ht hsame hl htest hm hf
  obtain ⟨bcmc, bodo, blps, brtb, bssv, bbrc, bdrc, bvrl, bsld, bpending⟩ := hblocks
  rw [hj] at bcmc bodo blps brtb bssv bbrc bdrc bvrl bsld bpending
  obtain ⟨hmode, hselected, hparts, hblankets, hhold, hpermit, hlatch, hleave, hwatch, hreverse, hodo, hvrl⟩ :=
    changeMode_effects ((standing_iff s).2 (not_not.1 hm)) bcmc bodo bssv bbrc bdrc bvrl
  obtain ⟨klps, krtb, ksld, kpending⟩ := changeMode_keeps target s
  refine ⟨hslot _ _ hj, hmode, hselected, hparts, hblankets, hhold, hpermit, hlatch, hleave, ?_, hreverse,
    hodo, blps.trans klps, brtb.trans krtb, hvrl, bsld.trans ksld, bpending.trans kpending⟩
  rw [hwatch]
  cases s.odo.watch <;> rfl

end Sys2Proof.Machine
end

section
/-! Chapter 1, continued: parameter writes and reads, the pending set at standstill, and LINE_RESET (R11 to R13, R27). -/

namespace Sys2Proof.Machine

/-! ### SET_PARAMETER and READ_PARAMETER (R11, R12) -/

theorem paramClass_setup_iff (n : Nat) : paramClass n = .setup ↔ 32 ≤ n ∧ n ≤ 50 := by
  unfold paramClass
  split
  · simp; omega
  · split <;> simp <;> omega

theorem paramClass_deferred_iff (n : Nat) : paramClass n = .deferred ↔ n ≤ 31 := by
  unfold paramClass
  split
  · simpa
  · split <;> simp <;> omega

/-- The reply of an accepted write: the number, the value as stored, ACTIVE 1 or PENDING 2, and DONE or DONE_CLAMPED. -/
theorem writeReply_eq (n w v : Nat) (pending : Bool) :
    doneOrClamped (w != v) (writeBody n w pending) =
      { code := if w = v then .done else .doneClamped,
        body := octets1 n ++ octets4 w ++ [if pending then 2 else 1] } := by
  by_cases h : w = v <;> simp [doneOrClamped, writeBody, h]

/-- The judgement of SET_PARAMETER in the words of R11. -/
theorem judgeSetParameter_eq (n v : Nat) (s : State) :
    judgeSetParameter n v s =
      if n = 0 ∨ 52 < n then (refuse .refusedRange, s)
      else if s.sld.status = .loading ∨ s.sld.status = .saving then (refuse .refusedBusy, s)
      else if s.brc.test ≠ none ∧ 19 ≤ n ∧ n ≤ 25 then (refuse .refusedBusy, s)
      else if (s.cmc.mode = .service ∨ s.cmc.mode = .shunt) ∧ 32 ≤ n ∧ n ≤ 50 then (refuse .refusedMode, s)
      else if (s.cmc.mode = .service ∨ s.cmc.mode = .shunt) ∧ n ≤ 31 then
        (doneOrClamped (writtenValue s n v != v) (writeBody n (writtenValue s n v) true),
          holdPending n (writtenValue s n v) s)
      else
        (doneOrClamped (writtenValue s n v != v) (writeBody n (writtenValue s n v) false),
          activate (setParam s.cmc.params n (writtenValue s n v)) s) := by
  simp only [judgeSetParameter, Nat.lt_one_iff, loading_iff, saving_iff, testing_iff, mode_supervised_iff,
    paramClass_setup_iff, paramClass_deferred_iff, refused]

/-- SET_PARAMETER refused by a check of R11, or accepted into the pending set or the active values. -/
theorem setParameter_judged (s : State) (number : Byte) (value : Word) (hr : s.resetting = false) :
    let n := number.toNat
    let w := clampParam n (pendingOrActive s (if n = 10 then 11 else if n = 11 then 10 else n)) value.toNat
    let supervised := s.cmc.mode = .service ∨ s.cmc.mode = .shunt
    ∃ t, exec (.setParameter number value) s = .next t ∧
      if n = 0 ∨ 52 < n then t = answered s 0x23 (refuse .refusedRange)
      else if s.sld.status = .loading ∨ s.sld.status = .saving then
        t = answered s 0x23 (refuse .refusedBusy)
      else if s.brc.test ≠ none ∧ 19 ≤ n ∧ n ≤ 25 then
        t = answered s 0x23 (refuse .refusedBusy)
      else if supervised ∧ 32 ≤ n ∧ n ≤ 50 then t = answered s 0x23 (refuse .refusedMode)
      else if supervised ∧ n ≤ 31 then
        t = { s with
              cmc.pendingSet := s.cmc.pendingSet.set (n - 1) (some w),
              hlp.sdo := [], hlp.slot := answer s 0x23
                { code := if w = value.toNat then .done else .doneClamped, body := octets1 n ++ octets4 w ++ [2] } }
      else
        t.hlp.slot = answer s 0x23
          { code := if w = value.toNat then .done else .doneClamped, body := octets1 n ++ octets4 w ++ [1] } ∧
        t.cmc = { s.cmc with params := s.cmc.params.set (n - 1) w } ∧ t.odo = s.odo ∧ t.lps = s.lps ∧
        t.rtb = s.rtb ∧ t.ssv = s.ssv ∧ t.sld = s.sld ∧ t.pending = s.pending := by
  intro n w supervised
  refine ⟨request 0x23 (judgeSetParameter n value.toNat) s, rfl, ?_⟩
  have hj := judgeSetParameter_eq n value.toNat s
  have hanswered : ∀ r, judgeSetParameter n value.toNat s = (r, s) →
      request 0x23 (judgeSetParameter n value.toNat) s = answered s 0x23 r := fun r h => request_answered hr _ h
  have hw : writtenValue s n value.toNat = w := rfl
  simp only [writeReply_eq, hw] at hj
  by_cases hrange : n = 0 ∨ 52 < n
  · rw [if_pos hrange] at hj ⊢; exact hanswered _ hj
  rw [if_neg hrange] at hj ⊢
  by_cases hbusy : s.sld.status = .loading ∨ s.sld.status = .saving
  · rw [if_pos hbusy] at hj ⊢; exact hanswered _ hj
  rw [if_neg hbusy] at hj ⊢
  by_cases htest : s.brc.test ≠ none ∧ 19 ≤ n ∧ n ≤ 25
  · rw [if_pos htest] at hj ⊢; exact hanswered _ hj
  rw [if_neg htest] at hj ⊢
  by_cases hmode : supervised ∧ 32 ≤ n ∧ n ≤ 50
  · rw [if_pos hmode] at hj ⊢; exact hanswered _ hj
  rw [if_neg hmode] at hj ⊢
  by_cases hdeferred : supervised ∧ n ≤ 31
  · rw [if_pos hdeferred] at hj ⊢
    rw [request_eq _ _ s hr, hj]; rfl
  · rw [if_neg hdeferred] at hj ⊢
    obtain ⟨bcmc, bodo, blps, brtb, bssv, -, -, -, bsld, bpending⟩ :=
      request_blocks hr 0x23 (judgeSetParameter n value.toNat)
    rw [hj] at bcmc bodo blps brtb bssv bsld bpending
    obtain ⟨kodo, klps, krtb, kssv, ksld, kpending⟩ := activate_keeps (setParam s.cmc.params n w) s
    exact ⟨request_slot_of hr _ hj, bcmc.trans (activate_cmc _ s), bodo.trans kodo, blps.trans klps, brtb.trans krtb,
      bssv.trans kssv, bsld.trans ksld, bpending.trans kpending⟩

/-- READ_PARAMETER answers with the active value, and the pending one as an optional field (R12). -/
theorem readParameter_read (s : State) (number : Byte) (hr : s.resetting = false) :
    exec (.readParameter number) s = .next
      (if number.toNat = 0 ∨ 52 < number.toNat then answered s 0x0D (refuse .refusedRange)
       else answered s 0x0D
        { code := .done,
          body := octets4 (paramValue s.cmc.params number.toNat) ++
            optionalOctets 4 ((pendingValue s.cmc.pendingSet number.toNat).map octets4) }) := by
  change Host.Outcome.next (request 0x0D (judgeReadParameter number.toNat) s) = _
  congr 1
  split
  · rename_i h
    exact request_answered hr _ (by simp [judgeReadParameter, h, refused])
  · rename_i h
    exact request_answered hr _ (by simp [judgeReadParameter, h])

/-- Settles O6: the five checks of a write in turn, and the read. -/
theorem parameterWriteAndRead : Obligations.ParameterWriteAndRead := by
  refine ⟨setParameter_judged, fun s number hr => ?_⟩
  rw [readParameter_read s number hr]
  dsimp only
  by_cases hrange : number.toNat = 0 ∨ 52 < number.toNat
  · rw [if_pos hrange, if_pos hrange]; rfl
  · rw [if_neg hrange, if_neg hrange]
    cases pendingValue s.cmc.pendingSet number.toNat <;> rfl

/-! ### STANDSTILL_EXPIRY (R12, R27) -/

/-- ODO reports STANDSTILL, and its timer stops (R27). -/
def atStandstill (s : State) : State := { s with odo.motion := .standstill, odo.standstillTimer := none }

theorem execStandstillExpiry_idle {s : State} (h : s.odo.standstillTimer = none) :
    execStandstillExpiry s = .next s := by
  unfold execStandstillExpiry
  rw [h]

theorem execStandstillExpiry_running {s : State} (h : s.odo.standstillTimer ≠ none) :
    execStandstillExpiry s = .next (judgeRelease (settle (modesStanding (atStandstill s)))) := by
  unfold execStandstillExpiry
  cases hn : s.odo.standstillTimer with
  | none => exact absurd hn h
  | some n => rfl

theorem modesStanding_links (s : State) : LinksKept s (modesStanding s) := by
  unfold modesStanding
  split
  · exact .applyPendingSet s
  · exact .refl s

theorem modesStanding_cmc (s : State) :
    (modesStanding s).cmc =
      if s.cmc.mode.supervised then
        { s.cmc with params := applyPending s.cmc.params s.cmc.pendingSet, pendingSet := emptyPending }
      else s.cmc := by
  unfold modesStanding
  split <;> simp

theorem modesStanding_latch {s : State} (hs : s.standing = true) : (modesStanding s).brc.latch = s.brc.latch := by
  unfold modesStanding
  split
  · exact (applyPendingSet_brc_of_standing hs).1
  · rfl

/-- Settles O7: at the expiry ODO stands, CMC applies the pending set in SERVICE and SHUNT, and BRC and DRC follow. -/
theorem standstillAppliesPendingSet : Obligations.StandstillAppliesPendingSet := by
  intro s
  refine ⟨fun h => ?_, fun h => ?_⟩
  · exact execStandstillExpiry_idle h
  · refine ⟨_, execStandstillExpiry_running h, ?_⟩
    have hsettled : BrakesSettled (judgeRelease (settle (modesStanding (atStandstill s)))) := (settle_settled _).judgeRelease
    have hstanding : (settle (modesStanding (atStandstill s))).standing = true := by simp [State.standing, atStandstill]
    have hcmc : (judgeRelease (settle (modesStanding (atStandstill s)))).cmc =
        if s.cmc.mode.supervised then
          { s.cmc with params := applyPending s.cmc.params s.cmc.pendingSet, pendingSet := emptyPending }
        else s.cmc := by
      rw [(judgeRelease_keeps _).1, (settle_keeps _).1]
      exact modesStanding_cmc (atStandstill s)
    have hlinks : LinksKept (atStandstill s) (judgeRelease (settle (modesStanding (atStandstill s)))) :=
      ((modesStanding_links _).trans (.settle _)).trans (.judgeRelease _)
    refine ⟨by simp [atStandstill], ?_, ?_, ?_, by simp [atStandstill], by simp [atStandstill], by simp [atStandstill], hlinks.vrl, hlinks.slot, by simp [atStandstill],
      by simp [atStandstill]⟩
    · by_cases hm : s.cmc.mode = .service ∨ s.cmc.mode = .shunt
      · rw [if_pos hm, hcmc, if_pos ((mode_supervised_iff _).2 hm)]
      · rw [if_neg hm, hcmc, if_neg (mt (mode_supervised_iff _).1 hm)]
    · rw [(judgeRelease_brc_of_standing hstanding).1, (settle_keeps_brc _).1]
      exact modesStanding_latch (s := atStandstill s) rfl
    · rw [hsettled.2.1]
      simp [formedHolding, State.standing, atStandstill]

/-! ### LINE_RESET (R13, R196) -/

/-- CMC's own part of a LINE_RESET in a car that is not in SERVICE empties the pending set and does nothing else. -/
theorem resetModes_elsewhere {s : State} (h : s.cmc.mode ≠ .service) :
    resetModes s = { s with cmc.pendingSet := emptyPending } := by
  simp [resetModes, h]

/-- CMC's own part of a LINE_RESET in SERVICE ends supervision, and applies an emptied pending set. -/
theorem resetModes_in_service {s : State} (h : s.cmc.mode = .service) :
    resetModes s = changeMode .preparation { s with cmc.pendingSet := emptyPending } := by
  simp [resetModes, h]

theorem resetModes_cmc (s : State) :
    (resetModes s).cmc =
      { s.cmc with
        mode := if s.cmc.mode = .service then .preparation else s.cmc.mode, pendingSet := emptyPending } := by
  by_cases h : s.cmc.mode = .service
  · rw [resetModes_in_service h, changeMode_cmc, if_pos h]
    simp [h, Mode.supervised]
  · rw [resetModes_elsewhere h, if_neg h]

theorem resetModes_odo (s : State) : (resetModes s).odo = { s.odo with watch := (resetModes s).odo.watch } := by
  by_cases h : s.cmc.mode = .service
  · rw [resetModes_in_service h, changeMode_odo, storeMode_odo]; rfl
  · rw [resetModes_elsewhere h]

theorem resetModes_latch {s : State} (hs : s.standing = true) : (resetModes s).brc.latch = s.brc.latch := by
  by_cases h : s.cmc.mode = .service
  · rw [resetModes_in_service h]
    exact (changeMode_brc .preparation (s := { s with cmc.pendingSet := emptyPending }) hs).1
  · rw [resetModes_elsewhere h]

/-- A LINE_RESET in SERVICE ends supervision at SSV and withdraws its demand (R8, R13). -/
theorem resetModes_ends_supervision {s : State} (hs : s.standing = true) (h : s.cmc.mode = .service) :
    (resetModes s).ssv.state = .normal ∧ (resetModes s).ssv.permitted = 0 ∧
    (resetModes s).brc.demands.intervention = none := by
  have hleave : (Mode.supervised s.cmc.mode && !Mode.supervised .preparation) = true := by rw [h]; rfl
  have hbrc := (changeMode_brc .preparation (s := { s with cmc.pendingSet := emptyPending }) hs).2
  rw [if_pos hleave] at hbrc
  rw [resetModes_in_service h, changeMode_ssv, if_pos hleave]
  exact ⟨(clearSupervision_ssv _).1, (clearSupervision_ssv _).2.1, hbrc⟩

/-- LINE_RESET by its two checks, and then CMC's part with every other owner's part before it (R13). -/
theorem lineReset_begins (s : State) (hr : s.resetting = false) : ∃ t, exec .lineReset s = .next t ∧
    if s.sld.status = .loading then t = answered s 0x26 (refuse .refusedBusy)
    else if s.odo.motion ≠ .standstill then t = answered s 0x26 (refuse .refusedMotion)
    else
      t.cmc =
        { s.cmc with
          mode := if s.cmc.mode = .service then .preparation else s.cmc.mode, pendingSet := emptyPending,
          resetParts := ⟨true, true, true, true, true, true⟩ } ∧
      t.hlp.slot = .pending s.hlp.slot.isUnread ∧
      (s.cmc.mode = .service →
        t.ssv.state = .normal ∧ t.ssv.permitted = 0 ∧ t.brc.demands.intervention = none) ∧
      (s.cmc.mode ≠ .service → t.brc = s.brc ∧ t.drc = s.drc ∧ t.vrl = s.vrl) ∧
      t.brc.latch = s.brc.latch ∧ t.odo = { s.odo with watch := t.odo.watch } ∧ t.lps = s.lps ∧ t.rtb = s.rtb ∧
      t.sld = s.sld ∧ t.pending = s.pending := by
  refine ⟨_, rfl, ?_⟩
  simp only [hr, Bool.false_eq_true, if_false]
  by_cases hl : s.sld.status = .loading
  · rw [if_pos hl, if_pos ((loading_iff s).2 hl)]; rfl
  rw [if_neg hl, if_neg (mt (loading_iff s).1 hl)]
  by_cases hm : s.odo.motion ≠ .standstill
  · rw [if_pos hm, if_pos (by simpa [State.standing] using hm)]; rfl
  have hs : s.standing = true := (standing_iff s).2 (not_not.1 hm)
  rw [if_neg hm, if_neg (by simp [hs])]
  obtain ⟨klps, krtb, ksld, kpending⟩ := resetModes_keeps s
  refine ⟨?_, rfl, resetModes_ends_supervision hs, fun h => ?_, resetModes_latch hs, resetModes_odo s, klps, krtb, ksld,
    kpending⟩
  · simp [beginReset, resetModes_cmc, allParts]
  · simp [beginReset, resetModes_elsewhere h]

/-! The slot stays PENDING through every owner's own part. -/

theorem resetPosition_slot (s : State) : (resetPosition s).hlp.slot = s.hlp.slot := by
  have h : LinksKept s (resetPosition s) := .trans (.of_eq (by simp) (by simp)) (.judgeRelease (setStatus .unknown none s))
  exact h.slot

theorem resetTable_slot (s : State) : (resetTable s).hlp.slot = s.hlp.slot := by simp

theorem endSupervision_slot (s : State) : (endSupervision s).hlp.slot = s.hlp.slot :=
  ((clearSupervision_links s).trans (.settle _)).slot

theorem resetBrakes_slot (s : State) : (resetBrakes s).hlp.slot = s.hlp.slot := by
  simp only [resetBrakes, settle_keeps]
  exact (LinksKept.abortTest .lineReset s).slot

theorem resetDoors_slot (s : State) : (drcEvent resetDoors s).hlp.slot = s.hlp.slot :=
  (LinksKept.drcEvent (.resetDoors s)).slot

theorem resetLink_slot (s : State) : (resetLink s).hlp.slot = s.hlp.slot := by
  unfold resetLink resetRadio enterUnjoined dropOverflowCause
  dsimp only
  repeat' split
  all_goals rfl

/-- An owner's part that leaves the slot: taken once, with DONE after the last one and nothing where it is not
outstanding (R13, assumption log 11). -/
theorem takePart_ends {s : State} {lost : Bool} (hslot : s.hlp.slot = .pending lost) (outstanding : Bool)
    (left : ResetParts) {part : State → State} (hpart : (part s).hlp.slot = s.hlp.slot) :
    if outstanding = true then
      ∃ t, takePart outstanding left part s = .next t ∧ t.cmc.resetParts = left ∧
        t.hlp.slot =
          if left = ⟨false, false, false, false, false, false⟩ then .unread ⟨0x26, .done, 0, lost, []⟩
          else .pending lost
    else takePart outstanding left part s = .next s := by
  cases outstanding with
  | true =>
    rw [if_pos rfl]
    exact ⟨_, rfl, afterPart_parts left _, afterPart_done left _ lost (hpart.trans hslot)⟩
  | false => rfl

/-- Settles O8: CMC's part opens the reset, and each of the six owners' parts is taken by one rule. -/
theorem lineResetBeginsAndEnds : Obligations.LineResetBeginsAndEnds := by
  refine fun s => ⟨lineReset_begins s, fun lost c outstanding left hslot hmem => ?_⟩
  simp only [List.mem_cons, Prod.mk.injEq, List.not_mem_nil, or_false] at hmem
  rcases hmem with ⟨rfl, rfl, rfl⟩ | ⟨rfl, rfl, rfl⟩ | ⟨rfl, rfl, rfl⟩ | ⟨rfl, rfl, rfl⟩ | ⟨rfl, rfl, rfl⟩ |
    ⟨rfl, rfl, rfl⟩
  · exact takePart_ends hslot _ _ (resetPosition_slot s)
  · exact takePart_ends hslot _ _ (resetTable_slot s)
  · exact takePart_ends hslot _ _ (endSupervision_slot s)
  · exact takePart_ends hslot _ _ (resetBrakes_slot s)
  · exact takePart_ends hslot _ _ (resetDoors_slot s)
  · exact takePart_ends hslot _ _ (resetLink_slot s)

end Sys2Proof.Machine
end

section
/-! Power-on (R14 and the power-on rules of every block), and the reset state. -/

namespace Sys2Proof.Machine

/-! ### The strap sets (R199) and what depends on them -/

/-- With every strap set the four drives are the four leaves, and no side is ganged (R142, R144). -/
theorem strapParams_doors {k : Nat} (hk : k < 8) :
    leafPlaces (strapParams k) =
      ⟨some (.left, .valley), some (.left, .mountain), some (.right, .valley), some (.right, .mountain)⟩ ∧
    ganged (strapParams k) .left = false ∧ ganged (strapParams k) .right = false := by
  have h : ∀ k < 8, leafPlaces (strapParams k) =
      ⟨some (.left, .valley), some (.left, .mountain), some (.right, .valley), some (.right, .mountain)⟩ ∧
    ganged (strapParams k) .left = false ∧ ganged (strapParams k) .right = false := by decide +kernel
  exact h k hk

/-- The seven parameters that the straps select (R199). -/
def strapRow (k : Nat) : List Nat :=
  let t := strapSet k
  [t.rackService, t.rackEmergency, t.adhesionService, t.adhesionEmergency, t.circumference, t.pulses, t.rate]

theorem strapParams_row (k : Nat) : [2, 3, 4, 5, 33, 34, 50].map (paramValue (strapParams k)) = strapRow k := by
  simp [strapParams, strapRow, paramValue_setParam_self, paramValue_setParam_other]

theorem silenceTimeout_strapParams {k : Nat} (hk : k < 8) : silenceTimeout (strapParams k) = 20 := by
  have h : ∀ k < 8, silenceTimeout (strapParams k) = 20 := by decide +kernel
  exact h k hk

/-- The leaf of each drive at power-on: LOCKED when its lock switch confirms, ISOLATED otherwise (R144). -/
theorem startDoors_leaves (pins : PowerOnPins) :
    (startDoors (strapParams (strapSelection pins)) pins).leaves =
      ⟨some (freshLeaf pins.doors.d1 (.left, .valley)), some (freshLeaf pins.doors.d2 (.left, .mountain)),
       some (freshLeaf pins.doors.d3 (.right, .valley)), some (freshLeaf pins.doors.d4 (.right, .mountain))⟩ := by
  simp [startDoors, PerDrive.of, startLeaf, (strapParams_doors (strapSelection_lt pins)).1, PerDrive.get]

theorem startDoors_gangs (pins : PowerOnPins) :
    (startDoors (strapParams (strapSelection pins)) pins).gangLeft = none ∧
    (startDoors (strapParams (strapSelection pins)) pins).gangRight = none := by
  obtain ⟨-, hleft, hright⟩ := strapParams_doors (strapSelection_lt pins)
  simp [startDoors, hleft, hright]

/-! ### The first telegrams (R129, R144, R177) -/

/-- The uplink queue holds one telegram, an ALARM not yet sent, with this body. -/
def holdsAlarm (body : List Byte) (s : State) : Prop :=
  ∃ sequence, s.vrl.queue = [⟨.alarm, sequence, 0, body⟩]

theorem handAlarm_first {c : AlarmCause} {s : State} (h : s.vrl.queue = []) :
    holdsAlarm (alarmBody c) (handAlarm c s) := by
  simp [holdsAlarm, handAlarm, h, queuedKind, placeAlarm]

/-- A further cause joins the ALARM that is queued (R177). -/
theorem holdsAlarm.handAlarmIf {body : List Byte} {s : State} (h : holdsAlarm body s) (cond : Bool) (c : AlarmCause) :
    holdsAlarm (if cond then alarmUnion c body else body) (handAlarmIf cond c s) := by
  obtain ⟨q, hq⟩ := h
  cases cond
  · exact ⟨q, hq⟩
  · simp [holdsAlarm, Machine.handAlarmIf, handAlarm, hq, queuedKind, refreshKind, refreshEntry]

/-- The ALARM of power-on: POWER_ON, with DOOR_FAULT and LOOP_OPEN where they are handed too (R129, R144, R185). -/
def powerOnAlarm (doorFault loopOpen : Bool) : List Byte :=
  [if doorFault then 0x08 else 0x00, if loopOpen then 0x41 else 0x01]

theorem holdsAlarm.loopOpen {s : State} (h : holdsAlarm (powerOnAlarm false false) s) (cond : Bool) :
    holdsAlarm (powerOnAlarm false cond) (Machine.handAlarmIf cond (.latch .loopOpen) s) := by
  have hc := h.handAlarmIf cond (.latch .loopOpen)
  cases cond <;> exact hc

theorem holdsAlarm.doorFault {fault loop : Bool} {s : State} (h : holdsAlarm (powerOnAlarm fault loop) s) (cond : Bool) :
    holdsAlarm (powerOnAlarm (fault || cond) loop) (Machine.handAlarmIf cond .doorFault s) := by
  have hc := h.handAlarmIf cond .doorFault
  cases fault <;> cases loop <;> cases cond <;> exact hc

@[simp] theorem handAlarmIf_drc (cond : Bool) (c : AlarmCause) (s : State) : (handAlarmIf cond c s).drc = s.drc := by
  unfold handAlarmIf
  split <;> simp

/-- DRC hands DOOR_FAULT once a drive of the list has a leaf ISOLATED (R144). -/
theorem holdsAlarm.doorFaults {loop : Bool} (isolated : Drive → Bool) (ds : List Drive) :
    ∀ {fault : Bool} {s : State}, holdsAlarm (powerOnAlarm fault loop) s →
      (∀ d, ((s.drc.leaves.get d).any fun l => l.state == .isolated .timeout) = isolated d) →
      holdsAlarm (powerOnAlarm (fault || ds.any isolated) loop)
        (ds.foldl (fun s d => Machine.handAlarmIf
          ((s.drc.leaves.get d).any fun l => l.state == .isolated .timeout) .doorFault s) s) := by
  induction ds with
  | nil => intro fault s h _; simpa using h
  | cons d ds ih =>
    intro fault s h hi
    have hd := ih (h.doorFault (isolated d)) (fun e => by rw [handAlarmIf_drc]; exact hi e)
    rw [List.foldl_cons, hi d, List.any_cons, ← Bool.or_assoc]
    exact hd

/-- A drive's leaf hands DOOR_FAULT at power-on exactly when its lock switch does not confirm (R144). -/
theorem startValues_isolated (pins : PowerOnPins) (waiting : List Instr) (d : Drive) :
    (((startValues pins waiting).drc.leaves.get d).any fun l => l.state == .isolated .timeout) =
      !(pins.doors.get d).lockSw := by
  have h : ∀ i place, ((some (freshLeaf i place)).any fun l => l.state == .isolated .timeout) = !i.lockSw := by
    intro i place
    simp only [Option.any_some, freshLeaf]
    cases i.lockSw <;> rfl
  have hleaves : (startValues pins waiting).drc.leaves = _ := startDoors_leaves pins
  rw [hleaves]
  cases d <;> exact h _ _

/-- After BRC's and DRC's first causes the queue holds the ALARM with all of them (R129, R144). -/
theorem firstAlarms_queue (pins : PowerOnPins) (waiting : List Instr) :
    holdsAlarm (powerOnAlarm (Drive.all.any fun d => !(pins.doors.get d).lockSw) (!pins.loopClosed))
      (firstAlarms (startValues pins waiting)) := by
  have hfirst : holdsAlarm (powerOnAlarm false false) (handAlarm (.latch .powerOn) (startValues pins waiting)) :=
    handAlarm_first rfl
  have hloop := hfirst.loopOpen (!pins.loopClosed)
  have hdoors := hloop.doorFaults (fun d => !(pins.doors.get d).lockSw) Drive.all fun d => by
    rw [handAlarmIf_drc, (handAlarm_keeps _ _).2.2.2.2.2.2.1]
    exact startValues_isolated pins waiting d
  rwa [Bool.false_or] at hdoors

/-- The DOOR_STATE joins behind the ALARM (R144, R183). -/
theorem start_queue (pins : PowerOnPins) (waiting : List Instr) :
    ∃ q r body, (start pins waiting).vrl.queue =
      [⟨.alarm, q, 0, powerOnAlarm (Drive.all.any fun d => !(pins.doors.get d).lockSw) (!pins.loopClosed)⟩,
       ⟨.doorState, r, 0, body⟩] := by
  obtain ⟨q, hq⟩ := firstAlarms_queue pins waiting
  refine ⟨q, (firstAlarms (startValues pins waiting)).vrl.uplinkCounter + 1,
    doorStateBody (firstAlarms (startValues pins waiting)).drc, ?_⟩
  unfold start handDoorState
  rw [hq, if_neg (by simp [queuedKind]), (enqueueTail_vrl _ _ _).1, hq]
  rfl

theorem DoorMove.handAlarmIf (cond : Bool) (c : AlarmCause) (s : State) : DoorMove s (handAlarmIf cond c s) := by
  unfold Machine.handAlarmIf
  split
  · exact .handAlarm c s
  · exact .refl s

theorem DoorMove.firstAlarms (s : State) : DoorMove s (firstAlarms s) := by
  unfold Machine.firstAlarms
  refine .trans ?_ (DoorMove.foldl (fun s d => DoorMove.handAlarmIf _ _ s) Drive.all _)
  exact (DoorMove.handAlarm _ s).trans (DoorMove.handAlarmIf _ _ _)

/-- VRL after power-on is as it starts, but for the queue and its counter (R183). -/
theorem start_vrl (pins : PowerOnPins) (waiting : List Instr) :
    (start pins waiting).vrl =
      { startRadio (strapParams (strapSelection pins)) pins.chBusy with
        queue := (start pins waiting).vrl.queue, uplinkCounter := (start pins waiting).vrl.uplinkCounter } := by
  have h : LinksKept (startValues pins waiting) (start pins waiting) :=
    (DoorMove.firstAlarms _).links.trans (.handDoorState _)
  exact h.vrl

/-- Settles O51: the blocks other than VRL hold their start values, and VRL its own with the first two telegrams. -/
theorem powerOnStartValues : Obligations.PowerOnStartValues := by
  intro s pins straps row leaf
  have hk := strapSelection_lt pins
  obtain ⟨q, r, body, hqueue⟩ := start_queue pins s.pending
  have hvrl := start_vrl pins s.pending
  have hradio : (start pins s.pending).vrl.dialogue = .unjoined ∧ (start pins s.pending).vrl.windowCount = 255 ∧
      (start pins s.pending).vrl.beacon = none ∧ (start pins s.pending).vrl.notices = [] := by
    rw [hvrl]; exact ⟨rfl, rfl, rfl, rfl⟩
  have hsilence : (start pins s.pending).vrl.silenceTimer = some 20000 := by
    rw [hvrl]
    change some (silenceTimeout (strapParams (strapSelection pins)) * 1000) = some 20000
    rw [silenceTimeout_strapParams hk]
  obtain ⟨hdialogue, hwindow, hbeacon, hnotices⟩ := hradio
  refine ⟨start pins s.pending, rfl, ?_⟩
  rw [start_only_vrl]
  generalize (start pins s.pending).vrl = v at *
  refine ⟨rfl, rfl, rfl, rfl, rfl, ?_, ?_, rfl, rfl, rfl, rfl, rfl, rfl, rfl, rfl, rfl, rfl, rfl, rfl, rfl, rfl, rfl, rfl,
    rfl, rfl, rfl, rfl, rfl, rfl, rfl, fun c => by cases c <;> rfl, startDoors_leaves pins, rfl, rfl,
    (startDoors_gangs pins).1, (startDoors_gangs pins).2, hdialogue, hwindow, hbeacon, hnotices, hsilence, ?_, ?_, rfl, rfl,
    fun c => by cases c <;> rfl⟩
  · change List.map (paramValue (strapParams (strapSelection pins))) _ = row
    rw [strapParams_row]
    have hstraps : straps = strapSelection pins := rfl
    rw [← hstraps] at hk ⊢
    dsimp only [row]
    clear_value straps
    interval_cases straps <;> rfl
  · intro x hx
    change paramValue (strapParams (strapSelection pins)) x.1 = x.2
    generalize strapSelection pins = k at hk ⊢
    revert x
    revert k
    decide +kernel
  · rw [hqueue]; rfl
  · rw [hqueue]
    have hany : (Drive.all.any fun d => !(pins.doors.get d).lockSw) =
        !(Drive.all.all fun d => (pins.doors.get d).lockSw) := List.not_all_eq_any_not.symm
    rw [hany]
    cases Drive.all.all fun d => (pins.doors.get d).lockSw <;> cases pins.loopClosed <;> rfl

/-! ### The reset state (assumption log 2) -/

/-- The state right after power-on with the pins of assumption log 2, evaluated. -/
theorem start_resetPins (waiting : List Instr) : start resetPins waiting = { State.reset with pending := waiting } := by
  rfl

theorem paramsLaw_reset : ParamsLaw State.reset := paramsLaw_start resetPins []

theorem tableLaw_reset : TableLaw State.reset := by
  have hempty : heldRecords State.reset = [] := by decide +kernel
  unfold TableLaw
  rw [hempty]
  exact ⟨List.nodup_nil, fun x hx => absurd hx List.not_mem_nil⟩

theorem gangLaw_reset : GangLaw State.reset := by
  refine ⟨fun side => by cases side <;> rfl, fun side g h => ?_, fun d l h => ?_⟩
  · cases side <;> cases h
  · cases d <;> cases h <;> decide

theorem doorLaw_reset : DoorLaw State.reset := by
  refine ⟨by unfold DoorHoldLaw; decide +kernel, by unfold DoorMotionLaw; decide +kernel, rfl, ?_, gangLaw_reset⟩
  rw [leafSetLaw_iff]
  exact ⟨fun d => by cases d <;> rfl, by decide +kernel⟩

theorem blanketLaw_reset : BlanketLaw State.reset := by
  unfold BlanketLaw JoinedLaw PositionLaw BrakeLaw ShuntLaw
  decide +kernel

theorem queueLaw_reset : QueueLaw State.reset := by
  unfold QueueLaw
  decide +kernel

theorem brakesLaw_reset : BrakesLaw State.reset := by
  unfold BrakesLaw BrakesSettled
  decide +kernel

/-- Settles O54: power-on with these pins evaluates to the reset state, and each law is evaluated there. -/
theorem resetIsPowerOnAndLawful : Obligations.ResetIsPowerOnAndLawful :=
  ⟨rfl, fun s => congrArg Host.Outcome.next (start_resetPins s.pending),
    blanketLaw_reset, queueLaw_reset, tableLaw_reset, doorLaw_reset, paramsLaw_reset, brakesLaw_reset⟩

end Sys2Proof.Machine
end

section
/-! The missed-entry watch of a VALID profile whose RACK_ENTRY starts do not ascend (R25, R44). -/

namespace Sys2Proof.Machine

/-- A RACK_ENTRY segment with a start in millimetres. -/
def entryAt (start : Word) : SegmentRecord := ⟨start, 3, 0, 1000, 1000, 0, 0, 0, 0⟩

/-- In SERVICE at 0, with a VALID profile that holds the RACK_ENTRY start at 20 mm before the one at 10 mm. -/
def disorderedEntries : State :=
  { State.reset with
    cmc := { State.reset.cmc with mode := .service }
    odo := { State.reset.odo with status := .valid, estimate := some ⟨0, 0⟩ }
    lps := ⟨.valid, [entryAt 20, entryAt 10], 2, 2, 1000000, none⟩ }

/-- The same state after one WHEEL count UP, of 37.5 mm. -/
def disorderedCounted : State := countSteps .wheel .up disorderedEntries

theorem entryStarts_disordered : entryStarts disorderedEntries = [20, 10] := by decide +kernel

theorem countsFrom_disordered : countsFrom disorderedEntries .wheel := fun ⟨engaged, _⟩ => by cases engaged

theorem exec_disordered : exec (.pulseCount .wheel .up) disorderedEntries = .next disorderedCounted := by
  have hstatus : disorderedCounted.odo.status = disorderedEntries.odo.status := by decide +kernel
  exact congrArg Host.Outcome.next (if_pos hstatus)

/-- Both starts lie in what the count newly reached, and the model arms the watch by the higher one. -/
theorem disorderedCounted_odo :
    disorderedCounted.odo.watch = .armed 20 ∧ disorderedCounted.odo.estimate = some ⟨37500, 375⟩ ∧
    disorderedCounted.odo.status = .valid ∧ disorderedCounted.odo.engagement = .free ∧
    lineLength disorderedCounted = 1000000 := by decide +kernel

theorem maximumIs_disordered : maximumIs disorderedEntries 0 :=
  ⟨by decide, ⟨0, 0⟩, rfl, by decide +kernel⟩

theorem maximumIs_disorderedCounted : maximumIs disorderedCounted 37875 := by
  obtain ⟨-, hestimate, hstatus, -, hlength⟩ := disorderedCounted_odo
  exact ⟨by rw [hstatus]; decide, _, hestimate, by rw [hlength]; decide⟩

/-- Refutes O12, in its last clause: the statement arms an IDLE watch by the lowest RACK_ENTRY start newly reached, the
model by the first in profile order. The two differ on a VALID profile whose starts do not ascend; no profile load
brings one (R44), but the statement speaks of every state. -/
theorem not_motionSetsLatchCauses : ¬ Obligations.MotionSetsLatchCauses := by
  intro h
  obtain ⟨t, ht, -, -, -, -, -, -, -, -, -, hidle⟩ := h disorderedEntries .wheel .wheel .up countsFrom_disordered
  obtain rfl : disorderedCounted = t := Host.Outcome.next.inj (exec_disordered.symm.trans ht)
  obtain ⟨hwatch, hestimate, -, hfree, -⟩ := disorderedCounted_odo
  have notEngaged : disorderedCounted.odo.engagement ≠ .engaged := by rw [hfree]; decide
  obtain ⟨-, hreached⟩ := hidle (fun engages => notEngaged engages.2) rfl
  have armed := (hreached 0 37875 maximumIs_disordered maximumIs_disorderedCounted rfl hfree).2 10
  rw [entryStarts_disordered] at armed
  have lowest : disorderedCounted.odo.watch = .armed 10 := by
    refine (armed (by decide) ?_).2 ?_
    · rintro other ⟨hother, -, -⟩
      rcases List.mem_pair.mp hother with rfl | rfl <;> decide
    · rintro ⟨-, -, e, he, hpast⟩
      obtain rfl := Option.some.inj (hestimate.symm.trans he)
      exact absurd hpast (by decide +kernel)
  exact absurd (hwatch.symm.trans lowest) (by decide)

end Sys2Proof.Machine
end

section
/-! Chapter 2: the pulse source and SET_POSITION (R17, R20). -/

namespace Sys2Proof.Machine

/-! ### The pulse source (R17) -/

/-- R17: a place lies on the rack exactly where its containing segment is a RACK or RACK_ENTRY segment. -/
theorem onRack_iff (s : State) (n : Nat) :
    onRack s n = true ↔ ∃ g, containing s (n / 1000) = some g ∧
      (g.record.track = some .rack ∨ g.record.track = some .rackEntry) := by
  simp [onRack, Option.any_eq_true]

/-- The conditions of R17 are those by which the model selects TOOTH. -/
theorem toothCounts_iff (s : State) : toothCounts s ↔ sourceInUse s = .tooth := by
  simp only [toothCounts, sourceInUse, ← onRack_iff]
  cases s.odo.estimate <;> simp

/-- The pair that R17 names is the pulse source in use. -/
theorem sourceInUse_of_countsFrom {s : State} {source : Pair} (h : countsFrom s source) : sourceInUse s = source := by
  cases source with
  | tooth => exact (toothCounts_iff s).1 h
  | wheel =>
    have hnot : sourceInUse s ≠ .tooth := mt (toothCounts_iff s).2 h
    revert hnot
    cases sourceInUse s <;> simp

/-! ### SET_POSITION (R20) -/

/-- U as SET_POSITION stores it, in the words of R20. -/
theorem takenUncertainty_eq (s : State) (p u : Nat) :
    takenUncertainty s p u =
      if ((containing s p).any fun g => g.record.track == some .rack) = true ∧
          u * 1000 < paramValue s.cmc.params 32 * 500 then
        paramValue s.cmc.params 32 * 500
      else u * 1000 := by
  simp only [takenUncertainty, Bool.and_eq_true, decide_eq_true_eq]
  rfl

/-- What ODO stores of a SET_POSITION it takes: estimate, status by the cap, IDLE watch, and the POSITION blanket. -/
theorem takePosition_eq (p u : Nat) (s : State) :
    takePosition p u s =
      let valid : Bool := decide (takenUncertainty s p u ≤ paramValue s.cmc.params 36 * 1000)
      { s with
        odo := { s.odo with
          estimate := some ⟨p * 1000, takenUncertainty s p u⟩, status := if valid then .valid else .degraded,
          degradedReason := if valid then none else some .cap, watch := .idle },
        ssv := { s.ssv with blankets := { s.ssv.blankets with position := !valid } } } := by
  unfold takePosition
  dsimp only
  by_cases h : takenUncertainty s p u ≤ paramValue s.cmc.params 36 * 1000
  · rw [if_pos (show _ ≤ uncertaintyCap s.cmc.params * 1000 from h)]; simp only [h, decide_true]; rfl
  · rw [if_neg (show ¬_ ≤ uncertaintyCap s.cmc.params * 1000 from h)]; simp only [h, decide_false]; rfl

theorem judgeSetPosition_taken {s : State} (p u : Nat) (hv : s.lps.status = .valid) (hm : s.odo.motion = .standstill) :
    judgeSetPosition p u s =
      ({ code := if p ≤ lineLength s ∧ u ≤ 50000 then .done else .doneClamped },
        judgeRelease (takePosition (min p (lineLength s)) (min u 50000) s)) := by
  have hclamped : (decide (lineLength s < p) || decide (50000 < u)) = !decide (p ≤ lineLength s ∧ u ≤ 50000) := by
    rw [Bool.eq_iff_iff]
    simp
  have hcode : doneOrClamped (lineLength s < p || longestUncertainty < u) [] =
      { code := if p ≤ lineLength s ∧ u ≤ 50000 then .done else .doneClamped } := by
    rw [longestUncertainty, hclamped]
    by_cases h : p ≤ lineLength s ∧ u ≤ 50000 <;> simp [doneOrClamped, h]
  unfold judgeSetPosition
  rw [hcode, if_neg (by simp [State.profileValid, hv]), if_neg (by simp [State.standing, hm])]
  rfl

/-- Settles O13: the two refusals of R20 answer and change nothing, and a taken request stores what ODO takes, with release
judged at standstill. -/
theorem setPositionJudgedInOrder : Obligations.SetPositionJudgedInOrder := by
  intro s position uncertainty hr p given u valid
  refine ⟨request 0x12 (judgeSetPosition position.toNat uncertainty.toNat) s, rfl, ?_⟩
  by_cases hv : s.lps.status ≠ .valid
  · rw [if_pos hv]
    exact request_answered hr _ (by simp [judgeSetPosition, State.profileValid, hv, refused, profileNotValid])
  rw [if_neg hv]
  by_cases hm : s.odo.motion ≠ .standstill
  · rw [if_pos hm]
    exact request_answered hr _
      (by simp [judgeSetPosition, State.profileValid, not_not.1 hv, State.standing, hm, refused])
  rw [if_neg hm]
  have hj := judgeSetPosition_taken position.toNat uncertainty.toNat (not_not.1 hv) (not_not.1 hm)
  have htaken := takePosition_eq p (min uncertainty.toNat 50000) s
  rw [takenUncertainty_eq] at htaken
  have hstanding : (takePosition p (min uncertainty.toNat 50000) s).standing = true := by
    rw [htaken]; exact (standing_iff s).2 (not_not.1 hm)
  obtain ⟨bcmc, bodo, blps, brtb, bssv, bbrc, -, -, bsld, bpending⟩ :=
    request_blocks hr 0x12 (judgeSetPosition position.toNat uncertainty.toNat)
  rw [hj] at bcmc bodo blps brtb bssv bbrc bsld bpending
  obtain ⟨kcmc, kodo, klps, krtb, kssv, ksld, kpending⟩ :=
    judgeRelease_keeps (takePosition p (min uncertainty.toNat 50000) s)
  obtain ⟨tcmc, tlps, trtb, tbrc, -, -, -, tsld, tpending⟩ := takePosition_keeps p (min uncertainty.toNat 50000) s
  refine ⟨request_slot_of hr _ hj, ?_, ?_, ?_, bcmc.trans (kcmc.trans tcmc), blps.trans (klps.trans tlps),
    brtb.trans (krtb.trans trtb), bsld.trans (ksld.trans tsld), bpending.trans (kpending.trans tpending)⟩
  · exact bodo.trans (kodo.trans (by rw [htaken]))
  · rw [bssv, show _ = _ from kssv, htaken]
  · rw [bbrc, show _ = _ from (judgeRelease_brc_of_standing hstanding).1, tbrc]

end Sys2Proof.Machine
end

section
/-! SUPPORT. The slots of the restriction table and the changes of several records at one event (R51, R54, R60). -/

namespace Sys2Proof.Machine

/-- R51: a slot from `i` on holds a record exactly where the list holds one at that distance. -/
theorem mem_heldFrom {l : List (Option Restriction)} {i j : Nat} {r : Restriction} :
    (j, r) ∈ heldFrom i l ↔ ∃ n, j = i + n ∧ l[n]? = some (some r) := by
  induction l generalizing i with
  | nil => simp [heldFrom]
  | cons x rest ih =>
    have hsplit : (∃ n, j = i + n ∧ (x :: rest)[n]? = some (some r)) ↔
        j = i ∧ x = some r ∨ ∃ n, j = i + 1 + n ∧ rest[n]? = some (some r) := by
      constructor
      · rintro ⟨n, hj, hn⟩
        cases n with
        | zero => exact .inl ⟨hj, by simpa using hn⟩
        | succ n => exact .inr ⟨n, by omega, by simpa using hn⟩
      · rintro (⟨hj, hx⟩ | ⟨n, hj, hn⟩)
        · exact ⟨0, hj, by simp [hx]⟩
        · exact ⟨n + 1, by omega, by simpa using hn⟩
    rw [hsplit]
    cases x with
    | none => simp [heldFrom, ih]
    | some y => simp [heldFrom, ih, eq_comm]

/-- The records held are those of the slots. -/
theorem mem_heldRecords {s : State} {i : Nat} {r : Restriction} :
    (i, r) ∈ heldRecords s ↔ slotRecord s i = some r := by
  simp [heldRecords, mem_heldFrom, slotRecord, Table.get?, Option.join_eq_some_iff]

/-- Some record held meets a condition exactly when some slot holds such a record. -/
theorem heldRecords_any {s : State} {p : Restriction → Bool} :
    ((heldRecords s).any fun x => p x.2) = true ↔ ∃ i r, slotRecord s i = some r ∧ p r = true := by
  simp only [List.any_eq_true, Prod.exists, mem_heldRecords]

/-- A change of several records, slot by slot. -/
theorem changeRecords_slotRecord (c : Restriction → Bool) (f : Restriction → Option Restriction) (s : State) (i : Nat) :
    slotRecord (changeRecords c f s) i = (slotRecord s i).bind f := by
  have hslots : (changeRecords c f s).rtb.slots = s.rtb.slots.map fun o => o.bind f := by
    unfold changeRecords noteChange
    dsimp only
    repeat' split
    all_goals rfl
  rw [slotRecord, hslots, slotRecord]
  simp only [Table.map, Table.get?, List.getElem?_map]
  cases s.rtb.slots.list[i]? <;> rfl

/-- A change of several records leaves the header but for the change count (R51). -/
theorem changeRecords_header (c : Restriction → Bool) (f : Restriction → Option Restriction) (s : State) :
    (changeRecords c f s).rtb =
      { s.rtb with slots := (changeRecords c f s).rtb.slots, changeCount := (changeRecords c f s).rtb.changeCount } := by
  unfold changeRecords noteChange
  dsimp only
  repeat' split
  all_goals rfl

/-- The change count rises by 1 in all when a record changes (R51). -/
theorem changeRecords_counts {c : Restriction → Bool} (f : Restriction → Option Restriction) {s : State}
    (h : ∃ i r, slotRecord s i = some r ∧ c r = true) :
    (changeRecords c f s).rtb.changeCount = s.rtb.changeCount + 1 := by
  unfold changeRecords noteChange
  dsimp only
  rw [if_pos (heldRecords_any.2 h)]
  split <;> rfl

/-- With no record that changes, nothing changes. -/
theorem changeRecords_idle {c : Restriction → Bool} {f : Restriction → Option Restriction} {s : State}
    (hkeep : ∀ r, c r = false → f r = some r) (h : ¬∃ i r, slotRecord s i = some r ∧ c r = true) :
    changeRecords c f s = s := by
  have hslots : (s.rtb.slots.map fun o => o.bind f) = s.rtb.slots := by
    refine table_ext (List.ext_getElem? fun i => ?_)
    simp only [Table.map, List.getElem?_map]
    cases hi : s.rtb.slots.list[i]? with
    | none => rfl
    | some o =>
      cases o with
      | none => rfl
      | some r =>
        have hr : c r = false := by
          by_contra hc
          exact h ⟨i, r, by simp [slotRecord, Table.get?, hi], by simpa using hc⟩
        simp [hkeep r hr]
  unfold changeRecords
  dsimp only
  rw [if_neg (mt heldRecords_any.1 h), hslots]

/-- RESTRICTION is raised when a DISPATCH record changes, and nothing else of HLP changes (R54). -/
theorem changeRecords_hlp (c : Restriction → Bool) (f : Restriction → Option Restriction) (s : State) :
    (changeRecords c f s).hlp.slot = s.hlp.slot ∧
    ((changeRecords c f s).hlp.attention.restriction = true ↔ s.hlp.attention.restriction = true ∨
      ∃ i r, slotRecord s i = some r ∧ c r = true ∧ r.origin = .dispatch) := by
  have hdispatch : ((heldRecords s).any fun x => c x.2 && x.2.origin == .dispatch) = true ↔
      ∃ i r, slotRecord s i = some r ∧ c r = true ∧ r.origin = .dispatch := by
    rw [heldRecords_any (p := fun r => c r && r.origin == .dispatch)]
    simp
  unfold changeRecords noteChange
  dsimp only
  by_cases hd : ∃ i r, slotRecord s i = some r ∧ c r = true ∧ r.origin = .dispatch
  · obtain ⟨i, r, hi, hc, ho⟩ := hd
    have hchanged := heldRecords_any.2 ⟨i, r, hi, hc⟩
    have hraised := hdispatch.2 ⟨i, r, hi, hc, ho⟩
    rw [if_pos hchanged, if_pos hraised]
    exact ⟨rfl, iff_of_true rfl (.inr ⟨i, r, hi, hc, ho⟩)⟩
  · rw [if_neg (mt hdispatch.1 hd)]
    simp only [hd, or_false]
    split <;> exact ⟨rfl, .rfl⟩

end Sys2Proof.Machine
end

section
/-! Chapters 2, 4 and 5 at SPEED_UPDATE: the window, the clearance of trailing parts and V_perm (R29, R30, R60, R77). -/

namespace Sys2Proof.Machine

/-! ### Clearance (R55, R60) -/

/-- The model judges the car span clear of a zone as R55 says. -/
theorem clearOf_iff (s : State) (zoneStart zoneEnd : Nat) :
    clearOf s zoneStart zoneEnd = true ↔ spanClear s zoneStart zoneEnd := by
  unfold clearOf spanClear carSpan handedEstimate maximumUm minimumUm carLength
  cases s.odo.status with
  | valid => cases s.odo.estimate <;> simp
  | unknown => simp
  | degraded => simp

/-- The estimate that ODO hands follows its status and its estimate (R19). -/
theorem handedEstimate_congr {s t : State} (hstatus : t.odo.status = s.odo.status)
    (hestimate : t.odo.estimate = s.odo.estimate) : handedEstimate t = handedEstimate s := by
  unfold handedEstimate
  rw [hstatus, hestimate]

theorem lineLength_congr {s t : State} (h : t.lps = s.lps) : lineLength t = lineLength s := by
  unfold lineLength State.profileValid
  rw [h]

/-- Clearance reads ODO's status and estimate, the parameters and the profile. -/
theorem clearOf_congr {s t : State} (hstatus : t.odo.status = s.odo.status) (hestimate : t.odo.estimate = s.odo.estimate)
    (hcmc : t.cmc = s.cmc) (hlps : t.lps = s.lps) : clearOf t = clearOf s := by
  have hspan : carSpan t = carSpan s := by
    unfold carSpan maximumUm
    rw [handedEstimate_congr hstatus hestimate, lineLength_congr hlps, hcmc]
  funext zoneStart zoneEnd
  rw [clearOf, clearOf, hstatus, hspan]

/-- A record's trailing part is released at this update: it has one, and the car span is clear of it (R60). -/
theorem releasesTrailing_iff (s : State) (r : Restriction) :
    releasesTrailing s r = true ↔ ∃ z, r.trailing = some z ∧ clearOf s z.zoneStart z.zoneEnd = true := by
  simp [releasesTrailing, Option.any_eq_true]

theorem clearedRecord_of_not {s : State} {r : Restriction} (h : releasesTrailing s r = false) :
    clearedRecord s r = some r := by
  simp [clearedRecord, h]

/-- RTB's part of a speed update judges clearance by ODO's status and estimate, the parameters and the profile alone. -/
theorem checkClearance_eq {s t : State} (hstatus : t.odo.status = s.odo.status)
    (hestimate : t.odo.estimate = s.odo.estimate) (hcmc : t.cmc = s.cmc) (hlps : t.lps = s.lps) :
    checkClearance t = changeRecords (releasesTrailing s) (clearedRecord s) t := by
  have hreleases : releasesTrailing t = releasesTrailing s := by
    funext r
    simp only [releasesTrailing, clearOf_congr hstatus hestimate hcmc hlps]
  have hcleared : clearedRecord t = clearedRecord s := by
    funext r
    simp only [clearedRecord, hreleases]
  rw [checkClearance, hreleases, hcleared]

/-! ### Supervision (R77, R100) -/

/-- The computation of V_perm reads nothing of DRC, VRL, HLP, SLD and the waiting commands, and of SSV and BRC only what
`computeRecord` names. -/
theorem computePass_congr {s t : State} (hcmc : t.cmc = s.cmc) (hodo : t.odo = s.odo) (hlps : t.lps = s.lps)
    (hrtb : t.rtb = s.rtb) (hssv : t.ssv = s.ssv) (hbrc : t.brc = s.brc) (v : Nat) (w : Way) :
    computePass t v w = computePass s v w := by
  obtain ⟨cmc, odo, lps, rtb, ssv, brc, drc, vrl, hlp, sld, pending⟩ := s
  obtain ⟨cmc', odo', lps', rtb', ssv', brc', drc', vrl', hlp', sld', pending'⟩ := t
  dsimp only at hcmc hodo hlps hrtb hssv hbrc
  subst hcmc hodo hlps hrtb hssv hbrc
  rfl

theorem computeRecord_congr {s t : State} (hcmc : t.cmc = s.cmc) (hodo : t.odo = s.odo) (hlps : t.lps = s.lps)
    (hrtb : t.rtb = s.rtb) (hssv : t.ssv = s.ssv) (hbrc : t.brc = s.brc) (v : Nat) :
    computeRecord t v = computeRecord s v := by
  simp only [computeRecord, computePass_congr hcmc hodo hlps hrtb hssv hbrc, hcmc]

/-- From `s` to `t` SSV moves in its state, its marks and its overspeed condition alone, and of HLP neither the slot nor
RESTRICTION moves. -/
structure SupervisionMove (s t : State) : Prop where
  ssv : t.ssv =
    { s.ssv with
      state := t.ssv.state, acknowledged := t.ssv.acknowledged, released := t.ssv.released,
      overspeed := t.ssv.overspeed }
  slot : t.hlp.slot = s.hlp.slot
  restriction : t.hlp.attention.restriction = s.hlp.attention.restriction

namespace SupervisionMove

theorem refl (s : State) : SupervisionMove s s := ⟨rfl, rfl, rfl⟩

theorem trans {s t u : State} (h : SupervisionMove s t) (k : SupervisionMove t u) : SupervisionMove s u where
  ssv := k.ssv.trans (by rw [h.ssv])
  slot := k.slot.trans h.slot
  restriction := k.restriction.trans h.restriction

theorem of_eq {s t : State} (hs : t.ssv = s.ssv) (hh : t.hlp = s.hlp) : SupervisionMove s t :=
  ⟨by rw [hs], by rw [hh], by rw [hh]⟩

theorem raise {c : Attention} (h : c ≠ .restriction) (s : State) : SupervisionMove s (raise c s) := by
  refine ⟨rfl, rfl, ?_⟩
  change (s.hlp.attention.add c).has .restriction = s.hlp.attention.has .restriction
  simp [h]

theorem settle (s : State) : SupervisionMove s (settle s) := .of_eq (by simp) (by simp)

theorem abortTest (r : AbortReason) (s : State) : SupervisionMove s (abortTest r s) := by
  unfold Machine.abortTest testOver
  split
  · exact refl s
  · refine .trans ?_ (raise (by decide) _)
    exact .of_eq (by simp) (by simp)

theorem addLatchCause (c : LatchCause) (s : State) : SupervisionMove s (addLatchCause c s) := by
  unfold Machine.addLatchCause
  split
  · exact refl s
  · refine .trans ?_ (settle _)
    refine .trans ?_ (abortTest _ _)
    refine .trans ?_ (.of_eq (handAlarm_keeps _ _).2.2.2.2.1 (by simp))
    refine .trans ?_ (raise (by decide) _)
    exact .of_eq rfl rfl

theorem addLatchIf (b : Bool) (c : LatchCause) (s : State) : SupervisionMove s (addLatchIf b c s) := by
  unfold Machine.addLatchIf
  split
  · exact addLatchCause c s
  · exact refl s

theorem setIntervention (x : Intervention) (s : State) : SupervisionMove s (setIntervention x s) := by
  unfold Machine.setIntervention
  split
  · exact refl s
  · refine .trans ?_ (raise (by decide) _)
    exact ⟨rfl, rfl, rfl⟩

theorem placeDemand (level : Option Nat) (s : State) : SupervisionMove s (placeDemand level s) :=
  .of_eq (by simp) (by simp)

theorem enterEmergency (s : State) : SupervisionMove s (enterEmergency s) :=
  ((setIntervention _ s).trans (addLatchCause _ _)).trans (placeDemand _ _)

theorem enterServiceIntervention (s : State) : SupervisionMove s (enterServiceIntervention s) := by
  have hmarks : SupervisionMove s { s with ssv.acknowledged := false, ssv.released := false } := ⟨rfl, rfl, rfl⟩
  exact (hmarks.trans (setIntervention _ _)).trans (placeDemand _ _)

theorem endIntervention (s : State) : SupervisionMove s (endIntervention s) :=
  (setIntervention _ s).trans (placeDemand _ _)

/-- What the evaluation of an update can do (R100 to R103, R106). -/
theorem evaluate (v vPerm : Nat) (s : State) : SupervisionMove s (evaluate v vPerm s) := by
  have hmarked : ∀ x y, SupervisionMove s { s with ssv.overspeed := x, ssv.released := y } :=
    fun _ _ => ⟨rfl, rfl, rfl⟩
  have hover : ∀ x, SupervisionMove s { s with ssv.overspeed := x } := fun _ => ⟨rfl, rfl, rfl⟩
  have hfree : ∀ (excess : Bool),
      SupervisionMove s
        (if excess then Machine.enterEmergency { s with ssv.overspeed := excess }
         else if vPerm + serviceMargin s.cmc.params < v then
           if serviceUnusable s then Machine.enterEmergency { s with ssv.overspeed := excess }
           else Machine.enterServiceIntervention { s with ssv.overspeed := excess }
         else if vPerm < v then Machine.setIntervention .warning { s with ssv.overspeed := excess }
         else Machine.setIntervention .normal { s with ssv.overspeed := excess }) := by
    intro excess
    repeat' split
    · exact (hover _).trans (enterEmergency _)
    · exact (hover _).trans (enterEmergency _)
    · exact (hover _).trans (enterServiceIntervention _)
    · exact (hover _).trans (setIntervention _ _)
    · exact (hover _).trans (setIntervention _ _)
  unfold Machine.evaluate
  dsimp only
  split
  · exact (hover _).trans (addLatchIf _ _ _)
  · split
    · exact (hmarked _ _).trans (enterEmergency _)
    · split
      · exact (hmarked _ _).trans (endIntervention _)
      · exact (hmarked _ _).trans (placeDemand _ _)
  · exact hfree _
  · exact hfree _

end SupervisionMove

/-- SSV's part of a speed update in SERVICE or SHUNT: the record of the computation, its V_perm, and nothing of the blankets
(R77, R91). -/
theorem superviseUpdate_supervised {s : State} (h : s.cmc.mode.supervised = true) :
    (superviseUpdate s).ssv.record = computeRecord s s.odo.speed ∧
    (superviseUpdate s).ssv.permitted = (computeRecord s s.odo.speed).permitted ∧
    (superviseUpdate s).ssv.blankets = s.ssv.blankets := by
  unfold superviseUpdate
  rw [if_pos h]
  dsimp only
  rw [(SupervisionMove.evaluate _ _ _).ssv]
  exact ⟨rfl, rfl, rfl⟩

/-- Outside SERVICE and SHUNT there is no supervision (R77). -/
theorem superviseUpdate_unsupervised {s : State} (h : s.cmc.mode.supervised = false) : superviseUpdate s = s := by
  simp [superviseUpdate, h]

theorem superviseUpdate_blankets (s : State) : (superviseUpdate s).ssv.blankets = s.ssv.blankets := by
  cases h : s.cmc.mode.supervised with
  | true => exact (superviseUpdate_supervised h).2.2
  | false => rw [superviseUpdate_unsupervised h]

theorem superviseUpdate_hlp (s : State) :
    (superviseUpdate s).hlp.slot = s.hlp.slot ∧
    (superviseUpdate s).hlp.attention.restriction = s.hlp.attention.restriction := by
  unfold superviseUpdate
  split
  · have h := SupervisionMove.evaluate s.odo.speed (computeRecord s s.odo.speed).permitted
      { s with ssv.permitted := (computeRecord s s.odo.speed).permitted, ssv.record := computeRecord s s.odo.speed }
    exact ⟨h.slot, h.restriction⟩
  · exact ⟨rfl, rfl⟩

/-! ### The update -/

/-- A trailing part in slot `i` is released at an update that finds the car as `s` has it (R60). -/
def clearsAt (s : State) (i : Nat) (r : Restriction) : Prop :=
  slotRecord s i = some r ∧ ∃ z, r.trailing = some z ∧ clearOf s z.zoneStart z.zoneEnd = true

/-- From `s` to `t` the trailing parts that the car span is clear of are released (R60), with the change count (R51) and
RESTRICTION (R54). -/
structure TrailingReleased (s t : State) : Prop where
  slots : ∀ i, slotRecord t i =
    match slotRecord s i with
    | none => none
    | some r =>
      if r.trailing.any (fun z => clearOf s z.zoneStart z.zoneEnd) = true then
        if r.inForce = none then none else some { r with trailing := none }
      else some r
  count : (∃ i r, clearsAt s i r) → t.rtb.changeCount = s.rtb.changeCount + 1
  idle : (¬∃ i r, clearsAt s i r) → t.rtb = s.rtb
  header : t.rtb = { s.rtb with slots := t.rtb.slots, changeCount := t.rtb.changeCount }
  restriction : t.hlp.attention.restriction = true ↔
    s.hlp.attention.restriction = true ∨ ∃ i r, clearsAt s i r ∧ r.origin = .dispatch

/-- The release reads of its first state the table, what clearance reads, and RESTRICTION, and of its last the table and
RESTRICTION. -/
theorem TrailingReleased.of_eq {s t u : State} (h : TrailingReleased s t) (hrtb : u.rtb = t.rtb)
    (hattention : u.hlp.attention.restriction = t.hlp.attention.restriction) : TrailingReleased s u where
  slots i := by rw [← h.slots i, slotRecord, hrtb, slotRecord]
  count := by rw [hrtb]; exact h.count
  idle := by rw [hrtb]; exact h.idle
  header := by rw [hrtb]; exact h.header
  restriction := by rw [hattention]; exact h.restriction

/-- RTB's part of a speed update (R60), taken from a state that has the table, the estimate and RESTRICTION of `s`. -/
theorem checkClearance_releases {s x : State} (hrtb : x.rtb = s.rtb) (hstatus : x.odo.status = s.odo.status)
    (hestimate : x.odo.estimate = s.odo.estimate) (hcmc : x.cmc = s.cmc) (hlps : x.lps = s.lps)
    (hattention : x.hlp.attention.restriction = s.hlp.attention.restriction) :
    TrailingReleased s (checkClearance x) := by
  have hslots : ∀ i, slotRecord x i = slotRecord s i := fun i => by rw [slotRecord, hrtb, slotRecord]
  have hclears : ∀ i r, (slotRecord x i = some r ∧ releasesTrailing s r = true) ↔ clearsAt s i r := fun i r => by
    rw [hslots, releasesTrailing_iff]; rfl
  rw [checkClearance_eq hstatus hestimate hcmc hlps]
  refine ⟨fun i => ?_, fun h => ?_, fun h => ?_, ?_, ?_⟩
  · rw [changeRecords_slotRecord, hslots]
    cases slotRecord s i with
    | none => rfl
    | some r =>
      simp only [Option.bind_some, clearedRecord, Option.isSome_iff_ne_none, ne_eq, ite_not]
      rfl
  · rw [← hrtb]
    exact changeRecords_counts _ (by simpa only [hclears] using h)
  · rw [changeRecords_idle (fun r => clearedRecord_of_not) (by simpa only [hclears] using h), hrtb]
  · rw [← hrtb]
    exact changeRecords_header _ _ _
  · rw [(changeRecords_hlp _ _ _).2, hattention]
    simp only [← and_assoc, hclears]

/-- SSV's part of a speed update (R77, R91), taken from a state `x` that has what SSV reads of `s` but for the table, the
window closed. -/
theorem superviseUpdate_record {s x : State} (hcmc : x.cmc = s.cmc) (hlps : x.lps = s.lps) (hssv : x.ssv = s.ssv)
    (hbrc : x.brc = s.brc) (h : s.cmc.mode.supervised = true) :
    (superviseUpdate x).ssv.record = computeRecord { s with rtb := x.rtb, odo := x.odo } x.odo.speed ∧
    (superviseUpdate x).ssv.permitted = (superviseUpdate x).ssv.record.permitted := by
  obtain ⟨hrecord, hpermitted, -⟩ := superviseUpdate_supervised (s := x) (by rw [hcmc, h])
  have hheld := computeRecord_congr (s := { s with rtb := x.rtb, odo := x.odo }) (t := x) hcmc rfl hlps rfl hssv hbrc
    x.odo.speed
  exact ⟨hrecord.trans hheld, by rw [hpermitted, hrecord]⟩

/-! ### The update -/

/-- The state after a speed update; RTB and SSV take it in either order (R60). -/
def takeUpdate (rtbFirst : Bool) (s : State) : State :=
  if rtbFirst then superviseUpdate (checkClearance (closeWindow s)) else checkClearance (superviseUpdate (closeWindow s))

theorem exec_speedUpdate (rtbFirst : Bool) (s : State) :
    exec (.speedUpdate rtbFirst) s = .next (takeUpdate rtbFirst s) := rfl

theorem takeUpdate_keeps (rtbFirst : Bool) (s : State) :
    (takeUpdate rtbFirst s).odo = (closeWindow s).odo ∧ (takeUpdate rtbFirst s).ssv.blankets = s.ssv.blankets ∧
    (takeUpdate rtbFirst s).cmc = s.cmc ∧ (takeUpdate rtbFirst s).lps = s.lps ∧
    (takeUpdate rtbFirst s).drc = s.drc ∧ (takeUpdate rtbFirst s).hlp.slot = s.hlp.slot ∧
    (takeUpdate rtbFirst s).sld = s.sld ∧ (takeUpdate rtbFirst s).pending = s.pending := by
  have hslot : ∀ x, (checkClearance x).hlp.slot = x.hlp.slot := fun x => (changeRecords_hlp _ _ x).1
  cases rtbFirst with
  | true => simp [takeUpdate, superviseUpdate_blankets, (superviseUpdate_hlp _).1, hslot]
  | false => simp [takeUpdate, superviseUpdate_blankets, (superviseUpdate_hlp _).1, hslot]

theorem takeUpdate_releases (rtbFirst : Bool) (s : State) : TrailingReleased s (takeUpdate rtbFirst s) := by
  cases rtbFirst with
  | true =>
    have hreleases := checkClearance_releases (s := s) (x := closeWindow s) rfl rfl rfl rfl rfl rfl
    exact hreleases.of_eq (superviseUpdate_keeps _).2.2.2.1 (superviseUpdate_hlp _).2
  | false =>
    exact checkClearance_releases (by simp) (by simp [closeWindow]) (by simp [closeWindow]) (by simp) (by simp)
      (by rw [(superviseUpdate_hlp _).2]; rfl)

/-- SSV's record and V_perm after a speed update in SERVICE or SHUNT (R77, R91). -/
theorem takeUpdate_record (rtbFirst : Bool) {s : State} (h : s.cmc.mode.supervised = true) :
    (takeUpdate rtbFirst s).ssv.record =
      computeRecord
        { s with rtb := if rtbFirst then (takeUpdate rtbFirst s).rtb else s.rtb, odo := (takeUpdate rtbFirst s).odo }
        (takeUpdate rtbFirst s).odo.speed ∧
    (takeUpdate rtbFirst s).ssv.permitted = (takeUpdate rtbFirst s).ssv.record.permitted := by
  cases rtbFirst with
  | true =>
    have hrecord := superviseUpdate_record (s := s) (x := checkClearance (closeWindow s)) (by simp) (by simp) (by simp)
      (by simp) h
    simpa [takeUpdate] using hrecord
  | false =>
    have hrecord := superviseUpdate_record (s := s) (x := closeWindow s) rfl rfl rfl rfl h
    simpa [takeUpdate] using hrecord

theorem takeUpdate_unsupervised (rtbFirst : Bool) {s : State} (h : s.cmc.mode.supervised = false) :
    (takeUpdate rtbFirst s).ssv = s.ssv ∧ (takeUpdate rtbFirst s).brc = s.brc ∧
    (takeUpdate rtbFirst s).vrl = s.vrl := by
  unfold takeUpdate
  split <;> rw [superviseUpdate_unsupervised (by simpa using h)] <;> simp

/-- The pass that governs, by the selected direction (R79, R94). -/
theorem computeRecord_selected (s : State) (v : Nat) :
    (s.cmc.selected = .up → computeRecord s v = computePass s v .up) ∧
    (s.cmc.selected = .down → computeRecord s v = computePass s v .down) ∧
    (s.cmc.selected = .neutral → computeRecord s v =
      if (computePass s v .down).permitted < (computePass s v .up).permitted then computePass s v .down
      else computePass s v .up) := by
  refine ⟨fun h => ?_, fun h => ?_, fun h => ?_⟩ <;> rw [computeRecord, h]

/-- Settles O24: ODO closes its window; RTB and SSV take the update in either order, SSV with the table as it then is. -/
theorem speedUpdate : Obligations.SpeedUpdate := by
  intro s rtbFirst
  refine ⟨clearOf_iff s, takeUpdate rtbFirst s, exec_speedUpdate rtbFirst s, ?_⟩
  obtain ⟨hodo, hblankets, hcmc, hlps, hdrc, hslot, hsld, hpending⟩ := takeUpdate_keeps rtbFirst s
  have hreleases := takeUpdate_releases rtbFirst s
  refine ⟨by rw [hodo]; rfl, by rw [hodo]; rfl, by rw [hodo]; rfl, hreleases.slots,
    ⟨hreleases.count, hreleases.idle, hreleases.header, hreleases.restriction⟩, ?_, hblankets, hcmc, hlps, hdrc, hslot,
    hsld, hpending⟩
  by_cases hmode : s.cmc.mode = .service ∨ s.cmc.mode = .shunt
  · rw [if_pos hmode]
    obtain ⟨hrecord, hpermitted⟩ := takeUpdate_record rtbFirst ((mode_supervised_iff _).2 hmode)
    obtain ⟨hup, hdown, hneutral⟩ := computeRecord_selected
      { s with rtb := if rtbFirst then (takeUpdate rtbFirst s).rtb else s.rtb, odo := (takeUpdate rtbFirst s).odo }
      (takeUpdate rtbFirst s).odo.speed
    exact ⟨hrecord, hpermitted, fun h => hrecord.trans (hup h), fun h => hrecord.trans (hdown h),
      fun h => hrecord.trans (hneutral h)⟩
  · rw [if_neg hmode]
    exact takeUpdate_unsupervised rtbFirst (Bool.eq_false_iff.2 (mt (mode_supervised_iff _).1 hmode))

end Sys2Proof.Machine
end

section
/-! SUPPORT. The kinds of telegram in the uplink queue: the events of BRC and DRC add to them and take none away (R176, R177). -/

namespace Sys2Proof.Machine

/-- Every kind of telegram that `s` has queued is queued in `t`. -/
def QueueGrows (s t : State) : Prop :=
  ∀ k, k ∈ s.vrl.queue.map UplinkEntry.kind → k ∈ t.vrl.queue.map UplinkEntry.kind

namespace QueueGrows

theorem refl (s : State) : QueueGrows s s := fun _ h => h

theorem trans {s t u : State} (h : QueueGrows s t) (k : QueueGrows t u) : QueueGrows s u := fun x hx => k x (h x hx)

theorem of_eq {s t : State} (h : t.vrl = s.vrl) : QueueGrows s t := fun _ hk => by rwa [h]

theorem foldl {α : Type} {f : State → α → State} (h : ∀ s a, QueueGrows s (f s a)) :
    ∀ (l : List α) (s : State), QueueGrows s (l.foldl f s)
  | [], s => refl s
  | a :: l, s => (h s a).trans (foldl h l (f s a))

theorem refreshKind (k : UplinkKind) (f : List Byte → List Byte) (s : State) : QueueGrows s (refreshKind k f s) :=
  fun _ h => by rwa [refreshKind_kinds]

theorem handAlarm (c : AlarmCause) (s : State) : QueueGrows s (handAlarm c s) := by
  have hplace : ∀ (e : UplinkEntry) (q : List UplinkEntry) (k : UplinkKind),
      k ∈ q.map UplinkEntry.kind → k ∈ (placeAlarm e q).map UplinkEntry.kind := by
    intro e q k hk
    unfold placeAlarm
    split
    · cases hk
    · split
      · exact List.mem_cons_of_mem _ hk
      · simp only [List.map_cons, List.mem_cons] at hk ⊢
        tauto
  unfold Machine.handAlarm
  split
  · exact refreshKind _ _ s
  · exact fun k hk => hplace _ _ k hk

theorem handDoorState (s : State) : QueueGrows s (handDoorState s) := by
  unfold Machine.handDoorState
  split
  · exact refreshKind _ _ s
  · intro k hk
    simp only [enqueueTail_vrl, List.map_append, List.mem_append]
    exact .inl hk

theorem addLatchCause (c : LatchCause) (s : State) : QueueGrows s (addLatchCause c s) := by
  unfold Machine.addLatchCause
  split
  · exact refl s
  · refine .trans ?_ (.of_eq (settle_keeps _).2.2.2.2.2.2.1)
    refine .trans ?_ (.of_eq (abortTest_keeps _ _).2.2.2.2.2.2.1)
    refine .trans ?_ (handAlarm _ _)
    exact .of_eq rfl

theorem addLatchIf (b : Bool) (c : LatchCause) (s : State) : QueueGrows s (addLatchIf b c s) := by
  unfold Machine.addLatchIf
  split
  · exact addLatchCause c s
  · exact refl s

theorem isolateLeaf (d : Drive) (c : IsolationCause) (s : State) : QueueGrows s (isolateLeaf d c s) := by
  have halarm : ∀ t, QueueGrows t (isolationAlarm c t) := fun t => by
    cases c
    · exact handAlarm _ t
    · exact handAlarm _ t
    · exact refl t
  unfold Machine.isolateLeaf
  split
  · exact refl s
  · exact .trans (.of_eq (by simp)) (halarm _)

theorem closingEntry (d : Drive) (s : State) : QueueGrows s (closingEntry d s) := by
  unfold Machine.closingEntry
  dsimp only
  repeat' split
  · exact refl s
  · exact isolateLeaf d _ s
  · exact .of_eq (by simp)
  · exact .of_eq (by simp)
  · exact refl s
  · exact refl s

theorem startClosing (ds : List Drive) (k : Nat) (s : State) : QueueGrows s (startClosing ds k s) :=
  (foldl (fun s d => .of_eq (setClosing_keeps d k s).2.2.2.2.2.2.1) ds s).trans (foldl (fun s d => closingEntry d s) ds _)

theorem closeLeaves (side : Side) (ds : List Drive) (s : State) : QueueGrows s (closeLeaves side ds s) := by
  unfold Machine.closeLeaves
  split
  · exact .trans (.of_eq (by simp)) (startClosing ds 1 _)
  · exact startClosing ds 1 s

theorem unlockSide (side : Side) (s : State) : QueueGrows s (unlockSide side s) := by
  refine foldl (fun s d => ?_) _ s
  unfold unlockLeaf
  split
  · exact isolateLeaf d _ s
  · exact .of_eq (by simp)

theorem judge (s : State) : QueueGrows s (judge s) := by
  have hforce : ∀ x, QueueGrows s { s with drc.inForce := x } := fun _ => refl s
  unfold Machine.judge
  dsimp only
  split
  · exact refl s
  · have hloss : QueueGrows s
        (match s.drc.inForce with
          | some side => closeOnLoss side { s with drc.inForce := releaseCondition s }
          | none => { s with drc.inForce := releaseCondition s }) := by
      split
      · exact (hforce _).trans (closeLeaves _ _ _)
      · exact hforce _
    split
    · exact hloss.trans (unlockSide _ _)
    · exact hloss

/-- An event of DRC takes no kind from the queue where its operation takes none (R162, R177). -/
theorem drcEvent {f : State → State} {s : State} (h : QueueGrows s (f s)) : QueueGrows s (drcEvent f s) := by
  have hflush : ∀ t, QueueGrows t (flushReport t) := fun t => by
    unfold flushReport
    split
    · exact handDoorState { t with drc.reportDue := false }
    · exact refl t
  unfold Machine.drcEvent
  dsimp only
  exact ((h.trans (.of_eq (by simp))).trans (addLatchIf _ _ _)).trans (hflush _)

theorem judgeRelease (s : State) : QueueGrows s (judgeRelease s) := drcEvent (judge s)

end QueueGrows

/-- An alarm handed to VRL is queued (R177). -/
theorem handAlarm_queued (c : AlarmCause) (s : State) : UplinkKind.alarm ∈ (handAlarm c s).vrl.queue.map UplinkEntry.kind := by
  unfold handAlarm
  split
  · rename_i h
    rw [refreshKind_kinds]
    simpa [queuedKind, List.any_eq_true] using h
  · have hplace : ∀ (e : UplinkEntry) q, e ∈ placeAlarm e q := by
      intro e q
      unfold placeAlarm
      split
      · simp
      · split <;> simp
    exact List.mem_map.2 ⟨_, hplace _ _, rfl⟩

end Sys2Proof.Machine
end

section
/-! Chapter 2: a pulse count (R15 to R19, R22 to R24, R27, R29, R31). -/

namespace Sys2Proof.Machine

/-! ### The steps of a count, one by one (R15) -/

/-- After steps 1 to 3: total, STABLED_MOTION, W and the engagement state. -/
def meshedCount (pair : Pair) (way : Way) (s : State) : State :=
  changeEngagement pair (addLatchIf (s.cmc.mode == .stabled) .stabledMotion (addTotal pair way s))

/-- After step 4: the estimate moved by a count from the selected source. -/
def movedCount (pair : Pair) (way : Way) (s : State) : State :=
  if sourceInUse s == pair then moveEstimate pair way (meshedCount pair way s) else meshedCount pair way s

/-- After step 5: the estimate anchored at an anchoring count. -/
def locatedCount (pair : Pair) (way : Way) (s : State) : State :=
  anchorAfter (meshing s pair) way (movedCount pair way s)

/-- After step 6: the watch changed and checked. -/
def watchedCount (pair : Pair) (way : Way) (s : State) : State :=
  changeWatch (meshing s pair) ((handedEstimate s).map (maximumUm s)) (sourceInUse s == pair) (locatedCount pair way s)

theorem countSteps_eq (pair : Pair) (way : Way) (s : State) :
    countSteps pair way s =
      becomeMoving (if sourceInUse s == pair then accumulate pair way (watchedCount pair way s)
        else watchedCount pair way s) := rfl

/-- Step 3 reads the engagement state, W and the parameters (R22). -/
theorem meshing_congr {s t : State} (hengagement : t.odo.engagement = s.odo.engagement)
    (hwheel : t.odo.wheelTravel = s.odo.wheelTravel) (hcmc : t.cmc = s.cmc) (pair : Pair) :
    meshing t pair = meshing s pair := by
  unfold meshing
  rw [hengagement, hwheel, hcmc]

theorem twoPitches_eq (p : Table Nat 52) : twoPitches p = 2 * paramValue p 32 * 1000 := by
  unfold twoPitches toothPitch
  omega

/-- The engagement state after step 3, by W against two pitches (R22). -/
theorem meshing_engagement (s : State) (pair : Pair) :
    (match meshing s pair with
      | .none => s.odo.engagement
      | .engagement => Engagement.engaged
      | .disengagement => Engagement.free) =
    match pair with
    | .tooth => if s.odo.wheelTravel < 2 * paramValue s.cmc.params 32 * 1000 then s.odo.engagement else .engaged
    | .wheel =>
      if s.odo.wheelTravel + countDistance s.cmc.params .wheel < 2 * paramValue s.cmc.params 32 * 1000 then
        s.odo.engagement
      else .free := by
  unfold meshing
  rw [twoPitches_eq]
  cases pair with
  | tooth =>
    by_cases hw : s.odo.wheelTravel < 2 * paramValue s.cmc.params 32 * 1000
    · simp [hw, Nat.not_le.2 hw]
    · cases he : s.odo.engagement <;> simp [hw, Nat.not_lt.1 hw]
  | wheel =>
    by_cases hw : s.odo.wheelTravel + countDistance s.cmc.params .wheel < 2 * paramValue s.cmc.params 32 * 1000
    · simp [hw, Nat.not_le.2 hw]
    · cases he : s.odo.engagement <;> simp [hw, Nat.not_lt.1 hw]

theorem meshedCount_odo (pair : Pair) (way : Way) (s : State) :
    (meshedCount pair way s).odo =
      { s.odo with
        toothTotal := match pair with
          | .tooth => s.odo.toothTotal + (match way with | .up => 1 | .down => -1)
          | .wheel => s.odo.toothTotal,
        wheelTotal := match pair with
          | .tooth => s.odo.wheelTotal
          | .wheel => s.odo.wheelTotal + (match way with | .up => 1 | .down => -1),
        engagement := match meshing s pair with
          | .none => s.odo.engagement
          | .engagement => .engaged
          | .disengagement => .free,
        wheelTravel := match pair with
          | .tooth => 0
          | .wheel => s.odo.wheelTravel + countDistance s.cmc.params .wheel } := by
  have htotal : ∀ b c t, (addLatchIf b c t).odo = t.odo := fun b c t => by simp
  have hmesh : meshing (addLatchIf (s.cmc.mode == .stabled) .stabledMotion (addTotal pair way s)) pair =
      meshing s pair := by
    refine meshing_congr ?_ ?_ (by simp) pair <;> cases pair <;> simp [addTotal]
  simp only [meshedCount, changeEngagement, hmesh, htotal, addLatchIf_keeps, addTotal_keeps]
  cases pair <;> rfl

/-- Step 4 changes the estimate, the status and its reason. -/
theorem moveEstimate_odo (pair : Pair) (way : Way) (s : State) :
    (moveEstimate pair way s).odo =
      { s.odo with
        estimate := (moveEstimate pair way s).odo.estimate, status := (moveEstimate pair way s).odo.status,
        degradedReason := (moveEstimate pair way s).odo.degradedReason } := by
  unfold moveEstimate
  dsimp only
  repeat' split
  all_goals rfl

/-- Step 5 changes the estimate, the status and its reason. -/
theorem anchorAfter_odo (m : Meshing) (way : Way) (s : State) :
    (anchorAfter m way s).odo =
      { s.odo with
        estimate := (anchorAfter m way s).odo.estimate, status := (anchorAfter m way s).odo.status,
        degradedReason := (anchorAfter m way s).odo.degradedReason } := by
  have hanchor : ∀ t : State, (anchor t).odo =
      { t.odo with
        estimate := (anchor t).odo.estimate, status := (anchor t).odo.status,
        degradedReason := (anchor t).odo.degradedReason } := by
    intro t
    unfold anchor
    repeat' split
    all_goals simp [setStatus, setEstimate]
  unfold anchorAfter
  split
  · exact hanchor s
  · exact hanchor s
  · rfl

/-- Step 6 changes the watch. -/
theorem changeWatch_odo (m : Meshing) (before : Option Nat) (fromSource : Bool) (s : State) :
    (changeWatch m before fromSource s).odo =
      { s.odo with watch := (changeWatch m before fromSource s).odo.watch } := by
  unfold changeWatch
  dsimp only
  split <;> simp

/-- Step 7 changes the speed sum and the accumulator (R29, R31). -/
theorem accumulate_odo (pair : Pair) (way : Way) (s : State) :
    (accumulate pair way s).odo =
      { s.odo with
        windowSum := match way with
          | .up => s.odo.windowSum + countDistance s.cmc.params pair
          | .down => s.odo.windowSum - countDistance s.cmc.params pair,
        reverse :=
          if againstSelected s.cmc.selected way = true then
            min (s.odo.reverse + countDistance s.cmc.params pair) (lineUm s)
          else s.odo.reverse - countDistance s.cmc.params pair } := by
  unfold accumulate
  dsimp only
  cases way <;> split <;> simp

/-- Step 8: MOVING, with the standstill timer at its full length (R27). -/
theorem becomeMoving_odo (s : State) :
    (becomeMoving s).odo =
      { s.odo with motion := .moving, standstillTimer := some (paramValue s.cmc.params 38) } := by
  unfold becomeMoving
  dsimp only
  split <;> simp [standstillWindow]

/-- What steps 1 to 6 leave of the blocks that steps 7 and 8 read. -/
theorem watchedCount_keeps (pair : Pair) (way : Way) (s : State) :
    (watchedCount pair way s).cmc = s.cmc ∧ (watchedCount pair way s).lps = s.lps := by
  unfold watchedCount locatedCount movedCount meshedCount
  split <;> simp

theorem locatedCount_odo (pair : Pair) (way : Way) (s : State) :
    (locatedCount pair way s).odo =
      { (meshedCount pair way s).odo with
        estimate := (locatedCount pair way s).odo.estimate, status := (locatedCount pair way s).odo.status,
        degradedReason := (locatedCount pair way s).odo.degradedReason } := by
  unfold locatedCount
  rw [anchorAfter_odo]
  unfold movedCount
  split
  · rw [moveEstimate_odo]
  · rfl

theorem watchedCount_odo (pair : Pair) (way : Way) (s : State) :
    (watchedCount pair way s).odo =
      { (locatedCount pair way s).odo with watch := (watchedCount pair way s).odo.watch } :=
  changeWatch_odo _ _ _ _

/-- ODO after the eight steps of a count. -/
theorem countSteps_odo (pair : Pair) (way : Way) (s : State) :
    (countSteps pair way s).odo =
      { (meshedCount pair way s).odo with
        estimate := (locatedCount pair way s).odo.estimate, status := (locatedCount pair way s).odo.status,
        degradedReason := (locatedCount pair way s).odo.degradedReason,
        watch := (watchedCount pair way s).odo.watch,
        motion := .moving, standstillTimer := some (paramValue s.cmc.params 38),
        windowSum :=
          if sourceInUse s = pair then
            match way with
            | .up => s.odo.windowSum + countDistance s.cmc.params pair
            | .down => s.odo.windowSum - countDistance s.cmc.params pair
          else s.odo.windowSum,
        reverse :=
          if sourceInUse s = pair then
            if againstSelected s.cmc.selected way = true then
              min (s.odo.reverse + countDistance s.cmc.params pair) (lineLength s * 1000)
            else s.odo.reverse - countDistance s.cmc.params pair
          else s.odo.reverse } := by
  obtain ⟨hcmc, hlps⟩ := watchedCount_keeps pair way s
  have hline : lineUm (watchedCount pair way s) = lineLength s * 1000 := by rw [lineUm, lineLength_congr hlps]
  have hwatched := watchedCount_odo pair way s
  rw [locatedCount_odo, meshedCount_odo] at hwatched
  rw [countSteps_eq, becomeMoving_odo, meshedCount_odo]
  by_cases h : sourceInUse s = pair
  · simp only [h, beq_self_eq_true, if_true, accumulate_odo, accumulate_keeps, hcmc, hline]
    rw [hwatched]
  · simp only [h, beq_eq_false_iff_ne.2 h, Bool.false_eq_true, if_false, hcmc]
    rw [hwatched]

/-! ### The links of a count -/

theorem LinksKept.becomeMoving (s : State) : LinksKept s (becomeMoving s) := by
  have htest : ∀ t, LinksKept t (testMotion t) := fun t => by
    unfold testMotion
    split
    · exact (abortTest _ t).trans (addLatchCause _ _)
    · exact refl t
  have hmoving : ∀ m n, LinksKept s { s with odo.motion := m, odo.standstillTimer := n } := fun _ _ => ⟨rfl, rfl⟩
  unfold Machine.becomeMoving
  dsimp only
  split
  · exact ((((hmoving _ _).trans (htest _)).trans (settle _)).trans (addLatchIf _ _ _)).trans (judgeRelease _)
  · exact hmoving _ _

theorem LinksKept.anchorAfter (m : Meshing) (way : Way) (s : State) : LinksKept s (anchorAfter m way s) := by
  have hanchor : ∀ t, LinksKept t (anchor t) := by
    intro t
    unfold anchor
    repeat' split
    · exact refl t
    · exact ⟨rfl, rfl⟩
    · exact refl t
    · exact .trans (.of_eq (by simp) (by simp)) (handAlarm _ _)
  unfold Machine.anchorAfter
  split
  · exact hanchor s
  · exact hanchor s
  · exact refl s

theorem LinksKept.changeWatch (m : Meshing) (before : Option Nat) (fromSource : Bool) (s : State) :
    LinksKept s (changeWatch m before fromSource s) := by
  unfold Machine.changeWatch
  dsimp only
  split
  · refine .trans ?_ (addLatchCause _ _)
    exact ⟨rfl, rfl⟩
  · exact ⟨rfl, rfl⟩

theorem LinksKept.accumulate (pair : Pair) (way : Way) (s : State) : LinksKept s (accumulate pair way s) := by
  unfold Machine.accumulate
  dsimp only
  split
  · refine .trans ?_ (addLatchIf _ _ _)
    exact ⟨rfl, rfl⟩
  · exact ⟨rfl, rfl⟩

theorem LinksKept.countSteps (pair : Pair) (way : Way) (s : State) : LinksKept s (countSteps pair way s) := by
  have hmeshed : LinksKept s (meshedCount pair way s) := by
    have htotal : LinksKept s (addTotal pair way s) := .of_eq (by simp) (by simp)
    have hlatched := htotal.trans (addLatchIf (s.cmc.mode == .stabled) .stabledMotion _)
    exact hlatched.trans (.of_eq (by simp [meshedCount]) (by simp [meshedCount]))
  have hlocated : LinksKept s (locatedCount pair way s) := by
    refine .trans ?_ (anchorAfter _ _ _)
    unfold movedCount
    split
    · exact hmeshed.trans (.of_eq (by simp) (by simp))
    · exact hmeshed
  have hwatched : LinksKept s (watchedCount pair way s) := hlocated.trans (changeWatch _ _ _ _)
  rw [countSteps_eq]
  refine .trans ?_ (becomeMoving _)
  split
  · exact hwatched.trans (accumulate _ _ _)
  · exact hwatched

/-! ### PULSE_COUNT and ILLEGAL_STEP (R15) -/

/-- The state after PULSE_COUNT; a changed position status is handed to DRC (R149). -/
def counted (pair : Pair) (way : Way) (s : State) : State :=
  if (countSteps pair way s).odo.status = s.odo.status then countSteps pair way s
  else judgeRelease (countSteps pair way s)

theorem exec_pulseCount (pair : Pair) (way : Way) (s : State) :
    exec (.pulseCount pair way) s = .next (counted pair way s) := rfl

theorem counted_keeps (pair : Pair) (way : Way) (s : State) :
    (counted pair way s).odo = (countSteps pair way s).odo ∧ (counted pair way s).ssv = (countSteps pair way s).ssv ∧
    (counted pair way s).cmc = s.cmc ∧ (counted pair way s).lps = s.lps ∧ (counted pair way s).rtb = s.rtb ∧
    (counted pair way s).hlp.slot = s.hlp.slot ∧ (counted pair way s).sld = s.sld ∧
    (counted pair way s).pending = s.pending := by
  have hslot : (counted pair way s).hlp.slot = s.hlp.slot := by
    unfold counted
    split
    · exact (LinksKept.countSteps pair way s).slot
    · exact ((LinksKept.countSteps pair way s).trans (.judgeRelease _)).slot
  refine ⟨?_, ?_, ?_, ?_, ?_, hslot, ?_, ?_⟩
  all_goals
    unfold counted
    split <;> simp

/-- Settles O10: each figure of ODO is what `countSteps_odo` says of the eight steps. -/
theorem pulseCountCounts : Obligations.PulseCountCounts := by
  intro s pair source way hsource pitch wheelDistance d one against
  refine ⟨⟨counted pair way s, exec_pulseCount pair way s, ?_⟩, rfl, rfl⟩
  obtain ⟨hodo, -, hcmc, hlps, hrtb, hslot, hsld, hpending⟩ := counted_keeps pair way s
  rw [countSteps_odo, meshedCount_odo, sourceInUse_of_countsFrom hsource, meshing_engagement] at hodo
  have hdistance : countDistance s.cmc.params pair = d := by cases pair <;> rfl
  have hagainst : againstSelected s.cmc.selected way = against := by
    simp only [against]
    cases s.cmc.selected <;> cases way <;> rfl
  rw [hagainst, hdistance] at hodo
  rw [hodo]
  refine ⟨?_, ?_, rfl, rfl, rfl, rfl, ?_, ?_, ?_, rfl, rfl, rfl, rfl, rfl, hcmc, hlps, hrtb, hslot, hsld, hpending⟩
  · cases pair <;> rfl
  · cases pair <;> rfl
  · cases pair <;> rfl
  · cases pair <;> rfl
  · by_cases h : source = pair
    · cases way <;> simp [h]
    · simp [h]

end Sys2Proof.Machine
end

section
/-! Chapter 2, continued: how a pulse count moves the estimate or anchors it (R18, R19, R23 to R25). -/

namespace Sys2Proof.Machine

/-! ### The move of a count (R18) -/

theorem meshedCount_keeps (pair : Pair) (way : Way) (s : State) :
    (meshedCount pair way s).cmc = s.cmc ∧ (meshedCount pair way s).lps = s.lps ∧
    (meshedCount pair way s).ssv = s.ssv ∧ (meshedCount pair way s).odo.estimate = s.odo.estimate ∧
    (meshedCount pair way s).odo.status = s.odo.status ∧
    (meshedCount pair way s).odo.degradedReason = s.odo.degradedReason := by
  rw [meshedCount_odo]
  simp [meshedCount]

/-- An estimate moved by a count of the selected source: N within the line, and U grown and held at the line length. -/
def movedEstimate (s : State) (pair : Pair) (way : Way) (e : Estimate) : Estimate :=
  { nominal :=
      min (match way with
        | .up => e.nominal + countDistance s.cmc.params pair
        | .down => e.nominal - countDistance s.cmc.params pair) (lineLength s * 1000),
    uncertainty := min (e.uncertainty + growth s.cmc.params pair) (lineLength s * 1000) }

theorem movedEstimate_congr {s t : State} (hcmc : t.cmc = s.cmc) (hlps : t.lps = s.lps) :
    movedEstimate t = movedEstimate s := by
  funext pair way e
  unfold movedEstimate
  rw [hcmc, lineLength_congr hlps]

/-- What step 4 stores where an estimate is present. -/
theorem moveEstimate_eq (pair : Pair) (way : Way) {s : State} {e : Estimate} (he : s.odo.estimate = some e) :
    moveEstimate pair way s =
      let moved := { s with odo.estimate := some (movedEstimate s pair way e) }
      if s.odo.status = .valid ∧ paramValue s.cmc.params 36 * 1000 < (movedEstimate s pair way e).uncertainty then
        setStatus .degraded (some .cap) moved
      else moved := by
  have hmoved : setEstimate (movedNominal s pair e.nominal way) (movedEstimate s pair way e).uncertainty s =
      { s with odo.estimate := some (movedEstimate s pair way e) } := by
    cases way <;> rfl
  unfold moveEstimate
  rw [he, ← hmoved]
  rfl

/-- From `s` to `t` the estimate is that of a count of the selected source, and a VALID status whose U exceeds the cap has
become DEGRADED with reason CAP (R18). -/
def movedBy (s : State) (pair : Pair) (way : Way) (e : Estimate) (t : State) : Prop :=
  t.odo.estimate = some (movedEstimate s pair way e) ∧
  if s.odo.status = .valid ∧ paramValue s.cmc.params 36 * 1000 < (movedEstimate s pair way e).uncertainty then
    t.odo.status = .degraded ∧ t.odo.degradedReason = some .cap ∧
    t.ssv.blankets = { s.ssv.blankets with position := true }
  else
    t.odo.status = s.odo.status ∧ t.odo.degradedReason = s.odo.degradedReason ∧ t.ssv.blankets = s.ssv.blankets

/-- A count from the selected source moves the estimate. -/
theorem movedCount_moved {pair : Pair} (way : Way) {s : State} {e : Estimate} (hs : sourceInUse s = pair)
    (he : s.odo.estimate = some e) : movedBy s pair way e (movedCount pair way s) := by
  obtain ⟨hcmc, hlps, hssv, hestimate, hstatus, hreason⟩ := meshedCount_keeps pair way s
  rw [movedCount, if_pos (beq_iff_eq.2 hs), moveEstimate_eq pair way (hestimate.trans he), hstatus, hcmc,
    movedEstimate_congr hcmc hlps, movedBy]
  dsimp only
  split
  · exact ⟨rfl, rfl, rfl, by rw [← hssv]; rfl⟩
  · exact ⟨rfl, hstatus, hreason, by rw [← hssv]⟩

/-- A count from the other source, and one with no estimate, moves nothing. -/
theorem movedCount_unmoved {pair : Pair} (way : Way) {s : State} (h : sourceInUse s ≠ pair ∨ s.odo.estimate = none) :
    movedCount pair way s = meshedCount pair way s := by
  unfold movedCount
  by_cases hs : sourceInUse s = pair
  · rw [if_pos (beq_iff_eq.2 hs), moveEstimate, (meshedCount_keeps pair way s).2.2.2.1,
      h.resolve_left (not_not.2 hs)]
  · rw [if_neg (mt beq_iff_eq.1 hs)]

/-! ### Anchoring (R23, R24) -/

/-- Place `a` is no farther from `n` than `b`, the lower one first at equal distance (R23). -/
def noFarther (n a b : Nat) : Prop := apart a n < apart b n ∨ apart a n = apart b n ∧ a ≤ b

/-- One step of the search for the nearest place within reach. -/
def nearest (n reach : Nat) (best : Option Nat) (x : Nat) : Option Nat :=
  if apart x n ≤ reach then
    match best with
    | none => some x
    | some b => if apart x n < apart b n ∨ (apart x n = apart b n ∧ x < b) then some x else some b
  else best

theorem anchorStart_eq (s : State) (e : Estimate) :
    anchorStart s e = ((entryStarts s).map (· * 1000)).foldl
      (nearest e.nominal (e.uncertainty + 2 * paramValue s.cmc.params 32 * 1000)) none := by
  unfold anchorStart
  rw [twoPitches_eq]
  rfl

/-- With nothing within reach the search finds nothing new. -/
theorem foldl_nearest_none {n reach : Nat} {l : List Nat} (h : ∀ y ∈ l, ¬apart y n ≤ reach) (best : Option Nat) :
    l.foldl (nearest n reach) best = best := by
  induction l with
  | nil => rfl
  | cons a rest ih =>
    have hskip : nearest n reach best a = best := if_neg (h a (by simp))
    rw [List.foldl_cons, hskip]
    exact ih fun y hy => h y (by simp [hy])

/-- The search ends at the place within reach that none is nearer than. -/
theorem foldl_nearest_some {n reach x : Nat} (hx : apart x n ≤ reach) :
    ∀ {l : List Nat} {best : Option Nat}, (∀ y ∈ l, apart y n ≤ reach → noFarther n x y) →
      (∀ b, best = some b → noFarther n x b) → (x ∈ l ∨ best = some x) →
      l.foldl (nearest n reach) best = some x := by
  intro l
  induction l with
  | nil =>
    intro best _ _ hmem
    exact hmem.resolve_left (by simp)
  | cons a rest ih =>
    intro best hl hbest hmem
    have hnext : (∀ b, nearest n reach best a = some b → noFarther n x b) ∧
        (x ∈ rest ∨ nearest n reach best a = some x) := by
      have ha := hl a (by simp)
      simp only [List.mem_cons] at hmem
      unfold nearest
      by_cases hreach : apart a n ≤ reach
      · rw [if_pos hreach]
        have hxa := ha hreach
        cases best with
        | none =>
          refine ⟨fun b hb => by cases hb; exact hxa, ?_⟩
          rcases hmem with (rfl | hmem) | hmem
          · exact .inr rfl
          · exact .inl hmem
          · cases hmem
        | some b =>
          have hxb := hbest b rfl
          dsimp only
          unfold noFarther at hxa hxb
          split
          · refine ⟨fun c hc => by cases hc; exact hxa, ?_⟩
            rcases hmem with (rfl | hmem) | hmem
            · exact .inr rfl
            · exact .inl hmem
            · cases hmem; omega
          · refine ⟨fun c hc => by cases hc; exact hxb, ?_⟩
            rcases hmem with (rfl | hmem) | hmem
            · exact .inr (congrArg some (by omega))
            · exact .inl hmem
            · exact .inr hmem
      · rw [if_neg hreach]
        refine ⟨hbest, ?_⟩
        rcases hmem with (rfl | hmem) | hmem
        · exact absurd hx hreach
        · exact .inl hmem
        · exact .inr hmem
    exact ih (fun y hy => hl y (by simp [hy])) hnext.1 hnext.2

/-- A RACK_ENTRY start lies within U and two pitches of N (R23). -/
def entryInReach (s : State) (e : Estimate) (start : Nat) : Prop :=
  apart (start * 1000) e.nominal ≤ e.uncertainty + 2 * paramValue s.cmc.params 32 * 1000

/-- The start that anchoring finds: the one within reach that is nearest, the lower at equal distance (R23). -/
theorem anchorStart_found {s : State} {e : Estimate} {start : Nat} (hmem : start ∈ entryStarts s)
    (hreach : entryInReach s e start)
    (hnearest : ∀ other ∈ entryStarts s, entryInReach s e other →
      noFarther e.nominal (start * 1000) (other * 1000)) : anchorStart s e = some (start * 1000) := by
  rw [anchorStart_eq]
  refine foldl_nearest_some hreach (fun y hy hr => ?_) (fun b hb => by cases hb) (.inl (List.mem_map.2 ⟨start, hmem, rfl⟩))
  obtain ⟨other, hother, rfl⟩ := List.mem_map.1 hy
  exact hnearest other hother hr

theorem anchorStart_missing {s : State} {e : Estimate} (h : ∀ start ∈ entryStarts s, ¬entryInReach s e start) :
    anchorStart s e = none := by
  rw [anchorStart_eq]
  refine foldl_nearest_none (fun y hy => ?_) none
  obtain ⟨start, hstart, rfl⟩ := List.mem_map.1 hy
  exact h start hstart

theorem anchor_found {s : State} {e : Estimate} {start : Nat} (he : s.odo.estimate = some e)
    (h : anchorStart s e = some start) :
    (anchor s).odo.estimate = some ⟨start, paramValue s.cmc.params 32 * 500⟩ ∧ (anchor s).odo.status = .valid ∧
    (anchor s).odo.degradedReason = none ∧ (anchor s).ssv.blankets = { s.ssv.blankets with position := false } := by
  unfold anchor
  rw [he]
  dsimp only
  rw [h]
  exact ⟨rfl, rfl, rfl, rfl⟩

/-- With no start within reach N and U stay; the status becomes DEGRADED with reason CONFLICT, unless it is UNKNOWN (R24). -/
theorem anchor_missing {s : State} {e : Estimate} (he : s.odo.estimate = some e) (h : anchorStart s e = none) :
    (anchor s).odo.estimate = some e ∧
    if s.odo.status = .unknown then anchor s = s
    else
      (anchor s).odo.status = .degraded ∧ (anchor s).odo.degradedReason = some .conflict ∧
      (anchor s).ssv.blankets = { s.ssv.blankets with position := true } ∧
      UplinkKind.alarm ∈ (anchor s).vrl.queue.map UplinkEntry.kind := by
  have hconflict : s.odo.status ≠ .unknown →
      anchor s = handAlarm .positionConflict (setStatus .degraded (some .conflict) s) := by
    intro hs
    unfold anchor
    rw [he]
    dsimp only
    rw [h]
    dsimp only
    split
    · rename_i hu
      exact absurd hu hs
    · rfl
  by_cases hs : s.odo.status = .unknown
  · have hkept : anchor s = s := by
      unfold anchor
      rw [he]
      dsimp only
      rw [h]
      dsimp only
      rw [hs]
    rw [hkept, if_pos hs]
    exact ⟨he, rfl⟩
  · rw [if_neg hs, hconflict hs]
    refine ⟨?_, ?_, ?_, ?_, handAlarm_queued _ _⟩
    all_goals simp [setStatus, he, BlanketSet.put]

/-! ### The steps after the estimate (R25, R27) -/

theorem QueueGrows.becomeMoving (s : State) : QueueGrows s (becomeMoving s) := by
  have htest : ∀ t, QueueGrows t (testMotion t) := fun t => by
    unfold testMotion
    split
    · exact .trans (.of_eq (by simp)) (addLatchCause _ (abortTest .motion t))
    · exact refl t
  have hmoving : ∀ m n, QueueGrows s { s with odo.motion := m, odo.standstillTimer := n } := fun _ _ => .of_eq rfl
  unfold Machine.becomeMoving
  dsimp only
  split
  · refine .trans ?_ (judgeRelease _)
    refine .trans ?_ (addLatchIf _ _ _)
    exact ((hmoving _ _).trans (htest _)).trans (.of_eq (settle_keeps _).2.2.2.2.2.2.1)
  · exact hmoving _ _

/-- Steps 6 to 8 of a count, and DRC's judgement after them, leave what the estimate has brought. -/
theorem counted_of_located (pair : Pair) (way : Way) (s : State) :
    (counted pair way s).odo.estimate = (locatedCount pair way s).odo.estimate ∧
    (counted pair way s).odo.status = (locatedCount pair way s).odo.status ∧
    (counted pair way s).odo.degradedReason = (locatedCount pair way s).odo.degradedReason ∧
    (counted pair way s).ssv = (locatedCount pair way s).ssv ∧
    QueueGrows (locatedCount pair way s) (counted pair way s) := by
  have hwatched : QueueGrows (locatedCount pair way s) (watchedCount pair way s) := by
    unfold watchedCount changeWatch
    dsimp only
    split
    · refine .trans ?_ (QueueGrows.addLatchCause _ _)
      exact .of_eq rfl
    · exact .of_eq rfl
  have hsummed : QueueGrows (watchedCount pair way s)
      (if sourceInUse s == pair then accumulate pair way (watchedCount pair way s) else watchedCount pair way s) := by
    split
    · unfold accumulate
      dsimp only
      split
      · refine .trans ?_ (QueueGrows.addLatchIf _ _ _)
        exact .of_eq rfl
      · exact .of_eq rfl
    · exact .refl _
  have hsteps : QueueGrows (locatedCount pair way s) (countSteps pair way s) :=
    (hwatched.trans hsummed).trans (.becomeMoving _)
  have hssv : (countSteps pair way s).ssv = (locatedCount pair way s).ssv := by
    rw [countSteps_eq]
    split <;> simp [watchedCount]
  obtain ⟨hodo, hssv', -⟩ := counted_keeps pair way s
  rw [hodo, hssv', countSteps_odo]
  refine ⟨rfl, rfl, rfl, hssv, ?_⟩
  unfold counted
  split
  · exact hsteps
  · exact hsteps.trans (.judgeRelease _)

/-- An engagement leaves the watch IDLE (R25). -/
theorem watchedCount_engagement {pair : Pair} (way : Way) {s : State} (h : meshing s pair = .engagement) :
    (watchedCount pair way s).odo.watch = .idle := by
  unfold watchedCount changeWatch watchAfter
  rw [h]
  dsimp only
  have hnone : ∀ t : State, entryPassed { t with odo.watch := .idle } = none := fun t => rfl
  rw [if_pos rfl, hnone]
  split <;> simp_all

/-! ### What a count leaves of the estimate -/

/-- A count that does not anchor leaves the estimate as it moved it. -/
theorem locatedCount_of_not_anchoring {pair : Pair} {way : Way} {s : State}
    (hup : meshing s pair = .engagement → way = .down) (hdown : meshing s pair = .disengagement → way = .up) :
    locatedCount pair way s = movedCount pair way s := by
  unfold locatedCount anchorAfter
  split
  · rename_i h; cases hup h
  · rename_i h; cases hdown h
  · rfl

theorem counted_unmoved {pair : Pair} {way : Way} {s : State} (hup : meshing s pair = .engagement → way = .down)
    (hdown : meshing s pair = .disengagement → way = .up) (h : sourceInUse s ≠ pair ∨ s.odo.estimate = none) :
    (counted pair way s).odo.estimate = s.odo.estimate ∧ (counted pair way s).odo.status = s.odo.status ∧
    (counted pair way s).odo.degradedReason = s.odo.degradedReason := by
  obtain ⟨hestimate, hstatus, hreason, -, -⟩ := counted_of_located pair way s
  obtain ⟨-, -, -, kestimate, kstatus, kreason⟩ := meshedCount_keeps pair way s
  rw [hestimate, hstatus, hreason, locatedCount_of_not_anchoring hup hdown, movedCount_unmoved way h]
  exact ⟨kestimate, kstatus, kreason⟩

theorem counted_moved {pair : Pair} {way : Way} {s : State} {e : Estimate}
    (hup : meshing s pair = .engagement → way = .down) (hdown : meshing s pair = .disengagement → way = .up)
    (hs : sourceInUse s = pair) (he : s.odo.estimate = some e) : movedBy s pair way e (counted pair way s) := by
  obtain ⟨hestimate, hstatus, hreason, hssv, -⟩ := counted_of_located pair way s
  unfold movedBy
  rw [hestimate, hstatus, hreason, hssv, locatedCount_of_not_anchoring hup hdown]
  exact movedCount_moved way hs he

/-- The estimate as the count's own move leaves it, before it is anchored. -/
def estimateBefore (s : State) (pair : Pair) (way : Way) (e : Estimate) : Estimate :=
  if sourceInUse s = pair then movedEstimate s pair way e else e

/-- Step 4 in a car with an estimate: a status that is UNKNOWN stays so, and of the blankets POSITION alone can change. -/
theorem movedCount_estimate (pair : Pair) (way : Way) {s : State} {e : Estimate} (he : s.odo.estimate = some e) :
    (movedCount pair way s).odo.estimate = some (estimateBefore s pair way e) ∧
    (if s.odo.status = .unknown then
      (movedCount pair way s).odo.status = .unknown ∧ (movedCount pair way s).ssv.blankets = s.ssv.blankets
     else (movedCount pair way s).odo.status ≠ .unknown) ∧
    ∀ x, { (movedCount pair way s).ssv.blankets with position := x } = { s.ssv.blankets with position := x } := by
  unfold estimateBefore
  by_cases hs : sourceInUse s = pair
  · obtain ⟨hestimate, hrest⟩ := movedCount_moved way hs he
    rw [if_pos hs]
    refine ⟨hestimate, ?_⟩
    by_cases hcap :
        s.odo.status = .valid ∧ paramValue s.cmc.params 36 * 1000 < (movedEstimate s pair way e).uncertainty
    · rw [if_pos hcap] at hrest
      obtain ⟨hstatus, -, hblankets⟩ := hrest
      rw [hstatus, hblankets, hcap.1]
      exact ⟨by simp, fun _ => rfl⟩
    · rw [if_neg hcap] at hrest
      obtain ⟨hstatus, -, hblankets⟩ := hrest
      rw [hstatus, hblankets]
      refine ⟨?_, fun _ => rfl⟩
      split
      · rename_i hu
        exact ⟨hu, rfl⟩
      · assumption
  · obtain ⟨-, -, hssv, hestimate, hstatus, -⟩ := meshedCount_keeps pair way s
    rw [if_neg hs, movedCount_unmoved way (.inl hs), hestimate, hstatus, hssv]
    refine ⟨he, ?_, fun _ => rfl⟩
    split
    · rename_i hu
      exact ⟨hu, rfl⟩
    · assumption

theorem movedCount_keeps (pair : Pair) (way : Way) (s : State) :
    (movedCount pair way s).cmc = s.cmc ∧ (movedCount pair way s).lps = s.lps := by
  unfold movedCount meshedCount
  split <;> simp

theorem entryStarts_congr {s t : State} (h : t.lps = s.lps) : entryStarts t = entryStarts s := by
  unfold entryStarts segments State.profileValid
  rw [h]

/-- An anchoring count with a RACK_ENTRY start within reach (R23). -/
theorem counted_anchored {pair : Pair} {way : Way} {s : State} {e : Estimate} {start : Nat}
    (hanchors : locatedCount pair way s = anchor (movedCount pair way s)) (he : s.odo.estimate = some e)
    (hmem : start ∈ entryStarts s) (hreach : entryInReach s (estimateBefore s pair way e) start)
    (hnearest : ∀ other ∈ entryStarts s, entryInReach s (estimateBefore s pair way e) other →
      noFarther (estimateBefore s pair way e).nominal (start * 1000) (other * 1000)) :
    (counted pair way s).odo.estimate = some ⟨start * 1000, paramValue s.cmc.params 32 * 500⟩ ∧
    (counted pair way s).odo.status = .valid ∧ (counted pair way s).odo.degradedReason = none ∧
    (counted pair way s).ssv.blankets = { s.ssv.blankets with position := false } := by
  obtain ⟨hestimate, hstatus, hreason, hssv, -⟩ := counted_of_located pair way s
  obtain ⟨hmoved, -, hblankets⟩ := movedCount_estimate pair way he
  obtain ⟨hcmc, hlps⟩ := movedCount_keeps pair way s
  have hstart : anchorStart (movedCount pair way s) (estimateBefore s pair way e) = some (start * 1000) := by
    refine anchorStart_found ?_ ?_ ?_
    · rwa [entryStarts_congr hlps]
    · unfold entryInReach
      rwa [hcmc]
    · unfold entryInReach
      rwa [entryStarts_congr hlps, hcmc]
  have hfound := anchor_found hmoved hstart
  rw [hblankets, hcmc] at hfound
  rw [hestimate, hstatus, hreason, hssv, hanchors]
  exact hfound

/-- An anchoring count with no RACK_ENTRY start within reach (R24). -/
theorem counted_conflict {pair : Pair} {way : Way} {s : State} {e : Estimate}
    (hanchors : locatedCount pair way s = anchor (movedCount pair way s)) (he : s.odo.estimate = some e)
    (hreach : ∀ start ∈ entryStarts s, ¬entryInReach s (estimateBefore s pair way e) start) :
    (counted pair way s).odo.estimate = some (estimateBefore s pair way e) ∧
    if s.odo.status = .unknown then
      (counted pair way s).odo.status = .unknown ∧ (counted pair way s).ssv.blankets = s.ssv.blankets
    else
      (counted pair way s).odo.status = .degraded ∧ (counted pair way s).odo.degradedReason = some .conflict ∧
      (counted pair way s).ssv.blankets = { s.ssv.blankets with position := true } ∧
      ∃ x ∈ (counted pair way s).vrl.queue, x.kind = .alarm := by
  obtain ⟨hestimate, hstatus, hreason, hssv, hqueue⟩ := counted_of_located pair way s
  obtain ⟨hmoved, hunknown, hblankets⟩ := movedCount_estimate pair way he
  obtain ⟨hcmc, hlps⟩ := movedCount_keeps pair way s
  have hstart : anchorStart (movedCount pair way s) (estimateBefore s pair way e) = none := by
    refine anchorStart_missing ?_
    unfold entryInReach
    rwa [entryStarts_congr hlps, hcmc]
  obtain ⟨hkept, hmissing⟩ := anchor_missing hmoved hstart
  rw [hanchors] at hestimate hstatus hreason hssv hqueue
  rw [hestimate, hstatus, hreason, hssv]
  refine ⟨hkept, ?_⟩
  by_cases hu : s.odo.status = .unknown
  · rw [if_pos hu] at hunknown ⊢
    rw [if_pos hunknown.1] at hmissing
    rw [hmissing]
    exact hunknown
  · rw [if_neg hu] at hunknown ⊢
    rw [if_neg hunknown, hblankets] at hmissing
    obtain ⟨mstatus, mreason, mblankets, malarm⟩ := hmissing
    exact ⟨mstatus, mreason, mblankets, List.mem_map.1 (hqueue _ malarm)⟩

/-- An engagement UP and a disengagement DOWN anchor (R23). -/
theorem locatedCount_anchoring {pair : Pair} {way : Way} {s : State}
    (h : meshing s pair = .engagement ∧ way = .up ∨ meshing s pair = .disengagement ∧ way = .down) :
    locatedCount pair way s = anchor (movedCount pair way s) := by
  unfold locatedCount anchorAfter
  rcases h with ⟨hm, hw⟩ | ⟨hm, hw⟩ <;> rw [hm, hw]

theorem counted_engagement (pair : Pair) (way : Way) (s : State) :
    (counted pair way s).odo.engagement =
      match meshing s pair with
      | .none => s.odo.engagement
      | .engagement => .engaged
      | .disengagement => .free := by
  have hcounted : (counted pair way s).odo.engagement = (meshedCount pair way s).odo.engagement := by
    rw [(counted_keeps pair way s).1, countSteps_odo]
  exact hcounted.trans (congrArg Odometry.engagement (meshedCount_odo pair way s))

theorem counted_watch (pair : Pair) (way : Way) (s : State) :
    (counted pair way s).odo.watch = (watchedCount pair way s).odo.watch := by
  rw [(counted_keeps pair way s).1, countSteps_odo]

/-- The reach of R23 as two bounds. -/
theorem entryInReach_iff (s : State) (n u start : Nat) :
    entryInReach s ⟨n, u⟩ start ↔
      n ≤ start * 1000 + (u + 2 * paramValue s.cmc.params 32 * 1000) ∧
      start * 1000 ≤ n + (u + 2 * paramValue s.cmc.params 32 * 1000) := by
  unfold entryInReach apart
  dsimp only
  omega

/-- The way in which a count of a pair can anchor: an engagement is a tooth count, a disengagement a wheel count (R22). -/
def anchoringWay : Pair → Way
  | .tooth => .up
  | .wheel => .down

/-- Settles O11: a count that does not anchor moves the estimate by R18, and one that anchors is anchored from there. -/
theorem pulseCountMovesOrAnchorsEstimate : Obligations.PulseCountMovesOrAnchorsEstimate := by
  refine ⟨fun s pair source way hsource hup hdown => ?_, fun s e pair source hsource he hengages hdisengages => ?_⟩
  · have hs := sourceInUse_of_countsFrom hsource
    refine ⟨counted pair way s, exec_pulseCount pair way s, fun h => ?_, fun e h he => ?_⟩
    · exact counted_unmoved hup hdown (hs ▸ h)
    · have hmoved := counted_moved hup hdown (hs.trans h) he
      intro line wheelDistance d grown n
      have hshape : movedEstimate s pair way e = ⟨min n line, min grown line⟩ := by
        cases pair <;> cases way <;> rfl
      rw [movedBy, hshape] at hmoved
      obtain ⟨hestimate, hrest⟩ := hmoved
      refine ⟨hestimate, ?_⟩
      split
      · rename_i hcap
        rw [if_pos hcap] at hrest
        obtain ⟨hstatus, hreason, hblankets⟩ := hrest
        exact ⟨hstatus, hreason, by rw [hblankets]⟩
      · rename_i hcap
        rwa [if_neg hcap] at hrest
  · intro line wheelDistance pitch moves n u inReach distance
    have hlocated : locatedCount pair (anchoringWay pair) s = anchor (movedCount pair (anchoringWay pair) s) := by
      refine locatedCount_anchoring ?_
      cases pair with
      | tooth => exact .inl ⟨hengages rfl, rfl⟩
      | wheel => exact .inr ⟨hdisengages rfl, rfl⟩
    have hbefore : estimateBefore s pair (anchoringWay pair) e = ⟨n, u⟩ := by
      rw [estimateBefore, sourceInUse_of_countsFrom hsource]
      by_cases h : source = pair
      · rw [if_pos h]
        cases pair <;> simp only [n, u, moves, h, if_true] <;> rfl
      · rw [if_neg h]
        cases pair <;> simp only [n, u, moves, h, if_false]
    refine ⟨counted pair (anchoringWay pair) s, by cases pair <;> rfl, ?_, fun h => ?_,
      fun start hmem hreach hnearest => ?_, fun hreach => ?_⟩
    · rw [counted_engagement]
      cases pair with
      | tooth => rw [hengages rfl]
      | wheel => rw [hdisengages rfl]
    · rw [counted_watch]
      subst h
      exact watchedCount_engagement _ (hengages rfl)
    · refine counted_anchored hlocated he hmem ?_ ?_
      · rw [hbefore]
        exact (entryInReach_iff s n u start).2 hreach
      · rw [hbefore]
        intro other hother hr
        have hno := hnearest other hother ((entryInReach_iff s n u other).1 hr)
        simp only [distance] at hno
        unfold noFarther apart
        dsimp only
        omega
    · have hconflict := counted_conflict hlocated he (fun start hmem hr => hreach start hmem (by
        rw [hbefore] at hr
        exact (entryInReach_iff s n u start).1 hr))
      rwa [hbefore] at hconflict

end Sys2Proof.Machine
end

section
/-! Chapter 12: the bodies of the read requests (R33, R140, R162, R182, R197, R203). -/

namespace Sys2Proof.Machine

/-! ### Fields (R197) -/

/-- A field of two octets takes a number modulo 65,536. -/
theorem octets2_mod (n : Nat) : octets2 (n % 65536) = octets2 n := by
  have hhigh : BitVec.ofNat 8 (n % 65536 / 256) = BitVec.ofNat 8 (n / 256) := by
    apply BitVec.eq_of_toNat_eq
    simp only [BitVec.toNat_ofNat]
    omega
  have hlow : BitVec.ofNat 8 (n % 65536) = BitVec.ofNat 8 n := by
    apply BitVec.eq_of_toNat_eq
    simp only [BitVec.toNat_ofNat]
    omega
  rw [octets2, octets2, hhigh, hlow]

/-- The number of a list of bits is the sum of the powers of two of those that are set. -/
theorem sum_zipIdx_eq_bitsValue (l : List Bool) (i : Nat) :
    ((l.zipIdx i).map fun x => if x.1 = true then 2 ^ x.2 else 0).sum = 2 ^ i * bitsValue l := by
  induction l generalizing i with
  | nil => rfl
  | cons b rest ih =>
    rw [List.zipIdx_cons, List.map_cons, List.sum_cons, ih, bitsValue, Nat.pow_succ]
    cases b
    · simp only [Bool.false_eq_true, if_false]
      ring
    · simp only [if_true]
      ring

/-- A set of flags as two octets, the first one lowest. -/
theorem halfOctets_bitsValue (l : List Bool) :
    halfOctets (BitVec.ofNat 16 (bitsValue l)) =
      octets2 (l.zipIdx.map fun x => if x.1 = true then 2 ^ x.2 else 0).sum := by
  rw [sum_zipIdx_eq_bitsValue, Nat.pow_zero, Nat.one_mul, halfOctets, BitVec.toNat_ofNat, octets2_mod]

/-- A signed field is two's complement (R195). -/
theorem octets2Signed_eq (z : Int) : octets2Signed z = octets2 (z % 65536).toNat := by
  rw [octets2Signed, BitVec.toNat_ofInt]
  rfl

/-- The pending set counts the parameters that hold a pending value (R11, R203). -/
theorem pendingCount_eq (q : Table (Option Nat) 31) :
    pendingCount q = ((List.range 31).filter fun i => (pendingValue q (i + 1)).isSome).length := by
  have hlist : q.list = (List.range 31).map fun i => pendingValue q (i + 1) := by
    refine List.ext_getElem (by simp [q.len]) fun i h1 h2 => ?_
    simp [pendingValue, Table.get?, h1]
  rw [pendingCount, hlist, List.filter_map, List.length_map]
  rfl

/-! ### The statement -/

/-- Settles O50: each part of each body, field by field, as the rules list it. -/
theorem readRequestsAnswerOnly : Obligations.ReadRequestsAnswerOnly := by
  refine ⟨fun s source hsource hr => ?_, fun s hr => ?_⟩
  · intro o mm status reason estimate motion watch totals
    have hstatus : [s.odo.status.code] = status := rfl
    have hreason : optionalOctets 1 (s.odo.degradedReason.map fun r => [r.code]) = reason := by
      simp only [reason, o]
      cases s.odo.degradedReason with
      | none => rfl
      | some r => cases r <;> rfl
    have hestimate : estimateOctets s = estimate := by
      simp only [estimate, estimateOctets, o]
      cases s.odo.estimate with
      | none => rfl
      | some e => cases s.odo.status <;> rfl
    have hmotion : [s.odo.travel.code, s.odo.motion.code, s.odo.engagement.code, (sourceInUse s).sourceCode] = motion := by
      rw [sourceInUse_of_countsFrom hsource]
      rfl
    have hwatch : s.odo.watch.code :: optionalOctets 4 (s.odo.watch.start.map octets4) = watch := by
      simp only [watch, o]
      cases s.odo.watch <;> rfl
    have hbody : positionStateBody s =
        status ++ reason ++ estimate ++ octets2 o.speed ++ motion ++ watch ++ mm o.reverse ++ totals := by
      rw [← hstatus, ← hreason, ← hestimate, ← hmotion, ← hwatch]
      simp [positionStateBody, o, mm, millimetres, totals]
    rw [← hbody]
    exact congrArg Host.Outcome.next (request_answered hr 0x05 rfl)
  · intro opt set yes signed side health valve band kind settings profile mark governing r b supervision channel demands h
      latch brakes attention dialogue mapping leaf gang doors o outcomes result v radio answers
    have hopt : optionalOctets = opt := by
      funext w x
      cases x <;> rfl
    have hset : ∀ l, halfOctets (BitVec.ofNat 16 (bitsValue l)) = set l := halfOctets_bitsValue
    have hsettings : settingsPart s ++ modesPart s = settings := by
      simp only [settings, settingsPart, modesPart, pendingCount_eq]
      rfl
    have hprofile : profilePart s = profile := by
      have hfailure : failureOctets s.lps.failure = opt 2 (s.lps.failure.map fun f => octets2 f.1) ++
          opt 1 (s.lps.failure.map fun f => [f.2.code]) := by
        cases s.lps.failure <;> rfl
      simp only [profile, profilePart, hfailure, List.append_assoc]
      rfl
    have hsupervision : supervisionPart s = supervision := by
      have hgoverning : governingOctets = governing := by
        funext x
        cases x <;> rfl
      have htarget : targetOctets = fun x =>
          octets4 x.position ++ octets2 x.targetSpeed ++ octets4 x.distance ++ octets4 x.effectiveDistance ++
          signed x.worstGradient ++ octets2 x.gravity ++ [x.kind.code] ++ signed x.effectiveDeceleration ++
          [yes x.floorApplied] := by
        funext x
        simp only [targetOctets, octets2Signed_eq]
        rfl
      simp only [supervision, supervisionPart, supervisionOctets, htarget, BlanketSet.bits, hset, hopt, hgoverning,
        beq_iff_eq, ← List.append_assoc]
      rfl
    have hbrakes : brakesPart s = brakes := by
      have htest : (if s.brc.test.isSome then (2 : Byte) else 1) = if s.brc.test = none then 1 else 2 := by
        cases s.brc.test <;> rfl
      have hchannel : ∀ c, channelOctets c (s.brc.channel c) = channel c (failureWidth c) := by
        intro c
        simp only [channelOctets, channel, hopt]
        rfl
      have hdemands : ((demandList s.brc.demands).map fun x => [x.1] ++ octets2 x.2) = demands := by
        simp only [demandList, List.map_filterMap, Option.map_map]
        rfl
      have hlength : (demandList s.brc.demands).length = demands.length := by rw [← hdemands, List.length_map]
      have hflat : ((demandList s.brc.demands).flatMap fun x => [x.1] ++ octets2 x.2) = demands.flatten := by
        rw [← hdemands, List.flatMap_def]
      have hservice := hchannel .service
      have hholding := hchannel .holding
      have hemergency := hchannel .emergency
      simp only [Brakes.channel] at hservice hholding hemergency
      simp only [brakes, brakesPart, hservice, hholding, hemergency, hlength, hflat, htest, HoldingDemands.bits,
        LatchSet.bits, hset]
      rfl
    have hdoors : doorsBody s = doors := by
      let entry := fun d => mappingOctets (mappingValue s.cmc.params d)
      have hmapping : entry .d1 ++ entry .d2 ++ entry .d3 ++ entry .d4 = mapping := by
        simp only [entry, mappingOctets, yesNoCode, beq_iff_eq]
        rfl
      have hleaf : leafRecordOctets = leaf := by
        funext ⟨_, _, state, _, _, _⟩
        cases state with
        | isolated cause => cases cause <;> rfl
        | _ => rfl
      have hgang : gangOctets = gang := by
        funext x
        simp only [gangOctets, memberBits, hset, hopt]
        rfl
      simp only [doors, doorsBody, ← hmapping, hleaf, hgang, hopt, Drive.all, List.flatMap_cons, List.flatMap_nil,
        List.append_nil, ← List.append_assoc]
      rfl
    have hresult : resultOctets s.brc.result ++
        [s.brc.service.health.code, s.brc.holding.health.code, s.brc.emergency.health.code] = result := by
      have htime : ∀ x : StepOutcome, opt 4 (x.time.map octets4) =
          opt 4 (match x with
            | .pass n => some (octets4 n)
            | .fail n => some (octets4 n)
            | .notRun => none) := by
        intro x
        cases x <;> rfl
      simp only [result, resultOctets, hopt, htime]
      rfl
    have hradio : radioBody s = radio := by
      have hkind : SentKind.kindCode = kind := by
        funext x
        cases x with
        | position => rfl
        | queued k => cases k <;> rfl
      have hqueued : UplinkKind.kindCode = fun k => kind (.queued k) := by
        rw [← hkind]
        rfl
      have hwindow : windowOctets = fun w => match w with
          | .used x q => [1, 1, kind x, q]
          | .missed => [2, 0, 0, 0]
          | .unused => [3, 0, 0, 0] := by
        funext w
        rw [← hkind]
        cases w <;> rfl
      have hsending : flag s.vrl.transmission.isSome = if s.vrl.transmission = none then 0 else 1 := by
        cases s.vrl.transmission <;> rfl
      have hsilence : ∀ rest, (if s.vrl.silenceTimer.isSome then (1 : Byte) else 2) ::
            (octets4 (s.vrl.silenceTimer.getD 0) ++ rest) =
          (match s.vrl.silenceTimer with
            | none => [2, 0, 0, 0, 0]
            | some left => [1] ++ octets4 left) ++ rest := by
        intro rest
        cases s.vrl.silenceTimer <;> rfl
      delta radioBody
      simp only [radio, errorOctets, RadioErrors.bits, hset, hopt, hqueued, hwindow, hsending, hsilence, v,
        octets1, List.append_assoc, List.cons_append, List.nil_append]
      rfl
    have hclosing : closingPart s =
        [yes s.drc.doorHold, yes s.drc.inForce.isSome, dialogue] ++ attention s.hlp.attention ++
        attention s.hlp.mask := by
      simp only [closingPart, AttentionSet.bits, hset]
      rfl
    have hstatus : statusBody s =
        settings ++ profile ++ supervision ++ brakes ++ [yes s.drc.doorHold, yes s.drc.inForce.isSome, dialogue] ++
        attention s.hlp.attention ++ attention s.hlp.mask := by
      simp only [statusBody, hsettings, hprofile, hsupervision, hbrakes, hclosing, List.append_assoc]
    have htest : ∀ x, s.brc.test = some x →
        judgeReadTestResult s = ({ code := .inProgress, body := [BitVec.ofNat 8 x.step.number] ++ result }, s) := by
      intro x hx
      rw [judgeReadTestResult, hx, ← hresult]
      rfl
    have hnone : s.brc.test = none → judgeReadTestResult s = ({ code := .done, body := result }, s) := by
      intro hn
      rw [judgeReadTestResult, hn, ← hresult]
    refine ⟨?_, ?_, fun x hx => ?_, fun hn => ?_, ?_⟩
    · exact congrArg Host.Outcome.next (request_answered hr 0x04 (by rw [← hstatus]))
    · exact congrArg Host.Outcome.next (request_answered hr 0x09 (by rw [← hdoors]))
    · exact congrArg Host.Outcome.next (request_answered hr 0x0B (htest x hx))
    · exact congrArg Host.Outcome.next (request_answered hr 0x0B (hnone hn))
    · exact congrArg Host.Outcome.next (request_answered hr 0x0C (by rw [← hradio]))

end Sys2Proof.Machine
end

section
/-! SUPPORT. One leaf of DRC at a time: what each transition of R153 to R158 makes of its leaf and of its gang membership. -/

namespace Sys2Proof.Machine

/-! ### Access to gangs and members -/

theorem PerDrive_set_get {α : Type} (p : PerDrive α) (d : Drive) : p.set d (p.get d) = p := by
  cases d <;> rfl

@[simp] theorem setGang_gang (side : Side) (g : Option Gang) (s : State) (x : Side) :
    (setGang side g s).drc.gang x = if x = side then g else s.drc.gang x := by
  cases side <;> cases x <;> rfl

@[simp] theorem setGang_drc (side : Side) (g : Option Gang) (s : State) :
    (setGang side g s).drc.leaves = s.drc.leaves ∧ (setGang side g s).drc.inputs = s.drc.inputs := by
  cases side <;> exact ⟨rfl, rfl⟩

/-- From `s` to `t` the leaf of drive `d` becomes `m`, its membership in its side's gang becomes what `join` makes of it, and
every other leaf, the gangs' other members and their indexes, the lines and CMC stay. -/
structure LeafSet (d : Drive) (m : Leaf) (join : Bool → Bool) (s t : State) : Prop where
  cmc : t.cmc = s.cmc
  inputs : t.drc.inputs = s.drc.inputs
  self : t.drc.leaves.get d = some m
  other : ∀ e, e ≠ d → t.drc.leaves.get e = s.drc.leaves.get e
  gang : ∀ side, t.drc.gang side = (s.drc.gang side).map fun g =>
    if side = m.side then { g with members := g.members.set d (join (g.members.get d)) } else g

namespace LeafSet

theorem then_eq {d : Drive} {m : Leaf} {join : Bool → Bool} {s t u : State} (h : LeafSet d m join s t)
    (hc : u.cmc = t.cmc) (hd : u.drc = t.drc) : LeafSet d m join s u :=
  ⟨hc.trans h.cmc, by rw [hd]; exact h.inputs, by rw [hd]; exact h.self, by rw [hd]; exact h.other,
    by rw [hd]; exact h.gang⟩

/-- Two transitions of the same leaf. -/
theorem trans {d : Drive} {m m' : Leaf} {join join' : Bool → Bool} {s t u : State} (h : LeafSet d m join s t)
    (k : LeafSet d m' join' t u) (hside : m'.side = m.side) : LeafSet d m' (fun b => join' (join b)) s u where
  cmc := k.cmc.trans h.cmc
  inputs := k.inputs.trans h.inputs
  self := k.self
  other e he := (k.other e he).trans (h.other e he)
  gang side := by
    rw [k.gang, h.gang, Option.map_map, hside]
    congr 1
    funext g
    simp only [Function.comp]
    by_cases hs : side = m.side
    · simp only [hs, if_true, PerDrive.get_set_self]
      cases d <;> rfl
    · simp only [hs, if_false]

/-- A transition that leaves the membership leaves every gang. -/
theorem gang_kept {d : Drive} {m : Leaf} {s t : State} (h : LeafSet d m id s t) (side : Side) :
    t.drc.gang side = s.drc.gang side := by
  rw [h.gang]
  simp only [id_eq, PerDrive_set_get, ite_self]
  cases s.drc.gang side <;> rfl

end LeafSet

/-- A record put in a drive's place, whose side stays. -/
theorem LeafSet.setLeaf (d : Drive) (m : Leaf) (s : State) : LeafSet d m id s (setLeaf d m s) := by
  refine ⟨rfl, rfl, by simp, fun e he => by simp [he], fun side => ?_⟩
  simp only [id_eq, PerDrive_set_get, ite_self]
  change s.drc.gang side = _
  cases s.drc.gang side <;> rfl

/-- A leaf that takes a new state (R143, R159). -/
theorem LeafSet.enterState {d : Drive} {l : Leaf} {s : State} (h : s.drc.leaves.get d = some l) (x : LeafState) (k : Nat)
    (timer : Timer) :
    LeafSet d
      { l with state := x, profile := k, timer := timer, lockLost := if x = .locked then l.lockLost else false } id s
      (enterState d x k timer s) := by
  unfold Machine.enterState
  rw [h]
  have hset := LeafSet.setLeaf d
    { l with state := x, profile := k, timer := timer, lockLost := if x = .locked then l.lockLost else false } s
  exact ⟨hset.cmc, hset.inputs, hset.self, hset.other, hset.gang⟩

/-- A leaf that joins or leaves its gang (R156). -/
theorem LeafSet.setMember {d : Drive} {l : Leaf} {s : State} (h : s.drc.leaves.get d = some l) (b : Bool) :
    LeafSet d l (fun _ => b) s (setMember l.side d b s) := by
  refine ⟨by simp, by simp [Machine.setMember], by simp [Machine.setMember, h], fun e _ => by simp [Machine.setMember],
    fun side => ?_⟩
  rw [Machine.setMember, setGang_gang]
  by_cases hs : side = l.side
  · simp [hs]
  · simp [hs]

/-! ### The transitions -/

/-- Whether a leaf whose close start ends in this state is a gang member: not when ISOLATED, always when LOCKED, and as
before otherwise (R156). -/
def rejoins (x : LeafState) (member : Bool) : Bool :=
  match x with
  | .isolated _ => false
  | .locked => true
  | _ => member

/-- A leaf goes ISOLATED and leaves its gang (R157). -/
theorem LeafSet.isolateLeaf {d : Drive} {l : Leaf} {s : State} (h : s.drc.leaves.get d = some l) (c : IsolationCause) :
    LeafSet d (isolatedBy c l) (fun _ => false) s (isolateLeaf d c s) := by
  unfold Machine.isolateLeaf
  rw [h]
  have hstate := LeafSet.enterState h (.isolated c) l.profile none
  have hleft := hstate.trans (LeafSet.setMember hstate.self false) rfl
  refine LeafSet.then_eq (t := Machine.setMember l.side d false (Machine.enterState d (.isolated c) l.profile none s)) ?_
    (by simp) (by simp)
  exact hleft

/-- A leaf goes LOCKED with profile index 1 and rejoins its gang (R153, R156). -/
theorem LeafSet.enterLocked {d : Drive} {l : Leaf} {s : State} (h : s.drc.leaves.get d = some l) :
    LeafSet d { l with state := .locked, profile := 1, timer := none } (fun _ => true) s (enterLocked d s) := by
  unfold Machine.enterLocked
  rw [h]
  have hstate := LeafSet.enterState h .locked 1 none
  exact hstate.trans (LeafSet.setMember hstate.self true) rfl

/-- What entering LOCKING makes of a leaf: LOCKED at once where its lock switch confirms (R153). -/
def lockingAt (s : State) (d : Drive) (l : Leaf) : Leaf :=
  if (s.drc.inputs.get d).lockSw then { l with state := .locked, profile := 1, timer := none, lockLost := false }
  else { l with state := .locking, timer := some (paramValue s.cmc.params 27), lockLost := false }

theorem LeafSet.enterLocking {d : Drive} {l : Leaf} {s : State} (h : s.drc.leaves.get d = some l) :
    LeafSet d (lockingAt s d l) (rejoins (lockingAt s d l).state) s (enterLocking d s) := by
  unfold Machine.enterLocking lockingAt
  rw [h]
  have hstate := LeafSet.enterState h .locking l.profile (some (lockTimeout s.cmc.params))
  dsimp only
  split
  · exact hstate.trans (LeafSet.enterLocked hstate.self) rfl
  · exact hstate

/-- Phase DRIVE of REVERSING ends (R154). -/
theorem LeafSet.endDrive_reversing {d : Drive} {l : Leaf} {s : State} (h : s.drc.leaves.get d = some l)
    (hl : l.state = .reversing .drive) :
    LeafSet d { l with state := .reversing .dwell, timer := some (paramValue s.cmc.params 29) } id s (endDrive d s) := by
  unfold Machine.endDrive
  rw [h]
  dsimp only
  rw [hl]
  exact LeafSet.setLeaf d _ s

/-- Phase DRIVE of HELD ends (R155). -/
theorem LeafSet.endDrive_held {d : Drive} {l : Leaf} {s : State} (h : s.drc.leaves.get d = some l)
    (hl : l.state = .held .drive) :
    LeafSet d
      { l with
        state := .held .dwell,
        timer := if paramValue s.cmc.params 31 = 0 then none else some (paramValue s.cmc.params 31 * 1000) } id s
      (endDrive d s) := by
  unfold Machine.endDrive
  rw [h]
  dsimp only
  rw [hl]
  exact LeafSet.setLeaf d _ s

theorem LeafSet.enterReversing {d : Drive} {l : Leaf} {s : State} (h : s.drc.leaves.get d = some l) (k : Nat) :
    LeafSet d (reversedAt s d k l) id s (enterReversing d k s) := by
  unfold Machine.enterReversing reversedAt
  have hstate := LeafSet.enterState h (.reversing .drive) k (some (reverseTime s.cmc.params))
  dsimp only
  split
  · have hdwell := hstate.trans (LeafSet.endDrive_reversing hstate.self rfl) rfl
    rw [hstate.cmc] at hdwell
    exact hdwell
  · exact hstate

theorem LeafSet.enterHeld {d : Drive} {l : Leaf} {s : State} (h : s.drc.leaves.get d = some l) :
    LeafSet d (heldAt s d l) id s (enterHeld d s) := by
  unfold Machine.enterHeld heldAt
  rw [h]
  have hstate := LeafSet.enterState h (.held .drive) l.profile (some (reverseTime s.cmc.params))
  have hraised := hstate.then_eq (u := raise .door (Machine.enterState d (.held .drive) l.profile
    (some (reverseTime s.cmc.params)) s)) rfl rfl
  dsimp only
  split
  · have hdwell := hraised.trans (LeafSet.endDrive_held hraised.self rfl) rfl
    rw [hraised.cmc] at hdwell
    exact hdwell
  · exact hraised

end Sys2Proof.Machine
end

section
/-! SUPPORT. A close start of several leaves together (R152 to R156): what each leaf and each gang is when the leaves of the
drives below a number have found what stands on their lines, and hence at the end. -/

namespace Sys2Proof.Machine

/-! ### Leaves that change one after the other -/

/-- From `s` to `t` the leaves of the drives in `ds` became what `f` makes of them, and the other leaves, the gangs, the
lines and CMC stayed. -/
structure LeavesSet (f : Drive → Leaf → Leaf) (ds : List Drive) (s t : State) : Prop where
  cmc : t.cmc = s.cmc
  inputs : t.drc.inputs = s.drc.inputs
  leaf : ∀ d, t.drc.leaves.get d = if d ∈ ds then (s.drc.leaves.get d).map (f d) else s.drc.leaves.get d
  gang : ∀ side, t.drc.gang side = s.drc.gang side

/-- A transition taken by each drive of a list in turn, where it looks at CMC and the lines only. -/
theorem LeavesSet.foldl {f : Drive → Leaf → Leaf} {step : Drive → State → State} {s : State}
    (hstep : ∀ t d l, t.cmc = s.cmc → t.drc.inputs = s.drc.inputs → t.drc.leaves.get d = some l →
      LeafSet d (f d l) id t (step d t)) :
    ∀ (ds : List Drive) (t : State), ds.Nodup → (∀ d ∈ ds, (t.drc.leaves.get d).isSome) →
      t.cmc = s.cmc → t.drc.inputs = s.drc.inputs → LeavesSet f ds t (ds.foldl (fun u d => step d u) t)
  | [], t, _, _, _, _ => ⟨rfl, rfl, fun _ => by simp, fun _ => rfl⟩
  | e :: ds, t, hnodup, hleaf, hc, hi => by
    obtain ⟨hnot, hrest⟩ := List.nodup_cons.1 hnodup
    obtain ⟨l, hl⟩ := Option.isSome_iff_exists.1 (hleaf e (by simp))
    have hset := hstep t e l hc hi hl
    have hother : ∀ d ∈ ds, (step e t).drc.leaves.get d = t.drc.leaves.get d :=
      fun d hd => hset.other d fun h => hnot (h ▸ hd)
    have ih := LeavesSet.foldl hstep ds (step e t) hrest
      (fun d hd => by rw [hother d hd]; exact hleaf d (by simp [hd])) (hset.cmc.trans hc) (hset.inputs.trans hi)
    refine ⟨ih.cmc.trans hset.cmc, ih.inputs.trans hset.inputs, fun d => (ih.leaf d).trans ?_,
      fun side => (ih.gang side).trans (hset.gang_kept side)⟩
    by_cases he : d = e
    · subst he
      simp [hnot, hset.self, hl]
    · simp [he, hset.other d he]

theorem drivesWhere_nodup (s : State) (p : Drive → Leaf → Bool) : (drivesWhere s p).Nodup :=
  List.Nodup.filter _ (by decide)

theorem mem_drivesWhere {s : State} {p : Drive → Leaf → Bool} {d : Drive} :
    d ∈ drivesWhere s p ↔ (s.drc.leaves.get d).any (p d) = true := by
  have hall : d ∈ Drive.all := by cases d <;> decide
  simp [drivesWhere, hall]

/-- A transition taken by each leaf of which a condition holds. -/
theorem LeavesSet.drivesWhere {f : Drive → Leaf → Leaf} {step : Drive → State → State} {s : State}
    (hstep : ∀ t d l, t.cmc = s.cmc → t.drc.inputs = s.drc.inputs → t.drc.leaves.get d = some l →
      LeafSet d (f d l) id t (step d t)) (p : Drive → Leaf → Bool) :
    LeavesSet f (drivesWhere s p) s ((drivesWhere s p).foldl (fun u d => step d u) s) :=
  LeavesSet.foldl hstep _ s (drivesWhere_nodup s p)
    (fun d hd => by
      have hany := mem_drivesWhere.1 hd
      cases h : s.drc.leaves.get d with
      | none => simp [h] at hany
      | some l => rfl) rfl rfl

/-! ### What the drives below a number have made of leaves and gangs -/

/-- The leaf of a drive starts on a side as a gang member with an obstruction line that it will find (R154, R156). -/
def obstructedStart (s : State) (side : Side) (starts : Drive → Leaf → Bool) (d : Drive) : Bool :=
  let i := s.drc.inputs.get d
  ((s.drc.leaves.get d).any fun l => l.side == side && starts d l) && gangMember s side d && !i.ovc && !i.closedSw &&
  (i.edge || i.force)

/-- The first obstructed start of a side below a drive number. -/
def firstBelow (n : Nat) (s : State) (side : Side) (starts : Drive → Leaf → Bool) : Option Drive :=
  Drive.all.find? fun d => decide (driveNumber d < n) && obstructedStart s side starts d

/-- A leaf of the start with no member of its gang obstructed, when the drives below a number have found their lines. -/
def aloneBelow (n : Nat) (s : State) (k : Nat) (starts : Drive → Leaf → Bool) (d : Drive) (l : Leaf) : Leaf :=
  if starts d l then if driveNumber d < n then closedAlone s d k l else closingAt s k l else l

/-- What the first obstructed member makes of a member of its gang, by the gang index (R154, R156). -/
def carriedAlong (s : State) (i : Nat) (d : Drive) (m : Leaf) : Leaf :=
  if m.state = .closing ∨ m.state = .locking then
    if i = 3 then heldAt s d m else reversedAt s d (profileAfter s i) m
  else m

/-- A leaf when the drives below a number have found their lines. -/
def leafBelow (n : Nat) (s : State) (k : Nat) (starts : Drive → Leaf → Bool) (d : Drive) (l : Leaf) : Leaf :=
  match firstBelow n s l.side starts, s.drc.gang l.side with
  | some x, some g =>
    if g.members.get d then carriedAlong s g.index d (aloneBelow (driveNumber x) s k starts d l)
    else aloneBelow n s k starts d l
  | _, _ => aloneBelow n s k starts d l

/-- A drive's gang membership when the drives below a number have found their lines. -/
def memberBelow (n : Nat) (s : State) (k : Nat) (starts : Drive → Leaf → Bool) (side : Side) (g : Gang) (d : Drive) : Bool :=
  match s.drc.leaves.get d with
  | some l =>
    if l.side = side ∧ starts d l = true then rejoins (leafBelow n s k starts d l).state (g.members.get d)
    else g.members.get d
  | none => g.members.get d

/-- The gang of a side when the drives below a number have found their lines. -/
def gangBelow (n : Nat) (s : State) (k : Nat) (starts : Drive → Leaf → Bool) (side : Side) (g : Gang) : Gang :=
  { index := if (firstBelow n s side starts).isSome && g.index != 3 then profileAfter s g.index else g.index,
    members := PerDrive.of (memberBelow n s k starts side g) }

/-- All that a close start moves, when the drives below a number have found their lines. -/
structure ClosedBelow (n : Nat) (s : State) (k : Nat) (starts : Drive → Leaf → Bool) (t : State) : Prop where
  cmc : t.cmc = s.cmc
  inputs : t.drc.inputs = s.drc.inputs
  leaf : ∀ d, t.drc.leaves.get d = (s.drc.leaves.get d).map (leafBelow n s k starts d)
  gang : ∀ side, t.drc.gang side = (s.drc.gang side).map (gangBelow n s k starts side)

section
variable (s : State) (k : Nat) (starts : Drive → Leaf → Bool)

theorem firstBelow_one (side : Side) : firstBelow 1 s side starts = none := by
  simp [firstBelow, driveNumber, Drive.all]

theorem firstBelow_five (side : Side) : firstBelow 5 s side starts = firstObstructed s side starts := by
  unfold firstBelow firstObstructed
  congr 1
  funext d
  cases d <;> rfl

/-- The drive with the number comes next: it is the first obstructed when none below it was. -/
theorem firstBelow_next (side : Side) (y : Drive) :
    firstBelow (driveNumber y + 1) s side starts =
      (firstBelow (driveNumber y) s side starts).or (if obstructedStart s side starts y then some y else none) := by
  unfold firstBelow
  generalize obstructedStart s side starts = p
  cases y <;> cases h1 : p .d1 <;> cases h2 : p .d2 <;> cases h3 : p .d3 <;> cases h4 : p .d4 <;>
    simp [Drive.all, driveNumber, List.find?, h1, h2, h3, h4]

theorem firstBelow_next_of_clear {side : Side} {y : Drive} (h : obstructedStart s side starts y = false) :
    firstBelow (driveNumber y + 1) s side starts = firstBelow (driveNumber y) s side starts := by
  simp [firstBelow_next, h]

/-- The drive whose turn it is changes its own leaf alone, where nothing is carried along. -/
theorem aloneBelow_next {y d : Drive} (h : d ≠ y) (l : Leaf) :
    aloneBelow (driveNumber y + 1) s k starts d l = aloneBelow (driveNumber y) s k starts d l := by
  have hiff : driveNumber d < driveNumber y + 1 ↔ driveNumber d < driveNumber y := by
    cases y <;> cases d <;> simp [driveNumber] at h ⊢
  simp only [aloneBelow, hiff]

end

/-! ### What one leaf finds on its lines -/

theorem LeafSet.rejoined {d : Drive} {m : Leaf} {s t : State} (h : LeafSet d m id s t) (hm : rejoins m.state = id) :
    LeafSet d m (rejoins m.state) s t := hm ▸ h

theorem LeafSet.kept {d : Drive} {m : Leaf} {s : State} (h : s.drc.leaves.get d = some m) : LeafSet d m id s s :=
  ⟨rfl, rfl, h, fun _ _ => rfl, fun side => by
    simp only [id_eq, PerDrive_set_get, ite_self]
    cases s.drc.gang side <;> rfl⟩

theorem nextProfile_eq (s : State) (k : Nat) : nextProfile (shortSequence s.cmc.params) k = profileAfter s k := by
  simp [nextProfile, profileAfter, shortSequence, lastProfile]

theorem lockingAt_closingAt (s : State) (d : Drive) (k : Nat) (l : Leaf) :
    lockingAt s d (closingAt s k l) =
      if (s.drc.inputs.get d).lockSw then { l with state := .locked, profile := 1, timer := none, lockLost := false }
      else { l with state := .locking, profile := k, timer := some (paramValue s.cmc.params 27), lockLost := false } := rfl

theorem heldAt_rejoins (s : State) (d : Drive) (l : Leaf) : rejoins (heldAt s d l).state = id := by
  unfold heldAt
  split <;> rfl

theorem reversedAt_rejoins (s : State) (d : Drive) (k : Nat) (l : Leaf) : rejoins (reversedAt s d k l).state = id := by
  unfold reversedAt
  split <;> rfl

/-- A leaf in CLOSING that no obstruction reaches as a gang member becomes what it would become alone (R153, R154,
R158). -/
theorem LeafSet.closingEntry {d : Drive} {l : Leaf} {k : Nat} {s : State}
    (h : s.drc.leaves.get d = some (closingAt s k l))
    (hclear : gangMember s l.side d = true → (s.drc.inputs.get d).ovc = false → (s.drc.inputs.get d).closedSw = false →
      ((s.drc.inputs.get d).edge || (s.drc.inputs.get d).force) = false) :
    LeafSet d (closedAlone s d k l) (rejoins (closedAlone s d k l).state) s (closingEntry d s) := by
  unfold Machine.closingEntry closedAlone
  rw [h]
  dsimp only
  rw [if_pos (show (closingAt s k l).state = .closing from rfl)]
  by_cases hovc : (s.drc.inputs.get d).ovc = true
  · simp only [hovc, if_true]
    exact LeafSet.isolateLeaf h .overcurrent
  by_cases hclosed : (s.drc.inputs.get d).closedSw = true
  · simp only [hovc, hclosed, if_true, ← lockingAt_closingAt]
    exact LeafSet.enterLocking h
  by_cases hobst : ((s.drc.inputs.get d).edge || (s.drc.inputs.get d).force) = true
  · have hfree : gangMember s l.side d ≠ true := fun hm => by
      rw [hclear hm (by simpa using hovc) (by simpa using hclosed)] at hobst
      exact absurd hobst (by decide)
    simp only [hovc, hclosed, hobst, if_true]
    unfold Machine.obstruct
    rw [h]
    dsimp only
    rw [if_neg (show ¬ gangMember s (closingAt s k l).side d = true from hfree)]
    by_cases hk : k = 3
    · rw [if_pos (show (closingAt s k l).profile = lastProfile from hk), if_pos hk]
      subst hk
      exact (LeafSet.enterHeld h).rejoined (heldAt_rejoins _ _ _)
    · rw [if_neg (show ¬ (closingAt s k l).profile = lastProfile from hk), if_neg hk, nextProfile_eq]
      exact (LeafSet.enterReversing h _).rejoined (reversedAt_rejoins _ _ _ _)
  · simp only [hovc, hclosed, hobst]
    exact LeafSet.rejoined (LeafSet.kept h) rfl

/-- A leaf that is no longer in CLOSING finds nothing. -/
theorem closingEntry_of_left {d : Drive} {l : Leaf} {s : State} (h : s.drc.leaves.get d = some l)
    (hl : l.state ≠ .closing) : closingEntry d s = s := by
  simp only [closingEntry, h, if_neg hl]

/-! ### What an obstructed gang member does to its gang -/

theorem heldAt_congr {s t : State} (hc : t.cmc = s.cmc) (hi : t.drc.inputs = s.drc.inputs) (d : Drive) (l : Leaf) :
    heldAt t d l = heldAt s d l := by
  simp only [heldAt, hc, hi]

theorem reversedAt_congr {s t : State} (hc : t.cmc = s.cmc) (hi : t.drc.inputs = s.drc.inputs) (d : Drive) (k : Nat)
    (l : Leaf) : reversedAt t d k l = reversedAt s d k l := by
  simp only [reversedAt, hc, hi]

theorem profileAfter_congr {s t : State} (hc : t.cmc = s.cmc) (k : Nat) : profileAfter t k = profileAfter s k := by
  simp only [profileAfter, hc]

theorem carriedAlong_congr {s t : State} (hc : t.cmc = s.cmc) (hi : t.drc.inputs = s.drc.inputs) (i : Nat) (d : Drive)
    (m : Leaf) : carriedAlong t i d m = carriedAlong s i d m := by
  simp only [carriedAlong, heldAt_congr hc hi, reversedAt_congr hc hi, profileAfter_congr hc]

theorem closedAlone_congr {s t : State} (hc : t.cmc = s.cmc) (hi : t.drc.inputs = s.drc.inputs) (d : Drive) (k : Nat)
    (l : Leaf) : closedAlone t d k l = closedAlone s d k l := by
  simp only [closedAlone, closingAt, hc, hi, heldAt_congr hc hi, reversedAt_congr hc hi, profileAfter_congr hc]

theorem setGangIndex_leaves (side : Side) (k : Nat) (s : State) :
    (setGangIndex side k s).cmc = s.cmc ∧ (setGangIndex side k s).drc.inputs = s.drc.inputs ∧
    (setGangIndex side k s).drc.leaves = s.drc.leaves := by
  cases side <;> exact ⟨rfl, rfl, rfl⟩

/-- What an obstruction of a gang member makes of leaves and gangs (R156): the members of its gang in CLOSING and LOCKING
are carried along, and the gang index moves on unless it is the last. -/
structure GangObstructed (side : Side) (i : Nat) (s t : State) : Prop where
  cmc : t.cmc = s.cmc
  inputs : t.drc.inputs = s.drc.inputs
  leaf : ∀ d, t.drc.leaves.get d = (s.drc.leaves.get d).map fun m =>
    if m.side = side ∧ gangMember s side d = true then carriedAlong s i d m else m
  gang : ∀ x, t.drc.gang x = (s.drc.gang x).map fun g =>
    if x = side ∧ i ≠ 3 then { g with index := profileAfter s i } else g

/-- A transition taken by the gang members in CLOSING and LOCKING in turn. -/
theorem LeavesSet.closingMembers {f : Drive → Leaf → Leaf} {step : Drive → State → State} {s : State}
    (hstep : ∀ t d l, t.cmc = s.cmc → t.drc.inputs = s.drc.inputs → t.drc.leaves.get d = some l →
      LeafSet d (f d l) id t (step d t)) (side : Side) :
    LeavesSet f (Machine.closingMembers s side) s ((Machine.closingMembers s side).foldl (fun u d => step d u) s) :=
  LeavesSet.drivesWhere hstep _

/-- The members in CLOSING and LOCKING, changed one after the other, are the members carried along. -/
theorem LeavesSet.leaf_of_closingMembers {s t : State} {side : Side} {i : Nat} {f : Drive → Leaf → Leaf}
    (h : LeavesSet f (Machine.closingMembers s side) s t)
    (hf : ∀ d m, m.state = .closing ∨ m.state = .locking → carriedAlong s i d m = f d m) (d : Drive) :
    t.drc.leaves.get d = (s.drc.leaves.get d).map fun m =>
      if m.side = side ∧ gangMember s side d = true then carriedAlong s i d m else m := by
  rw [h.leaf, Machine.closingMembers]
  cases hleaf : s.drc.leaves.get d with
  | none => simp
  | some m =>
    rw [Option.map_some, Option.map_some]
    simp only [mem_drivesWhere, hleaf, Option.any_some, Bool.and_eq_true, Bool.or_eq_true, beq_iff_eq]
    by_cases hstate : m.state = .closing ∨ m.state = .locking
    · simp only [hstate, and_true, hf d m hstate]
      split <;> rfl
    · simp [hstate, carriedAlong]

theorem obstruct_member {d : Drive} {l : Leaf} {g : Gang} {s : State} (hl : s.drc.leaves.get d = some l)
    (hg : s.drc.gang l.side = some g) (hm : g.members.get d = true) :
    GangObstructed l.side g.index s (obstruct d s) := by
  have hmember : gangMember s l.side d = true := by simp [gangMember, hg, hm]
  unfold obstruct
  rw [hl]
  dsimp only
  rw [if_pos hmember, hg]
  dsimp only
  by_cases hlast : g.index = 3
  · rw [if_pos (show g.index = lastProfile from hlast)]
    have hset := LeavesSet.closingMembers (s := s) (f := heldAt s) (step := enterHeld)
      (fun t e m hc hi hleaf => heldAt_congr hc hi e m ▸ LeafSet.enterHeld hleaf) l.side
    refine ⟨hset.cmc, hset.inputs, LeavesSet.leaf_of_closingMembers hset fun e m hstate => ?_, fun x => ?_⟩
    · simp [carriedAlong, hstate, hlast]
    · refine (hset.gang x).trans ?_
      simp [hlast]
  · rw [if_neg (show ¬ g.index = lastProfile from hlast), nextProfile_eq]
    have hset := LeavesSet.closingMembers (s := s) (f := fun e => reversedAt s e (profileAfter s g.index))
      (step := fun e => enterReversing e (profileAfter s g.index))
      (fun t e m hc hi hleaf => reversedAt_congr hc hi e _ m ▸ LeafSet.enterReversing hleaf _) l.side
    refine ⟨(setGangIndex_leaves _ _ _).1.trans hset.cmc, (setGangIndex_leaves _ _ _).2.1.trans hset.inputs,
      fun e => ?_, fun x => ?_⟩
    · have hleaf := LeavesSet.leaf_of_closingMembers hset (i := g.index)
        (fun e m hstate => by simp [carriedAlong, hstate, hlast]) e
      rw [(setGangIndex_leaves _ _ _).2.2, hleaf]
    · rw [setGangIndex, setGang_gang, hset.gang, hset.gang]
      by_cases hx : x = l.side
      · simp [hx, hlast]
      · simp [hx]

end Sys2Proof.Machine
end

section
/-! SUPPORT. The close start of several leaves, one drive's turn after the other, and its result: `closedTogether` and
`gangClosed` (R152 to R156). -/

namespace Sys2Proof.Machine

section
variable {s t : State} {k : Nat} {starts : Drive → Leaf → Bool} {y : Drive} {l : Leaf}

/-! ### The turn of one drive, for the other drives -/

theorem obstructedStart_of_not_starts (h : (s.drc.leaves.get y).any (starts y) = false) (side : Side) :
    obstructedStart s side starts y = false := by
  cases hy : s.drc.leaves.get y with
  | none => simp [obstructedStart, hy]
  | some l => simp_all [obstructedStart]

theorem obstructedStart_of_side (hl : s.drc.leaves.get y = some l) {side : Side} (h : side ≠ l.side) :
    obstructedStart s side starts y = false := by
  simp [obstructedStart, hl, Ne.symm h]

/-- A leaf, where its side's first obstructed member stays the same and it is not that leaf's turn. -/
theorem leafBelow_next {d : Drive} (hd : d ≠ y)
    (h : firstBelow (driveNumber y + 1) s l.side starts = firstBelow (driveNumber y) s l.side starts) :
    leafBelow (driveNumber y + 1) s k starts d l = leafBelow (driveNumber y) s k starts d l := by
  simp only [leafBelow, h, aloneBelow_next s k starts hd]

/-- A gang, where its side's first obstructed member stays the same and its leaves stay as they are to it. -/
theorem gangBelow_next {side : Side} {n n' : Nat} (g : Gang)
    (h : firstBelow n' s side starts = firstBelow n s side starts)
    (hleaf : ∀ d m, s.drc.leaves.get d = some m → m.side = side → starts d m = true →
      rejoins (leafBelow n' s k starts d m).state = rejoins (leafBelow n s k starts d m).state) :
    gangBelow n' s k starts side g = gangBelow n s k starts side g := by
  unfold gangBelow
  rw [h]
  congr 1
  congr 1
  funext d
  unfold memberBelow
  cases hd : s.drc.leaves.get d with
  | none => rfl
  | some m =>
    dsimp only
    split
    next hm => rw [hleaf d m hd hm.1 hm.2]
    · rfl

/-- A turn at which nothing changes. -/
theorem ClosedBelow.next_of_unchanged (h : ClosedBelow (driveNumber y) s k starts t)
    (hfirst : ∀ side, firstBelow (driveNumber y + 1) s side starts = firstBelow (driveNumber y) s side starts)
    (hy : ∀ l, s.drc.leaves.get y = some l →
      leafBelow (driveNumber y + 1) s k starts y l = leafBelow (driveNumber y) s k starts y l) :
    ClosedBelow (driveNumber y + 1) s k starts t := by
  have hleaf : ∀ d m, s.drc.leaves.get d = some m →
      leafBelow (driveNumber y + 1) s k starts d m = leafBelow (driveNumber y) s k starts d m := fun d m hm => by
    by_cases hd : d = y
    · subst hd; exact hy m hm
    · exact leafBelow_next hd (hfirst _)
  refine ⟨h.cmc, h.inputs, fun d => ?_, fun side => ?_⟩
  · rw [h.leaf]
    cases hd : s.drc.leaves.get d with
    | none => rfl
    | some m => rw [Option.map_some, Option.map_some, hleaf d m hd]
  · rw [h.gang]
    congr 1
    funext g
    exact (gangBelow_next g (hfirst side) fun d m hm _ _ => by rw [hleaf d m hm]).symm

/-! ### The turn of one drive, for its own leaf -/

theorem carriedAlong_left (s : State) (i : Nat) (d : Drive) (m : Leaf) : (carriedAlong s i d m).state ≠ .closing := by
  unfold carriedAlong
  split
  · split
    · unfold heldAt; split <;> exact LeafState.noConfusion
    · unfold reversedAt; split <;> exact LeafState.noConfusion
  next h => exact fun hc => h (.inl hc)

/-- An obstruction of a member of its gang below a drive number has carried the leaf along. -/
def CarriedBelow (n : Nat) (s : State) (starts : Drive → Leaf → Bool) (d : Drive) (l : Leaf) : Prop :=
  (firstBelow n s l.side starts).isSome = true ∧ gangMember s l.side d = true

theorem leafBelow_of_not_carried {n : Nat} (h : ¬ CarriedBelow n s starts y l) :
    leafBelow n s k starts y l = aloneBelow n s k starts y l := by
  unfold leafBelow
  split
  next x g hx hg =>
    have hm : ¬ g.members.get y = true := fun hm => h ⟨by rw [hx]; rfl, by rw [gangMember, hg]; exact hm⟩
    rw [if_neg hm]
  · rfl

theorem leafBelow_of_carried {g : Gang} {x : Drive} {n : Nat} (hx : firstBelow n s l.side starts = some x)
    (hg : s.drc.gang l.side = some g) (hm : g.members.get y = true) :
    leafBelow n s k starts y l = carriedAlong s g.index y (aloneBelow (driveNumber x) s k starts y l) := by
  simp only [leafBelow, hx, hg, hm, if_true]

theorem aloneBelow_turn (hs : starts y l = true) :
    aloneBelow (driveNumber y) s k starts y l = closingAt s k l := by
  simp [aloneBelow, hs]

theorem aloneBelow_after (hs : starts y l = true) :
    aloneBelow (driveNumber y + 1) s k starts y l = closedAlone s y k l := by
  simp [aloneBelow, hs]

theorem gangMember_iff {side : Side} {d : Drive} :
    gangMember s side d = true ↔ ∃ g, s.drc.gang side = some g ∧ g.members.get d = true := by
  cases h : s.drc.gang side <;> simp [gangMember, h]

/-- A leaf that has been carried along finds nothing at its turn. -/
theorem ClosedBelow.turn_carried (h : ClosedBelow (driveNumber y) s k starts t) (hl : s.drc.leaves.get y = some l)
    (hcarried : CarriedBelow (driveNumber y) s starts y l) :
    ClosedBelow (driveNumber y + 1) s k starts (closingEntry y t) := by
  obtain ⟨hfirst, hmember⟩ := hcarried
  obtain ⟨x, hx⟩ := Option.isSome_iff_exists.1 hfirst
  obtain ⟨g, hg, hm⟩ := gangMember_iff.1 hmember
  have hleft : closingEntry y t = t :=
    closingEntry_of_left ((h.leaf y).trans (by rw [hl]; rfl))
      (by rw [leafBelow_of_carried hx hg hm]; exact carriedAlong_left _ _ _ _)
  have hnext : ∀ side, firstBelow (driveNumber y + 1) s side starts = firstBelow (driveNumber y) s side starts := by
    intro side
    by_cases hside : side = l.side
    · subst hside
      rw [firstBelow_next, hx]
      rfl
    · exact firstBelow_next_of_clear s starts (obstructedStart_of_side hl hside)
  rw [hleft]
  refine h.next_of_unchanged hnext fun m hm' => ?_
  obtain rfl : l = m := Option.some.inj (hl.symm.trans hm')
  rw [leafBelow_of_carried ((hnext _).trans hx) hg hm, leafBelow_of_carried hx hg hm]

theorem heldAt_side (s : State) (d : Drive) (m : Leaf) : (heldAt s d m).side = m.side := by
  unfold heldAt
  split <;> rfl

theorem reversedAt_side (s : State) (d : Drive) (i : Nat) (m : Leaf) : (reversedAt s d i m).side = m.side := by
  unfold reversedAt
  split <;> rfl

theorem closedAlone_side (s : State) (d : Drive) (k : Nat) (l : Leaf) : (closedAlone s d k l).side = l.side := by
  unfold closedAlone
  dsimp only
  split
  · rfl
  split
  · split <;> rfl
  split
  · split
    · exact heldAt_side _ _ _
    · exact reversedAt_side _ _ _ _
  · rfl

/-- A leaf in CLOSING whose turn it is. -/
theorem ClosedBelow.waiting (h : ClosedBelow (driveNumber y) s k starts t) (hl : s.drc.leaves.get y = some l)
    (hs : starts y l = true) (hfree : ¬ CarriedBelow (driveNumber y) s starts y l) :
    t.drc.leaves.get y = some (closingAt s k l) := by
  rw [h.leaf, hl, Option.map_some, leafBelow_of_not_carried hfree, aloneBelow_turn hs]

/-- Membership of a leaf that is in CLOSING, LOCKING or as it was. -/
theorem memberBelow_of_rejoins {n : Nat} {side : Side} {g : Gang} (hl : s.drc.leaves.get y = some l)
    (hj : rejoins (leafBelow n s k starts y l).state = id) :
    memberBelow n s k starts side g y = g.members.get y := by
  simp [memberBelow, hl, hj]

theorem ClosedBelow.gangMember_eq {n : Nat} (h : ClosedBelow n s k starts t) (hl : s.drc.leaves.get y = some l)
    (hj : rejoins (leafBelow n s k starts y l).state = id) (side : Side) :
    gangMember t side y = gangMember s side y := by
  rw [gangMember, gangMember, h.gang]
  cases s.drc.gang side with
  | none => rfl
  | some g => simp [gangBelow, memberBelow_of_rejoins hl hj]

theorem memberBelow_next {d : Drive} (hd : d ≠ y) {side : Side} (g : Gang)
    (h : firstBelow (driveNumber y + 1) s side starts = firstBelow (driveNumber y) s side starts) :
    memberBelow (driveNumber y + 1) s k starts side g d = memberBelow (driveNumber y) s k starts side g d := by
  unfold memberBelow
  cases hm : s.drc.leaves.get d with
  | none => rfl
  | some m =>
    dsimp only
    split
    next hside =>
      obtain ⟨rfl, -⟩ := hside
      rw [leafBelow_next hd h]
    · rfl

/-- A gang after a turn that moves its drive's leaf alone. -/
theorem gangBelow_turn (hl : s.drc.leaves.get y = some l) (hs : starts y l = true) {side : Side} (g : Gang)
    (h : firstBelow (driveNumber y + 1) s side starts = firstBelow (driveNumber y) s side starts) :
    gangBelow (driveNumber y + 1) s k starts side g =
      if side = l.side then
        { gangBelow (driveNumber y) s k starts side g with
          members := (gangBelow (driveNumber y) s k starts side g).members.set y
            (rejoins (leafBelow (driveNumber y + 1) s k starts y l).state (g.members.get y)) }
      else gangBelow (driveNumber y) s k starts side g := by
  have hself : memberBelow (driveNumber y + 1) s k starts side g y =
      if side = l.side then rejoins (leafBelow (driveNumber y + 1) s k starts y l).state (g.members.get y)
      else memberBelow (driveNumber y) s k starts side g y := by
    simp only [memberBelow, hl, hs, and_true, eq_comm (a := side)]
    split <;> rfl
  split
  next hside =>
    rw [if_pos hside] at hself
    simp only [gangBelow, h, Gang.mk.injEq, true_and]
    refine perDrive_ext fun d => ?_
    by_cases hd : d = y
    · subst hd
      simp [hself]
    · simp [hd, memberBelow_next hd g h]
  next hside =>
    rw [if_neg hside] at hself
    simp only [gangBelow, h, Gang.mk.injEq, true_and]
    refine perDrive_ext fun d => ?_
    by_cases hd : d = y
    · subst hd
      simp [hself]
    · simp [memberBelow_next hd g h]

/-- A leaf that no obstruction reaches at its turn. -/
theorem ClosedBelow.turn_alone (h : ClosedBelow (driveNumber y) s k starts t) (hl : s.drc.leaves.get y = some l)
    (hs : starts y l = true) (hfree : ¬ CarriedBelow (driveNumber y) s starts y l)
    (hclear : obstructedStart s l.side starts y = false) :
    ClosedBelow (driveNumber y + 1) s k starts (closingEntry y t) := by
  have hwait := h.waiting hl hs hfree
  have hturn : leafBelow (driveNumber y) s k starts y l = closingAt s k l :=
    (leafBelow_of_not_carried hfree).trans (aloneBelow_turn hs)
  have hnext : ∀ side, firstBelow (driveNumber y + 1) s side starts = firstBelow (driveNumber y) s side starts := by
    intro side
    by_cases hside : side = l.side
    · exact firstBelow_next_of_clear s starts (hside ▸ hclear)
    · exact firstBelow_next_of_clear s starts (obstructedStart_of_side hl hside)
  have hafter : leafBelow (driveNumber y + 1) s k starts y l = closedAlone s y k l := by
    rw [leafBelow_of_not_carried (by rw [CarriedBelow, hnext]; exact hfree), aloneBelow_after hs]
  have hmember := h.gangMember_eq hl (by rw [hturn]; rfl) l.side
  have hself : closingAt s k l = closingAt t k l := by simp only [closingAt, h.cmc]
  have hset := LeafSet.closingEntry (hself ▸ hwait) (by
    intro hm ho hc
    rw [h.inputs] at ho hc ⊢
    rw [hmember] at hm
    simpa [obstructedStart, hl, hs, hm, ho, hc] using hclear)
  rw [closedAlone_congr h.cmc h.inputs] at hset
  refine ⟨hset.cmc.trans h.cmc, hset.inputs.trans h.inputs, fun d => ?_, fun side => ?_⟩
  · by_cases hd : d = y
    · subst hd
      rw [hset.self, hl, Option.map_some, hafter]
    · rw [hset.other d hd, h.leaf]
      cases s.drc.leaves.get d with
      | none => rfl
      | some m => rw [Option.map_some, Option.map_some, leafBelow_next hd (hnext _)]
  · rw [hset.gang, h.gang, Option.map_map]
    congr 1
    funext g
    rw [gangBelow_turn hl hs g (hnext side), hafter, Function.comp, closedAlone_side]
    simp only [gangBelow, PerDrive.get_of, memberBelow_of_rejoins hl (show rejoins _ = id by rw [hturn]; rfl)]

/-! ### The turn of the first obstructed member -/

theorem carriedAlong_of_other (s : State) (i : Nat) (d : Drive) {m : Leaf}
    (h : ¬ (m.state = .closing ∨ m.state = .locking)) : carriedAlong s i d m = m := if_neg h

theorem rejoins_of_waiting {x : LeafState} (h : x = .closing ∨ x = .locking) : rejoins x = id := by
  rcases h with rfl | rfl <;> rfl

/-- Being carried along changes no membership. -/
theorem carriedAlong_rejoins (s : State) (i : Nat) (d : Drive) (m : Leaf) :
    rejoins (carriedAlong s i d m).state = rejoins m.state := by
  by_cases h : m.state = .closing ∨ m.state = .locking
  · rw [rejoins_of_waiting h, carriedAlong, if_pos h]
    split
    · exact heldAt_rejoins _ _ _
    · exact reversedAt_rejoins _ _ _ _
  · rw [carriedAlong_of_other s i d h]

theorem aloneBelow_side (n : Nat) (s : State) (k : Nat) (starts : Drive → Leaf → Bool) (d : Drive) (m : Leaf) :
    (aloneBelow n s k starts d m).side = m.side := by
  unfold aloneBelow
  split
  · split
    · exact closedAlone_side _ _ _ _
    · rfl
  · rfl

theorem carriedAlong_side (s : State) (i : Nat) (d : Drive) (m : Leaf) : (carriedAlong s i d m).side = m.side := by
  unfold carriedAlong
  split
  · split
    · exact heldAt_side _ _ _
    · exact reversedAt_side _ _ _ _
  · rfl

theorem leafBelow_side (n : Nat) (s : State) (k : Nat) (starts : Drive → Leaf → Bool) (d : Drive) (m : Leaf) :
    (leafBelow n s k starts d m).side = m.side := by
  unfold leafBelow
  split
  · split
    · exact (carriedAlong_side _ _ _ _).trans (aloneBelow_side _ _ _ _ _ _)
    · exact aloneBelow_side _ _ _ _ _ _
  · exact aloneBelow_side _ _ _ _ _ _

theorem obstructedStart_lines {side : Side} (h : obstructedStart s side starts y = true) :
    gangMember s side y = true ∧ (s.drc.inputs.get y).ovc = false ∧ (s.drc.inputs.get y).closedSw = false ∧
    ((s.drc.inputs.get y).edge || (s.drc.inputs.get y).force) = true := by
  simp only [obstructedStart, Bool.and_eq_true, Bool.not_eq_true'] at h
  obtain ⟨⟨⟨⟨-, hm⟩, ho⟩, hc⟩, hline⟩ := h
  exact ⟨hm, ho, hc, hline⟩

theorem closingEntry_of_obstructed {m : Leaf} (hm : t.drc.leaves.get y = some m) (hstate : m.state = .closing)
    (ho : (t.drc.inputs.get y).ovc = false) (hc : (t.drc.inputs.get y).closedSw = false)
    (hline : ((t.drc.inputs.get y).edge || (t.drc.inputs.get y).force) = true) :
    closingEntry y t = obstruct y t := by
  simp [closingEntry, hm, hstate, ho, hc, hline]

/-- A leaf of the side after the turn of the first obstructed member. -/
theorem leafBelow_of_first {d : Drive} {m : Leaf} {g : Gang} (hnone : firstBelow (driveNumber y) s m.side starts = none)
    (hfirst : firstBelow (driveNumber y + 1) s m.side starts = some y) (hg : s.drc.gang m.side = some g)
    (hy : g.members.get y = true) :
    leafBelow (driveNumber y + 1) s k starts d m =
      if g.members.get d then carriedAlong s g.index d (leafBelow (driveNumber y) s k starts d m)
      else leafBelow (driveNumber y) s k starts d m := by
  have hbefore : leafBelow (driveNumber y) s k starts d m = aloneBelow (driveNumber y) s k starts d m :=
    leafBelow_of_not_carried (by simp [CarriedBelow, hnone])
  rw [hbefore]
  split
  next hd => exact leafBelow_of_carried hfirst hg hd
  next hd =>
    have hne : d ≠ y := fun h => hd (h ▸ hy)
    rw [leafBelow_of_not_carried (by simp [CarriedBelow, gangMember, hg, hd]), aloneBelow_next s k starts hne]

/-- The gang of the side after the turn of the first obstructed member. -/
theorem gangBelow_of_first {side : Side} {g : Gang} (hnone : firstBelow (driveNumber y) s side starts = none)
    (hfirst : firstBelow (driveNumber y + 1) s side starts = some y) (hg : s.drc.gang side = some g)
    (hy : g.members.get y = true) :
    gangBelow (driveNumber y + 1) s k starts side g =
      if g.index ≠ 3 then
        { gangBelow (driveNumber y) s k starts side g with index := profileAfter s g.index }
      else gangBelow (driveNumber y) s k starts side g := by
  have hmembers : memberBelow (driveNumber y + 1) s k starts side g = memberBelow (driveNumber y) s k starts side g := by
    funext d
    unfold memberBelow
    cases hm : s.drc.leaves.get d with
    | none => rfl
    | some m =>
      dsimp only
      split
      next hside =>
        obtain ⟨rfl, -⟩ := hside
        rw [leafBelow_of_first hnone hfirst hg hy]
        split
        · rw [carriedAlong_rejoins]
        · rfl
      · rfl
  by_cases hlast : g.index = 3
  · simp [gangBelow, hmembers, hnone, hfirst, hlast]
  · simp [gangBelow, hmembers, hfirst, hlast]

/-- The turn of the first obstructed member of a gang: the members in CLOSING and LOCKING are carried along. -/
theorem ClosedBelow.turn_obstructed (h : ClosedBelow (driveNumber y) s k starts t) (hl : s.drc.leaves.get y = some l)
    (hs : starts y l = true) (hfree : ¬ CarriedBelow (driveNumber y) s starts y l)
    (hobst : obstructedStart s l.side starts y = true) :
    ClosedBelow (driveNumber y + 1) s k starts (closingEntry y t) := by
  obtain ⟨hmember, ho, hc, hline⟩ := obstructedStart_lines hobst
  obtain ⟨g, hg, hy⟩ := gangMember_iff.1 hmember
  have hwait := h.waiting hl hs hfree
  have hturn : leafBelow (driveNumber y) s k starts y l = closingAt s k l :=
    (leafBelow_of_not_carried hfree).trans (aloneBelow_turn hs)
  have hnone : firstBelow (driveNumber y) s l.side starts = none := by
    rw [← Option.not_isSome_iff_eq_none]
    exact fun hx => hfree ⟨hx, hmember⟩
  have hfirst : firstBelow (driveNumber y + 1) s l.side starts = some y := by
    rw [firstBelow_next, hnone, hobst]
    rfl
  have hother : ∀ side, side ≠ l.side →
      firstBelow (driveNumber y + 1) s side starts = firstBelow (driveNumber y) s side starts := fun side hside =>
    firstBelow_next_of_clear s starts (obstructedStart_of_side hl hside)
  have hgang : t.drc.gang l.side = some (gangBelow (driveNumber y) s k starts l.side g) := by
    rw [h.gang, hg, Option.map_some]
  have hindex : (gangBelow (driveNumber y) s k starts l.side g).index = g.index := by simp [gangBelow, hnone]
  have hym : (gangBelow (driveNumber y) s k starts l.side g).members.get y = true := by
    simp [gangBelow, memberBelow_of_rejoins hl (show rejoins _ = id by rw [hturn]; rfl), hy]
  have hstep : GangObstructed l.side g.index t (closingEntry y t) := by
    rw [← h.inputs] at ho hc hline
    rw [closingEntry_of_obstructed hwait rfl ho hc hline]
    have hstep := obstruct_member hwait hgang hym
    rw [hindex] at hstep
    exact hstep
  refine ⟨hstep.cmc.trans h.cmc, hstep.inputs.trans h.inputs, fun d => ?_, fun side => ?_⟩
  · rw [hstep.leaf, h.leaf]
    cases hm : s.drc.leaves.get d with
    | none => rfl
    | some m =>
      simp only [Option.map_some, Option.some.injEq, leafBelow_side]
      by_cases hside : m.side = l.side
      · rw [← hside] at hnone hfirst hg ⊢
        rw [leafBelow_of_first hnone hfirst hg hy, carriedAlong_congr h.cmc h.inputs]
        by_cases hstate : (leafBelow (driveNumber y) s k starts d m).state = .closing ∨
            (leafBelow (driveNumber y) s k starts d m).state = .locking
        · rw [h.gangMember_eq hm (rejoins_of_waiting hstate)]
          simp [gangMember, hg]
        · simp only [carriedAlong_of_other _ _ _ hstate, ite_self]
      · have hd : d ≠ y := fun hd => by
          subst hd
          exact hside (congrArg Leaf.side (Option.some.inj (hm.symm.trans hl)))
        rw [if_neg (fun hand => hside hand.1), leafBelow_next hd (hother _ hside)]
  · rw [hstep.gang, h.gang, Option.map_map]
    by_cases hside : side = l.side
    · subst hside
      rw [hg, Option.map_some, Option.map_some, gangBelow_of_first hnone hfirst hg hy]
      simp only [Function.comp, true_and, profileAfter_congr h.cmc]
    · congr 1
      funext g'
      simp only [Function.comp, hside, false_and, if_false]
      refine (gangBelow_next g' (hother side hside) fun d m hm hms _ => ?_).symm
      have hd : d ≠ y := fun hd => by
        subst hd
        exact hside (hms.symm.trans (congrArg Leaf.side (Option.some.inj (hm.symm.trans hl))))
      rw [leafBelow_next hd (hms ▸ hother side hside)]

/-- The turn of a drive: it finds its lines if its leaf starts (R152 to R156). -/
theorem ClosedBelow.turn (y : Drive) (h : ClosedBelow (driveNumber y) s k starts t) :
    ClosedBelow (driveNumber y + 1) s k starts
      (if (s.drc.leaves.get y).any (starts y) then closingEntry y t else t) := by
  by_cases hstart : (s.drc.leaves.get y).any (starts y) = true
  · rw [if_pos hstart]
    cases hl : s.drc.leaves.get y with
    | none => simp [hl] at hstart
    | some l =>
      have hs : starts y l = true := by simpa [hl] using hstart
      by_cases hcarried : CarriedBelow (driveNumber y) s starts y l
      · exact h.turn_carried hl hcarried
      cases hobst : obstructedStart s l.side starts y with
      | false => exact h.turn_alone hl hs hcarried hobst
      | true => exact h.turn_obstructed hl hs hcarried hobst
  · rw [if_neg hstart]
    have hstill := Bool.eq_false_iff.2 hstart
    have hnext := fun side => firstBelow_next_of_clear s starts (obstructedStart_of_not_starts hstill side)
    refine h.next_of_unchanged hnext fun l hl => ?_
    have hs : starts y l = false := by simpa [hl] using hstill
    simp only [leafBelow, hnext, aloneBelow, hs, Bool.false_eq_true, if_false]

/-! ### The whole start -/

theorem LeafSet.setClosing {d : Drive} (h : t.drc.leaves.get d = some l) (k : Nat) :
    LeafSet d (closingAt t k l) id t (setClosing d k t) :=
  LeafSet.enterState h .closing k (some (openTimeout t.cmc.params))

/-- The leaves put in CLOSING together, before any has found its lines. -/
theorem ClosedBelow.first (s : State) (k : Nat) (starts : Drive → Leaf → Bool) :
    ClosedBelow 1 s k starts ((drivesWhere s starts).foldl (fun u d => setClosing d k u) s) := by
  have hset := LeavesSet.drivesWhere (s := s) (f := fun _ => closingAt s k) (step := fun d => setClosing d k)
    (fun t d l hc _ hl => by
      have hclosing := LeafSet.setClosing hl k
      simp only [closingAt, hc] at hclosing ⊢
      exact hclosing) starts
  have hleaf : ∀ d l, leafBelow 1 s k starts d l = if starts d l then closingAt s k l else l := by
    intro d l
    rw [leafBelow_of_not_carried (by simp [CarriedBelow, firstBelow_one])]
    cases d <;> simp [aloneBelow, driveNumber]
  refine ⟨hset.cmc, hset.inputs, fun d => ?_, fun side => ?_⟩
  · rw [hset.leaf]
    cases hl : s.drc.leaves.get d with
    | none => simp
    | some l => simp only [mem_drivesWhere, hl, Option.any_some, Option.map_some, hleaf]; split <;> rfl
  · rw [hset.gang]
    have hgang : gangBelow 1 s k starts side = id := by
      funext g
      have hmember : ∀ d, memberBelow 1 s k starts side g d = g.members.get d := fun d => by
        unfold memberBelow
        cases hl : s.drc.leaves.get d with
        | none => rfl
        | some l =>
          simp only [hleaf]
          split
          next h => rw [if_pos h.2]; rfl
          · rfl
      have hmembers : PerDrive.of (memberBelow 1 s k starts side g) = g.members :=
        perDrive_ext fun d => by rw [PerDrive.get_of, hmember]
      simp [gangBelow, firstBelow_one, hmembers]
    rw [hgang, Option.map_id, id]

/-- A close start of the leaves of which a condition holds, at its end. -/
theorem ClosedBelow.startClosing (s : State) (k : Nat) (starts : Drive → Leaf → Bool) :
    ClosedBelow 5 s k starts (startClosing (drivesWhere s starts) k s) := by
  have h := ((((ClosedBelow.first s k starts).turn .d1).turn .d2).turn .d3).turn .d4
  have hfold : ∀ u : State, (drivesWhere s starts).foldl (fun u d => closingEntry d u) u =
      Drive.all.foldl (fun u d => if (s.drc.leaves.get d).any (starts d) then closingEntry d u else u) u := fun u => by
    rw [drivesWhere, List.foldl_filter]
  rw [Machine.startClosing, hfold]
  exact h

/-- What each leaf is at the end of a close start. -/
theorem startClosing_leaf (s : State) (k : Nat) (starts : Drive → Leaf → Bool) (d : Drive) :
    (startClosing (drivesWhere s starts) k s).drc.leaves.get d = closedTogether s k starts d := by
  rw [(ClosedBelow.startClosing s k starts).leaf, closedTogether]
  congr 1
  funext l
  have halone : aloneBelow 5 s k starts d l = if starts d l then closedAlone s d k l else l := by
    cases d <;> simp [aloneBelow, driveNumber]
  rw [← halone]
  unfold leafBelow
  rw [firstBelow_five]
  cases firstObstructed s l.side starts with
  | none => rfl
  | some x =>
    have hreached : aloneBelow (driveNumber x) s k starts d l =
        if starts d l && decide (driveNumber x ≤ driveNumber d) then closingAt s k l
        else aloneBelow 5 s k starts d l := by
      rw [halone]
      unfold aloneBelow
      by_cases hs : starts d l = true
      · by_cases hn : driveNumber x ≤ driveNumber d
        · simp [hs, hn]
        · simp [hs, hn, Nat.lt_of_not_le hn]
      · simp [hs]
    cases s.drc.gang l.side with
    | none => rfl
    | some g =>
      dsimp only
      rw [hreached]
      rfl

/-- What each gang is at the end of a close start. -/
theorem startClosing_gang (s : State) (k : Nat) (starts : Drive → Leaf → Bool) (side : Side) :
    (startClosing (drivesWhere s starts) k s).drc.gang side = (s.drc.gang side).map (gangClosed s k starts side) := by
  have hclosed := ClosedBelow.startClosing s k starts
  rw [hclosed.gang]
  congr 1
  funext g
  unfold gangBelow gangClosed
  rw [firstBelow_five]
  congr 1
  congr 1
  funext d
  rw [← startClosing_leaf, hclosed.leaf, memberBelow]
  cases hl : s.drc.leaves.get d with
  | none => rfl
  | some l =>
    simp only [Option.any_some, Option.map_some, Bool.and_eq_true, beq_iff_eq]
    split
    · cases hm : (leafBelow 5 s k starts d l).state <;> rfl
    · rfl

end

end Sys2Proof.Machine
end

section
/-! PROOF. DRC's part of a LINE_RESET (R163): every leaf that is not LOCKED starts to close. -/

namespace Sys2Proof.Machine

/-! ### The release records, which no leaf's transition changes -/

/-- DRC's release record, the side release is in force for, and the last refused release (R145, R149). -/
def releaseRecords (s : State) : Option Release × Option Side × Option RefusedRelease :=
  (s.drc.release, s.drc.inForce, s.drc.lastRefused)

@[simp] theorem releaseRecords_setLeaf (d : Drive) (l : Leaf) (s : State) :
    releaseRecords (setLeaf d l s) = releaseRecords s := rfl

@[simp] theorem releaseRecords_setGang (side : Side) (g : Option Gang) (s : State) :
    releaseRecords (setGang side g s) = releaseRecords s := by
  cases side <;> rfl

@[simp] theorem releaseRecords_setMember (side : Side) (d : Drive) (b : Bool) (s : State) :
    releaseRecords (setMember side d b s) = releaseRecords s := releaseRecords_setGang _ _ _

@[simp] theorem releaseRecords_setGangIndex (side : Side) (k : Nat) (s : State) :
    releaseRecords (setGangIndex side k s) = releaseRecords s := releaseRecords_setGang _ _ _

@[simp] theorem releaseRecords_raise (c : Attention) (s : State) : releaseRecords (raise c s) = releaseRecords s := rfl

@[simp] theorem releaseRecords_enterState (d : Drive) (x : LeafState) (k : Nat) (t : Timer) (s : State) :
    releaseRecords (enterState d x k t s) = releaseRecords s := by
  unfold enterState
  split <;> rfl

@[simp] theorem releaseRecords_isolateLeaf (d : Drive) (c : IsolationCause) (s : State) :
    releaseRecords (isolateLeaf d c s) = releaseRecords s := by
  have halarm : ∀ u : State, releaseRecords (isolationAlarm c u) = releaseRecords u := fun u => by
    cases c <;> simp [isolationAlarm, releaseRecords]
  unfold isolateLeaf
  split
  · rfl
  · simp [halarm]

@[simp] theorem releaseRecords_enterLocking (d : Drive) (s : State) :
    releaseRecords (enterLocking d s) = releaseRecords s := by
  have hlocked : ∀ u : State, releaseRecords (enterLocked d u) = releaseRecords u := fun u => by
    unfold enterLocked
    split <;> simp
  unfold enterLocking
  split
  · rfl
  · dsimp only
    split <;> simp [hlocked]

@[simp] theorem releaseRecords_endDrive (d : Drive) (s : State) : releaseRecords (endDrive d s) = releaseRecords s := by
  unfold endDrive
  split
  · rfl
  · split <;> rfl

@[simp] theorem releaseRecords_enterReversing (d : Drive) (k : Nat) (s : State) :
    releaseRecords (enterReversing d k s) = releaseRecords s := by
  unfold enterReversing
  dsimp only
  split <;> simp

@[simp] theorem releaseRecords_enterHeld (d : Drive) (s : State) : releaseRecords (enterHeld d s) = releaseRecords s := by
  unfold enterHeld
  split
  · rfl
  · dsimp only
    split <;> simp

@[simp] theorem releaseRecords_obstruct (d : Drive) (s : State) : releaseRecords (obstruct d s) = releaseRecords s := by
  have hheld : ∀ (ds : List Drive) (u : State),
      releaseRecords (ds.foldl (fun s d => enterHeld d s) u) = releaseRecords u :=
    foldl_keeps releaseRecords fun u d => releaseRecords_enterHeld d u
  have hreversing : ∀ (k : Nat) (ds : List Drive) (u : State),
      releaseRecords (ds.foldl (fun s d => enterReversing d k s) u) = releaseRecords u := fun k =>
    foldl_keeps releaseRecords fun u d => releaseRecords_enterReversing d k u
  unfold obstruct
  split
  · rfl
  · dsimp only
    split
    · split
      · rfl
      · split <;> simp [hheld, hreversing]
    · split <;> simp

@[simp] theorem releaseRecords_closingEntry (d : Drive) (s : State) :
    releaseRecords (closingEntry d s) = releaseRecords s := by
  unfold closingEntry
  split
  · rfl
  · dsimp only
    repeat' split
    all_goals simp

theorem releaseRecords_startClosing (ds : List Drive) (k : Nat) (s : State) :
    releaseRecords (startClosing ds k s) = releaseRecords s := by
  unfold startClosing
  rw [foldl_keeps releaseRecords fun u d => releaseRecords_closingEntry d u]
  exact foldl_keeps releaseRecords (fun u d => releaseRecords_enterState d _ _ _ u) ds s

/-! ### An event of DRC -/

/-- What an event leaves of DRC besides door hold and the due report is what its own work makes of it. -/
theorem drcEvent_drc (f : State → State) (s : State) :
    (drcEvent f s).drc =
      { (f s).drc with doorHold := (drcEvent f s).drc.doorHold, reportDue := (drcEvent f s).drc.reportDue } := by
  have hflush : ∀ u : State, (flushReport u).drc = { u.drc with reportDue := (flushReport u).drc.reportDue } := fun u => by
    unfold flushReport
    split <;> simp
  unfold drcEvent
  dsimp only
  rw [hflush]
  simp [followDoorHold_drc]

theorem drcEvent_gang (f : State → State) (s : State) (side : Side) :
    (drcEvent f s).drc.gang side = (f s).drc.gang side := by
  rw [drcEvent_drc]
  cases side <;> rfl

/-! ### The leaves at the end -/

/-- A leaf is in none of the states that a close start leads out of: UNLOCKED, OPENING and OPEN. -/
def NotOpenish (m : Leaf) : Prop := m.state ≠ .unlocked ∧ m.state ≠ .opening ∧ m.state ≠ .opened

theorem heldAt_notOpenish (s : State) (d : Drive) (m : Leaf) : NotOpenish (heldAt s d m) := by
  unfold heldAt NotOpenish
  split <;> simp

theorem reversedAt_notOpenish (s : State) (d : Drive) (k : Nat) (m : Leaf) : NotOpenish (reversedAt s d k m) := by
  unfold reversedAt NotOpenish
  split <;> simp

theorem closedAlone_notOpenish (s : State) (d : Drive) (k : Nat) (l : Leaf) : NotOpenish (closedAlone s d k l) := by
  unfold closedAlone
  dsimp only
  split
  · simp [NotOpenish, isolatedBy]
  split
  · split <;> simp [NotOpenish]
  split
  · split
    · exact heldAt_notOpenish _ _ _
    · exact reversedAt_notOpenish _ _ _ _
  · simp [NotOpenish, closingAt]

theorem carriedAlong_notOpenish (s : State) (i : Nat) (d : Drive) {m : Leaf} (h : NotOpenish m) :
    NotOpenish (carriedAlong s i d m) := by
  unfold carriedAlong
  split
  · split
    · exact heldAt_notOpenish _ _ _
    · exact reversedAt_notOpenish _ _ _ _
  · exact h

/-- A leaf that starts to close, whatever it finds. -/
theorem leafBelow_notOpenish {s : State} {k : Nat} {starts : Drive → Leaf → Bool} {d : Drive} {l : Leaf} (n : Nat)
    (h : starts d l = true) : NotOpenish (leafBelow n s k starts d l) := by
  have halone : ∀ n, NotOpenish (aloneBelow n s k starts d l) := fun n => by
    unfold aloneBelow
    rw [if_pos h]
    split
    · exact closedAlone_notOpenish _ _ _ _
    · simp [NotOpenish, closingAt]
  unfold leafBelow
  split
  · split
    · exact carriedAlong_notOpenish _ _ _ (halone _)
    · exact halone _
  · exact halone _

/-- A LOCKED leaf that does not start stays as it is. -/
theorem leafBelow_of_locked {s : State} {k : Nat} {starts : Drive → Leaf → Bool} {d : Drive} {l : Leaf} (n : Nat)
    (h : starts d l = false) (hl : l.state = .locked) : leafBelow n s k starts d l = l := by
  have halone : ∀ n, aloneBelow n s k starts d l = l := fun n => by simp [aloneBelow, h]
  unfold leafBelow
  split
  · rw [halone, halone, carriedAlong_of_other _ _ _ (by simp [hl]), ite_self]
  · exact halone _

/-! ### The reset -/

/-- The leaves that a LINE_RESET starts to close (R163). -/
def notLocked : Drive → Leaf → Bool := fun _ l => l.state != .locked

/-- The state whose leaves a LINE_RESET starts to close: the release records gone, both gang indexes 1 (R163). -/
def clearedDoors (s : State) : State :=
  dueReport (setGangIndex .left 1 (setGangIndex .right 1
    { s with drc.release := none, drc.inForce := none, drc.lastRefused := none }))

theorem resetDoors_eq (s : State) :
    resetDoors s = startClosing (drivesWhere (clearedDoors s) notLocked) 1 (clearedDoors s) := rfl

/-- The start looks at neither the release records nor the due report. -/
theorem closedTogether_clearedDoors (s : State) (d : Drive) :
    closedTogether (clearedDoors s) 1 notLocked d =
      closedTogether (setGangIndex .left 1 (setGangIndex .right 1 s)) 1 notLocked d := rfl

theorem gangClosed_clearedDoors (s : State) (side : Side) (g : Gang) :
    gangClosed (clearedDoors s) 1 notLocked side g =
      gangClosed (setGangIndex .left 1 (setGangIndex .right 1 s)) 1 notLocked side g := rfl

theorem clearedDoors_gang (s : State) (side : Side) :
    (clearedDoors s).drc.gang side = (setGangIndex .left 1 (setGangIndex .right 1 s)).drc.gang side := by
  cases side <;> rfl

theorem restarted_index {s : State} {side : Side} {g : Gang}
    (h : (setGangIndex .left 1 (setGangIndex .right 1 s)).drc.gang side = some g) : g.index = 1 := by
  have hmap : ∃ g', s.drc.gang side = some g' ∧ { g' with index := 1 } = g := by
    cases side <;> exact Option.map_eq_some_iff.1 h
  obtain ⟨g', -, rfl⟩ := hmap
  rfl

theorem releaseRecords_resetDoors (s : State) : releaseRecords (resetDoors s) = (none, none, none) := by
  rw [resetDoors_eq, releaseRecords_startClosing, clearedDoors]
  rfl

theorem resetDoors_leaf (s : State) (d : Drive) :
    (resetDoors s).drc.leaves.get d = (s.drc.leaves.get d).map (leafBelow 5 (clearedDoors s) 1 notLocked d) :=
  (ClosedBelow.startClosing (clearedDoors s) 1 notLocked).leaf d

theorem resetDoors_keeps_locked {s : State} {d : Drive} {l : Leaf} (h : s.drc.leaves.get d = some l)
    (hl : l.state = .locked) : (resetDoors s).drc.leaves.get d = some l := by
  rw [resetDoors_leaf, h, Option.map_some, leafBelow_of_locked 5 (by simp [notLocked, hl]) hl]

theorem resetDoors_notOpenish {s : State} {d : Drive} {m : Leaf} (h : (resetDoors s).drc.leaves.get d = some m) :
    NotOpenish m := by
  rw [resetDoors_leaf, Option.map_eq_some_iff] at h
  obtain ⟨l, -, rfl⟩ := h
  by_cases hl : l.state = .locked
  · rw [leafBelow_of_locked 5 (by simp [notLocked, hl]) hl]
    simp [NotOpenish, hl]
  · exact leafBelow_notOpenish 5 (by simp [notLocked, hl])

end Sys2Proof.Machine
end

section
/-! PROOF. The owners' parts of a LINE_RESET (R35, R76, R95, R111, R130, R163, R183, R193). -/

namespace Sys2Proof.Machine

/-! ### What follows every part -/

/-- After a part only the outstanding parts, the slot and what SSV sees of the blanket set change. -/
theorem afterPart_keeps (p : ResetParts) (s : State) :
    (afterPart p s).cmc = { s.cmc with resetParts := (afterPart p s).cmc.resetParts } ∧
    (afterPart p s).odo = s.odo ∧ (afterPart p s).lps = s.lps ∧ (afterPart p s).rtb = s.rtb ∧
    (afterPart p s).ssv = { s.ssv with resetView := (afterPart p s).ssv.resetView } ∧
    (afterPart p s).brc = s.brc ∧ (afterPart p s).drc = s.drc ∧ (afterPart p s).vrl = s.vrl ∧
    (afterPart p s).hlp.attention = s.hlp.attention ∧ (afterPart p s).sld = s.sld := by
  have hplace : ∀ u : State, (placeResetDone u).vrl = u.vrl ∧ (placeResetDone u).hlp.attention = u.hlp.attention :=
    fun u => by
      unfold placeResetDone
      split <;> exact ⟨rfl, rfl⟩
  unfold afterPart
  dsimp only
  split <;> simp [hplace]

/-! ### ODO's part (R35) -/

theorem addLatchIf_latch_has (b : Bool) (c : LatchCause) {s : State} {x : LatchCause} (h : s.brc.latch.has x = true) :
    (addLatchIf b c s).brc.latch.has x = true := by
  unfold addLatchIf
  split
  · rw [addLatchCause_latch]
    cases c <;> cases x <;> simp_all [LatchSet.add, LatchSet.has]
  · exact h

/-- An event of DRC removes no latch cause (R161). -/
theorem drcEvent_latch_has {f : State → State} {s : State} (hf : DoorMove s (f s)) {c : LatchCause}
    (h : s.brc.latch.has c = true) : (drcEvent f s).brc.latch.has c = true := by
  unfold drcEvent
  simp only [flushReport_keeps]
  refine addLatchIf_latch_has _ _ ?_
  rw [followDoorHold_brc _ |>.1, hf.brc]
  exact h

theorem resetPosition_parts (s : State) :
    (resetPosition s).odo =
      { s.odo with status := .unknown, degradedReason := none, watch := s.odo.watch.disarm } ∧
    (resetPosition s).ssv = { s.ssv with blankets := { s.ssv.blankets with position := true } } ∧
    (∀ c, s.brc.latch.has c = true → (resetPosition s).brc.latch.has c = true) := by
  refine ⟨?_, ?_, fun c h => ?_⟩
  · simp [resetPosition, setStatus, putBlanket]
  · simp [resetPosition, setStatus, putBlanket, BlanketSet.put]
  · exact drcEvent_latch_has (.judge _) h

/-! ### RTB's part (R76) -/

theorem heldRecords_emptyTable (s : State) : heldRecords (emptyTable s) = [] := rfl

theorem resetTable_parts (s : State) :
    (resetTable s).rtb = (emptyTable s).rtb ∧
    (resetTable s).ssv = { s.ssv with
      blankets := if s.ssv.blankets.linkSilence = true ∨ s.cmc.resetParts.vrl = false then
          { s.ssv.blankets with tableOverflow := false }
        else s.ssv.blankets } := by
  unfold resetTable dropOverflowCause
  cases hl : s.ssv.blankets.linkSilence <;> cases hv : s.cmc.resetParts.vrl <;>
    simp [hl, putBlanket, BlanketSet.put]

/-! ### SSV's part (R95, R111) -/

theorem clearSupervision_record (s : State) : (clearSupervision s).ssv.record = idleRecord := by
  unfold clearSupervision setIntervention
  dsimp only
  split <;> rfl

/-! ### BRC's part (R130) -/

theorem abortTest_health (r : AbortReason) (c : Channel) (s : State) :
    ((abortTest r s).brc.channel c).health = (s.brc.channel c).health := by
  unfold abortTest
  split
  · rfl
  · rw [testOver, raise_keeps _ _ |>.2.2.2.2.2.1, resumeSupervision, outputChanged_health, outputChanged_health,
      outputChanged_health, settle_health]
    cases c <;> rfl

theorem abortTest_result {s : State} (r : AbortReason) (h : s.brc.test ≠ none) :
    (abortTest r s).brc.result.overall = .aborted ∧ (abortTest r s).brc.result.abort.map Prod.fst = some r := by
  unfold abortTest
  split
  next hnone => exact absurd hnone h
  · simp [testOver, resumeSupervision]

theorem resetBrakes_parts (s : State) :
    (resetBrakes s).brc.test = none ∧ (resetBrakes s).brc.hostHold = .apply ∧
    (resetBrakes s).brc.latch = s.brc.latch ∧ (resetBrakes s).brc.driverLevel = s.brc.driverLevel ∧
    (∀ c, ((resetBrakes s).brc.channel c).health = (s.brc.channel c).health) ∧
    (resetBrakes s).brc.result = (abortTest .lineReset s).brc.result := by
  refine ⟨by simp [resetBrakes], by simp [resetBrakes], by simp [resetBrakes], by simp [resetBrakes], fun c => ?_,
    by simp [resetBrakes]⟩
  rw [resetBrakes, settle_health, ← abortTest_health .lineReset c s]
  cases c <;> rfl

/-! ### VRL's part (R183, R193) -/

theorem resetLink_parts (s : State) :
    (resetLink s).vrl = { s.vrl with
      dialogue := .unjoined, queue := [], notices := [], lastNotice := none, beacon := none, windowTimer := none,
      currentList := none, windowCount := 255, pollMark := false } ∧
    (resetLink s).hlp.attention = { s.hlp.attention with
      dialogue := decide (s.vrl.dialogue ≠ .unjoined) || s.hlp.attention.dialogue } ∧
    (resetLink s).ssv.blankets = { s.ssv.blankets with
      linkSilence := decide (s.vrl.dialogue ≠ .unjoined) || s.ssv.blankets.linkSilence,
      tableOverflow := s.ssv.blankets.tableOverflow &&
        decide (s.cmc.resetParts.rtb = true ∨ s.rtb.overflow = true) } := by
  unfold resetLink resetRadio enterUnjoined dropOverflowCause
  cases hd : s.vrl.dialogue <;> cases hr : s.cmc.resetParts.rtb <;> cases ho : s.rtb.overflow <;>
    simp [hd, putBlanket, BlanketSet.put, raise, AttentionSet.add]

/-! ### Each part, with what follows it -/

/-- ODO's part (R35). -/
theorem afterPart_resetPosition (p : ResetParts) (s : State) :
    let t := afterPart p (resetPosition s)
    t.odo = { s.odo with status := .unknown, degradedReason := none, watch := t.odo.watch } ∧
    t.odo.watch = (match s.odo.watch with | .missed x => .missed x | _ => .idle) ∧
    t.ssv.blankets = { s.ssv.blankets with position := true } ∧
    (∀ c, s.brc.latch.has c = true → t.brc.latch.has c = true) ∧
    t.cmc = { s.cmc with resetParts := t.cmc.resetParts } ∧ t.lps = s.lps ∧ t.rtb = s.rtb ∧ t.sld = s.sld := by
  obtain ⟨hcmc, hodo, hlps, hrtb, hssv, hbrc, hdrc, hvrl, hattention, hsld⟩ :=
    afterPart_keeps p (resetPosition s)
  obtain ⟨kcmc, klps, krtb, ksld, -⟩ := resetPosition_keeps s
  obtain ⟨hposition, hblankets, hlatch⟩ := resetPosition_parts s
  refine ⟨?_, ?_, ?_, ?_, hcmc.trans (by rw [kcmc]), hlps.trans klps, hrtb.trans krtb, hsld.trans ksld⟩
  · rw [hodo, hposition]
  · rw [hodo, hposition]
    cases s.odo.watch <;> rfl
  · rw [hssv, hblankets]
  · rw [hbrc]
    exact hlatch

/-- RTB's part (R76; TABLE_OVERFLOW by R97 and assumption log 4). -/
theorem afterPart_resetTable (p : ResetParts) (s : State) :
    let t := afterPart p (resetTable s)
    heldRecords t = [] ∧ t.rtb.overflow = false ∧ t.rtb.overflowCount = 0 ∧
    t.rtb.changeCount = s.rtb.changeCount + 1 ∧
    t.ssv = { s.ssv with
      resetView := t.ssv.resetView,
      blankets := if s.ssv.blankets.linkSilence = true ∨ s.cmc.resetParts.vrl = false then
          { s.ssv.blankets with tableOverflow := false }
        else s.ssv.blankets } ∧
    t.odo = s.odo ∧ t.brc = s.brc ∧ t.drc = s.drc ∧ t.vrl = s.vrl ∧
    t.cmc = { s.cmc with resetParts := t.cmc.resetParts } ∧ t.lps = s.lps ∧ t.sld = s.sld := by
  obtain ⟨hcmc, hodo, hlps, hrtb, hssv, hbrc, hdrc, hvrl, hattention, hsld⟩ :=
    afterPart_keeps p (resetTable s)
  obtain ⟨kcmc, kodo, klps, kbrc, kdrc, kvrl, khlp, ksld, -⟩ := resetTable_keeps s
  obtain ⟨htable, hblankets⟩ := resetTable_parts s
  refine ⟨?_, ?_, ?_, ?_, ?_, hodo.trans kodo, hbrc.trans kbrc, hdrc.trans kdrc, hvrl.trans kvrl,
    hcmc.trans (by rw [kcmc]), hlps.trans klps, hsld.trans ksld⟩
  · rw [heldRecords, hrtb, htable]
    exact heldRecords_emptyTable s
  · rw [hrtb, htable]; rfl
  · rw [hrtb, htable]; rfl
  · rw [hrtb, htable]; rfl
  · exact hssv.trans (by rw [hblankets])

/-- SSV's part (R95, R111). -/
theorem afterPart_endSupervision (p : ResetParts) (s : State) :
    let t := afterPart p (endSupervision s)
    t.ssv.state = .normal ∧ t.ssv.permitted = 0 ∧ t.ssv.acknowledged = false ∧ t.ssv.released = false ∧
    t.ssv.overspeed = false ∧ t.ssv.record = ⟨.idle, t.ssv.record.direction, 0, 0, 0, none, none, 0⟩ ∧
    t.brc.demands.intervention = none ∧ t.brc.latch = s.brc.latch ∧ t.ssv.blankets = s.ssv.blankets ∧
    t.odo = s.odo ∧ t.rtb = s.rtb ∧ t.drc = s.drc ∧ t.vrl = s.vrl ∧
    t.cmc = { s.cmc with resetParts := t.cmc.resetParts } ∧ t.lps = s.lps ∧ t.sld = s.sld := by
  obtain ⟨hcmc, hodo, hlps, hrtb, hssv, hbrc, hdrc, hvrl, hattention, hsld⟩ :=
    afterPart_keeps p (endSupervision s)
  obtain ⟨kcmc, kodo, klps, krtb, kdrc, kvrl, ksld, -⟩ := endSupervision_keeps s
  obtain ⟨hstate, hpermitted, hacknowledged, hreleased, hoverspeed, hblankets⟩ := clearSupervision_ssv s
  have hended : (endSupervision s).ssv = (clearSupervision s).ssv := by simp [endSupervision]
  rw [hended] at hssv
  refine ⟨?_, ?_, ?_, ?_, ?_, ?_, ?_, ?_, ?_, hodo.trans kodo, hrtb.trans krtb, hdrc.trans kdrc, hvrl.trans kvrl,
    hcmc.trans (by rw [kcmc]), hlps.trans klps, hsld.trans ksld⟩
  · rw [hssv]; exact hstate
  · rw [hssv]; exact hpermitted
  · rw [hssv]; exact hacknowledged
  · rw [hssv]; exact hreleased
  · rw [hssv]; exact hoverspeed
  · rw [hssv, clearSupervision_record]; rfl
  · rw [hbrc]; simp [endSupervision]
  · rw [hbrc]; simp [endSupervision]
  · rw [hssv]; exact hblankets

/-- BRC's part (R130). -/
theorem afterPart_resetBrakes (p : ResetParts) (s : State) :
    let t := afterPart p (resetBrakes s)
    t.brc.test = none ∧ t.brc.hostHold = .apply ∧ t.brc.latch = s.brc.latch ∧
    t.brc.driverLevel = s.brc.driverLevel ∧ (∀ c, (t.brc.channel c).health = (s.brc.channel c).health) ∧
    (s.brc.test ≠ none → t.brc.result.overall = .aborted ∧ t.brc.result.abort.map Prod.fst = some .lineReset) ∧
    t.odo = s.odo ∧ t.rtb = s.rtb ∧ t.ssv.blankets = s.ssv.blankets ∧ t.drc = s.drc ∧ t.vrl = s.vrl ∧
    t.cmc = { s.cmc with resetParts := t.cmc.resetParts } ∧ t.lps = s.lps ∧ t.sld = s.sld := by
  obtain ⟨hcmc, hodo, hlps, hrtb, hssv, hbrc, hdrc, hvrl, hattention, hsld⟩ :=
    afterPart_keeps p (resetBrakes s)
  obtain ⟨kcmc, kodo, klps, krtb, kssv, kdrc, kvrl, ksld, -⟩ := resetBrakes_keeps s
  obtain ⟨htest, hhold, hlatch, hlevel, hhealth, hresult⟩ := resetBrakes_parts s
  refine ⟨?_, ?_, ?_, ?_, ?_, ?_, hodo.trans kodo, hrtb.trans krtb, ?_, hdrc.trans kdrc, hvrl.trans kvrl,
    hcmc.trans (by rw [kcmc]), hlps.trans klps, hsld.trans ksld⟩
  · rw [hbrc]; exact htest
  · rw [hbrc]; exact hhold
  · rw [hbrc]; exact hlatch
  · rw [hbrc]; exact hlevel
  · rw [hbrc]; exact hhealth
  · rw [hbrc, hresult]; exact abortTest_result .lineReset
  · rw [hssv, kssv]

/-- DRC's part (R163): a close start of every leaf that is not LOCKED. -/
theorem afterPart_resetDoors (p : ResetParts) (s : State) :
    let t := afterPart p (drcEvent resetDoors s)
    let restarted := setGangIndex .left 1 (setGangIndex .right 1 s)
    t.drc.release = none ∧ t.drc.inForce = none ∧ t.drc.lastRefused = none ∧
    (∀ d l, s.drc.leaves.get d = some l → l.state = .locked → t.drc.leaves.get d = some l) ∧
    (∀ d, t.drc.leaves.get d = closedTogether restarted 1 notLocked d) ∧
    (∀ side g, restarted.drc.gang side = some g →
      g.index = 1 ∧ t.drc.gang side = some (gangClosed restarted 1 notLocked side g)) ∧
    (∀ d m, t.drc.leaves.get d = some m → m.state ≠ .unlocked ∧ m.state ≠ .opening ∧ m.state ≠ .opened) ∧
    t.odo = s.odo ∧ t.rtb = s.rtb ∧ t.ssv.blankets = s.ssv.blankets ∧
    t.cmc = { s.cmc with resetParts := t.cmc.resetParts } ∧ t.lps = s.lps ∧ t.sld = s.sld := by
  obtain ⟨hcmc, hodo, hlps, hrtb, hssv, hbrc, hdrc, hvrl, hattention, hsld⟩ :=
    afterPart_keeps p (drcEvent resetDoors s)
  have kcmc := drcEvent_cmc resetDoors (fun u => by simp) s
  have kodo := drcEvent_odo resetDoors (fun u => by simp) s
  have klps := drcEvent_lps resetDoors (fun u => by simp) s
  have krtb := drcEvent_rtb resetDoors (fun u => by simp) s
  have kssv := drcEvent_ssv resetDoors (fun u => by simp) s
  have ksld := drcEvent_sld resetDoors (fun u => by simp) s
  have hrecords := releaseRecords_resetDoors s
  simp only [releaseRecords, Prod.mk.injEq] at hrecords
  obtain ⟨hrelease, hinForce, hrefused⟩ := hrecords
  have hdoors := hdrc.trans (drcEvent_drc resetDoors s)
  have hleaves := congrArg Doors.leaves hdoors
  refine ⟨?_, ?_, ?_, fun d l hl hlocked => ?_, fun d => ?_, fun side g hg => ⟨restarted_index hg, ?_⟩,
    fun d m hm => ?_, hodo.trans kodo, hrtb.trans krtb, ?_, hcmc.trans (by rw [kcmc]), hlps.trans klps,
    hsld.trans ksld⟩
  · rw [hdoors]; exact hrelease
  · rw [hdoors]; exact hinForce
  · rw [hdoors]; exact hrefused
  · rw [hleaves]; exact resetDoors_keeps_locked hl hlocked
  · rw [hleaves, ← closedTogether_clearedDoors]
    exact startClosing_leaf (clearedDoors s) 1 notLocked d
  · rw [hdrc, drcEvent_gang, resetDoors_eq, startClosing_gang, clearedDoors_gang, hg, Option.map_some,
      gangClosed_clearedDoors]
  · rw [hleaves] at hm
    exact resetDoors_notOpenish hm
  · rw [hssv, kssv]

/-- VRL's part (R183, R193). -/
theorem afterPart_resetLink (p : ResetParts) (s : State) :
    let t := afterPart p (resetLink s)
    t.vrl = { s.vrl with
      dialogue := .unjoined, queue := [], notices := [], lastNotice := none, beacon := none, windowTimer := none,
      currentList := none, windowCount := 255, pollMark := false } ∧
    t.hlp.attention = { s.hlp.attention with
      dialogue := decide (s.vrl.dialogue ≠ .unjoined) || s.hlp.attention.dialogue } ∧
    t.ssv.blankets = { s.ssv.blankets with
      linkSilence := decide (s.vrl.dialogue ≠ .unjoined) || s.ssv.blankets.linkSilence,
      tableOverflow := s.ssv.blankets.tableOverflow &&
        decide (s.cmc.resetParts.rtb = true ∨ s.rtb.overflow = true) } ∧
    t.odo = s.odo ∧ t.rtb = s.rtb ∧ t.brc = s.brc ∧ t.drc = s.drc ∧
    t.cmc = { s.cmc with resetParts := t.cmc.resetParts } ∧ t.lps = s.lps ∧ t.sld = s.sld := by
  obtain ⟨hcmc, hodo, hlps, hrtb, hssv, hbrc, hdrc, hvrl, hattention, hsld⟩ :=
    afterPart_keeps p (resetLink s)
  obtain ⟨kcmc, kodo, klps, krtb, kbrc, kdrc, ksld, -⟩ := resetLink_keeps s
  obtain ⟨hlink, hdialogue, hblankets⟩ := resetLink_parts s
  refine ⟨hvrl.trans hlink, hattention.trans hdialogue, ?_, hodo.trans kodo, hrtb.trans krtb, hbrc.trans kbrc,
    hdrc.trans kdrc, hcmc.trans (by rw [kcmc]), hlps.trans klps, hsld.trans ksld⟩
  rw [hssv]; exact hblankets

/-! ### The obligation -/

/-- A part that is outstanding is taken (R13). -/
theorem takePart_outstanding {outstanding : Bool} (h : outstanding = true) (left : ResetParts) (part : State → State)
    (s : State) : takePart outstanding left part s = .next (afterPart left (part s)) := by
  rw [h]
  rfl

/-- Settles O9, part by part; DRC's part is a close start of every leaf that is not LOCKED. -/
theorem lineResetParts : Obligations.LineResetParts := by
  unfold Obligations.LineResetParts
  intro s
  exact ⟨fun h => ⟨_, takePart_outstanding h _ _ _, afterPart_resetPosition _ s⟩,
    fun h => ⟨_, takePart_outstanding h _ _ _, afterPart_resetTable _ s⟩,
    fun h => ⟨_, takePart_outstanding h _ _ _, afterPart_endSupervision _ s⟩,
    fun h => ⟨_, takePart_outstanding h _ _ _, afterPart_resetBrakes _ s⟩,
    fun h => ⟨_, takePart_outstanding h _ _ _, afterPart_resetDoors _ s⟩,
    fun h => ⟨_, takePart_outstanding h _ _ _, afterPart_resetLink _ s⟩⟩

end Sys2Proof.Machine
end

section
/-! SUPPORT. The validation of a load (R36, R37, R43, R44): which check a segment fails first, which segment of a load
fails first, and what the end of the load makes of it. -/

namespace Sys2Proof.Machine

/-! ### One segment: the checks of R44 in their order -/

/-- The checks that R44 makes of a segment, in the order in which they are made. -/
def checkOrder : List ProfileFault :=
  [.fieldRange, .firstStart, .startOrder, .startBeyond, .rackSequence, .entrySequence, .stationDuplicate]

/-- A segment fails one check of R44, given the announced length and the segments at lower indexes. -/
def failsCheck (announced : Nat) (before : List SegmentRecord) (r : SegmentRecord) : ProfileFault → Bool
  | .fieldRange => fieldOutOfRange r
  | .firstStart => before.getLast?.isNone && r.start != 0
  | .startOrder => before.getLast?.any fun q => r.start ≤ q.start
  | .startBeyond => announced ≤ r.start.toNat
  | .rackSequence => r.track == some .rack && before.getLast?.all fun q => q.track == some .adhesion
  | .entrySequence => r.track == some .rackEntry && before.getLast?.all fun q => q.track != some .adhesion
  | .stationDuplicate => r.isPlatform && before.any fun q => q.isPlatform && q.stationId == r.stationId
  | .incomplete => false
  | .header => false

theorem find?_cons_eq_ite {α : Type} (p : α → Bool) (a : α) (l : List α) :
    (a :: l).find? p = if p a = true then some a else l.find? p := by
  rw [List.find?_cons]
  cases p a <;> rfl

/-- The model finds the first check that fails. -/
theorem segmentFault_eq_find (announced : Nat) (before : List SegmentRecord) (r : SegmentRecord) :
    segmentFault announced before r = checkOrder.find? (failsCheck announced before r) := by
  simp only [segmentFault, checkOrder, find?_cons_eq_ite, failsCheck, List.find?_nil, decide_eq_true_eq]
  congr

/-- R44 makes the checks in the order of their codes, and the codes below one of theirs are theirs too. -/
theorem checkOrder_sorted :
    checkOrder.Pairwise (fun f g => f.code.toNat < g.code.toNat) ∧
    ∀ f ∈ checkOrder, ∀ g : ProfileFault, g.code.toNat < f.code.toNat → g ∈ checkOrder := by
  refine ⟨by decide, fun f hf g => ?_⟩
  cases g <;> revert f <;> decide

/-- No fault beside the checks of R44 is one of a segment. -/
theorem mem_checkOrder_of_failsCheck {announced : Nat} {before : List SegmentRecord} {r : SegmentRecord}
    {f : ProfileFault} (h : failsCheck announced before r f = true) : f ∈ checkOrder := by
  cases f with
  | incomplete | header => cases h
  | _ => decide

theorem segmentFault_eq_none_iff {announced : Nat} {before : List SegmentRecord} {r : SegmentRecord} :
    segmentFault announced before r = none ↔ ∀ f, failsCheck announced before r f = false := by
  rw [segmentFault_eq_find, List.find?_eq_none]
  refine ⟨fun h f => ?_, fun h f _ => by simp [h f]⟩
  by_contra hf
  exact h f (mem_checkOrder_of_failsCheck (by simpa using hf)) (by simpa using hf)

/-- The fault of a segment is a check it fails, and it fails none of a lower code. -/
theorem segmentFault_eq_some {announced : Nat} {before : List SegmentRecord} {r : SegmentRecord} {f : ProfileFault}
    (h : segmentFault announced before r = some f) :
    failsCheck announced before r f = true ∧
    ∀ g : ProfileFault, g.code.toNat < f.code.toNat → failsCheck announced before r g = false := by
  rw [segmentFault_eq_find, List.find?_eq_some_iff_append] at h
  obtain ⟨hf, earlier, later, hsplit, hearlier⟩ := h
  refine ⟨hf, fun g hg => ?_⟩
  obtain ⟨hsorted, hlower⟩ := checkOrder_sorted
  have hmem : g ∈ checkOrder := hlower f (by simp [hsplit]) g hg
  rw [hsplit, List.mem_append, List.mem_cons] at hmem
  rw [hsplit, List.pairwise_append, List.pairwise_cons] at hsorted
  obtain ⟨-, ⟨hlater, -⟩, -⟩ := hsorted
  rcases hmem with hmem | rfl | hmem
  · simpa using hearlier g hmem
  · omega
  · have := hlater g hmem
    omega

/-! ### The checks in the words of R44 -/

/-- A field of the record lies outside its range (R36, R37). -/
def FieldsOutOfRange (r : SegmentRecord) : Prop :=
  (r.kind ≠ 1 ∧ r.kind ≠ 2 ∧ r.kind ≠ 3) ∨ r.gradient.toInt < -300 ∨ 300 < r.gradient.toInt ∨
  12500 < r.limitUp.toNat ∨ 12500 < r.limitDown.toNat ∨ (r.stationPresent ≠ 0 ∧ r.stationPresent ≠ 1) ∨
  (r.stationPresent = 1 ∧
    (r.stationId.toNat < 1 ∨ 250 < r.stationId.toNat ∨ (r.sides ≠ 1 ∧ r.sides ≠ 2 ∧ r.sides ≠ 3) ∨
     (r.releaseOrigin ≠ 1 ∧ r.releaseOrigin ≠ 2)))

/-- The segment `r` at index `i` of a load fails a check of R44. -/
def FailsAt (announced : Nat) (segs : List SegmentRecord) (i : Nat) (r : SegmentRecord) : ProfileFault → Prop
  | .fieldRange => FieldsOutOfRange r
  | .firstStart => i = 0 ∧ r.start ≠ 0
  | .startOrder => ∃ q, 0 < i ∧ segs[i - 1]? = some q ∧ r.start.toNat ≤ q.start.toNat
  | .startBeyond => announced ≤ r.start.toNat
  | .rackSequence =>
    r.track = some .rack ∧ (i = 0 ∨ ∃ q, segs[i - 1]? = some q ∧ q.track = some .adhesion)
  | .entrySequence =>
    r.track = some .rackEntry ∧ (i = 0 ∨ ∃ q, segs[i - 1]? = some q ∧ q.track ≠ some .adhesion)
  | .stationDuplicate =>
    r.isPlatform = true ∧ ∃ j q, j < i ∧ segs[j]? = some q ∧ q.isPlatform = true ∧ q.stationId = r.stationId
  | .incomplete => False
  | .header => False

theorem track_eq_none_iff (r : SegmentRecord) : r.track = none ↔ r.kind ≠ 1 ∧ r.kind ≠ 2 ∧ r.kind ≠ 3 := by
  unfold SegmentRecord.track TrackKind.ofCode
  repeat' split
  all_goals simp_all

theorem fieldOutOfRange_iff (r : SegmentRecord) : fieldOutOfRange r = true ↔ FieldsOutOfRange r := by
  have hid : r.stationId = 0 ↔ r.stationId.toNat < 1 := by bv_omega
  simp only [fieldOutOfRange, FieldsOutOfRange, Bool.or_eq_true, Bool.and_eq_true,
    Bool.not_eq_true', Bool.or_eq_false_iff, beq_iff_eq, beq_eq_false_iff_ne, decide_eq_true_eq,
    Option.isNone_iff_eq_none, track_eq_none_iff, hid, ne_eq, or_assoc, and_assoc]
  rfl

/-- The segment before index `i` is the last of those at lower indexes. -/
theorem getLast?_take_of_getElem? {segs : List SegmentRecord} {i : Nat} {r : SegmentRecord} (h : segs[i]? = some r) :
    (segs.take i).getLast? = if i = 0 then none else segs[i - 1]? := by
  obtain ⟨hi, -⟩ := List.getElem?_eq_some_iff.1 h
  rw [List.getLast?_take]
  split
  · rfl
  · rw [List.getElem?_eq_getElem (show i - 1 < segs.length by omega)]; rfl

/-- A condition on every segment just before index `i` holds at index 0, and else of the one before. -/
theorem previous_all_iff {segs : List SegmentRecord} {i : Nat} {r : SegmentRecord} (h : segs[i]? = some r)
    (p : SegmentRecord → Bool) :
    ((segs.take i).getLast?.all p) = true ↔ i = 0 ∨ ∃ q, segs[i - 1]? = some q ∧ p q = true := by
  obtain ⟨hi, -⟩ := List.getElem?_eq_some_iff.1 h
  rw [getLast?_take_of_getElem? h]
  by_cases h0 : i = 0
  · simp [h0]
  · simp [h0, List.getElem?_eq_getElem (show i - 1 < segs.length by omega)]

theorem failsCheck_take_iff {segs : List SegmentRecord} {i : Nat} {r : SegmentRecord} (h : segs[i]? = some r)
    (announced : Nat) (f : ProfileFault) :
    failsCheck announced (segs.take i) r f = true ↔ FailsAt announced segs i r f := by
  cases f with
  | fieldRange => exact fieldOutOfRange_iff r
  | firstStart =>
    have hfirst : (segs.take i).getLast?.isNone = true ↔ i = 0 := by
      obtain ⟨hi, -⟩ := List.getElem?_eq_some_iff.1 h
      simp only [Option.isNone_iff_eq_none, List.getLast?_eq_none_iff, List.take_eq_nil_iff]
      refine or_iff_left fun hnil => ?_
      simp [hnil] at hi
    simp [failsCheck, FailsAt, hfirst]
  | startOrder =>
    simp only [failsCheck, FailsAt, getLast?_take_of_getElem? h, Option.any_eq_true, decide_eq_true_eq]
    by_cases h0 : i = 0
    · simp [h0]
    · simp [h0, Nat.pos_of_ne_zero h0, BitVec.le_def]
  | startBeyond => simp [failsCheck, FailsAt]
  | rackSequence => simp [failsCheck, FailsAt, previous_all_iff h]
  | entrySequence => simp [failsCheck, FailsAt, previous_all_iff h]
  | stationDuplicate =>
    simp only [failsCheck, FailsAt, Bool.and_eq_true, List.any_eq_true, beq_iff_eq]
    refine and_congr_right fun _ => ⟨?_, ?_⟩
    · rintro ⟨q, hq, hplatform, hid⟩
      obtain ⟨j, hj, rfl⟩ := List.mem_take_iff_getElem.1 hq
      exact ⟨j, _, by omega, List.getElem?_eq_getElem _, hplatform, hid⟩
    · rintro ⟨j, q, hj, hq, hplatform, hid⟩
      obtain ⟨hlt, rfl⟩ := List.getElem?_eq_some_iff.1 hq
      exact ⟨_, List.mem_take_iff_getElem.2 ⟨j, by omega, rfl⟩, hplatform, hid⟩
  | incomplete | header => simp [failsCheck, FailsAt]

/-! ### A whole load -/

/-- No fault is found exactly when no segment has one. -/
theorem firstFault_eq_none_iff {announced : Nat} {before rest : List SegmentRecord} :
    firstFault announced before rest = none ↔
      ∀ i r, rest[i]? = some r → segmentFault announced (before ++ rest.take i) r = none := by
  induction rest generalizing before with
  | nil => simp [firstFault]
  | cons q rest ih =>
    have hcons : (∀ i r, (q :: rest)[i]? = some r →
          segmentFault announced (before ++ (q :: rest).take i) r = none) ↔
        segmentFault announced before q = none ∧
          ∀ i r, rest[i]? = some r → segmentFault announced (before ++ [q] ++ rest.take i) r = none := by
      refine ⟨fun h => ⟨by simpa using h 0 q rfl, fun i r hr => by simpa using h (i + 1) r hr⟩,
        fun ⟨hq, h⟩ i r hr => ?_⟩
      cases i with
      | zero => obtain rfl : q = r := by simpa using hr
                simpa using hq
      | succ i => simpa using h i r hr
    rw [hcons, firstFault, ← ih]
    cases segmentFault announced before q <;> simp

/-- The fault found is that of a segment, and no segment at a lower index has one. -/
theorem firstFault_eq_some {announced : Nat} {before rest : List SegmentRecord} {k : Nat} {f : ProfileFault}
    (h : firstFault announced before rest = some (k, f)) :
    ∃ i r, k = before.length + i ∧ rest[i]? = some r ∧ segmentFault announced (before ++ rest.take i) r = some f ∧
      ∀ j q, j < i → rest[j]? = some q → segmentFault announced (before ++ rest.take j) q = none := by
  induction rest generalizing before with
  | nil => cases h
  | cons q rest ih =>
    rw [firstFault] at h
    cases hq : segmentFault announced before q with
    | some g =>
      rw [hq] at h
      obtain ⟨rfl, rfl⟩ : before.length = k ∧ g = f := by simpa using h
      exact ⟨0, q, rfl, rfl, by simpa using hq, by simp⟩
    | none =>
      rw [hq] at h
      obtain ⟨i, r, hk, hr, hf, hlower⟩ := ih h
      refine ⟨i + 1, r, by simp at hk; omega, hr, by simpa using hf, fun j p hj hp => ?_⟩
      cases j with
      | zero => obtain rfl : q = p := by simpa using hp
                simpa using hq
      | succ j => simpa using hlower j p (by omega) hp

/-- Every segment of a load passes each check of R44. -/
theorem firstFault_none_iff_passes {announced : Nat} {segs : List SegmentRecord} :
    firstFault announced [] segs = none ↔
      ∀ i r, segs[i]? = some r → ∀ f, ¬FailsAt announced segs i r f := by
  rw [firstFault_eq_none_iff]
  refine forall₃_congr fun i r hr => ?_
  simp [segmentFault_eq_none_iff, ← failsCheck_take_iff hr]

/-- The segment of a load that fails first, and the check that it fails first. -/
theorem firstFault_some_fails {announced : Nat} {segs : List SegmentRecord} {i : Nat} {f : ProfileFault}
    (h : firstFault announced [] segs = some (i, f)) :
    (∀ j r, j < i → segs[j]? = some r → ∀ g, ¬FailsAt announced segs j r g) ∧
    ∃ r, segs[i]? = some r ∧ FailsAt announced segs i r f ∧
      ∀ g : ProfileFault, g.code.toNat < f.code.toNat → ¬FailsAt announced segs i r g := by
  obtain ⟨k, r, hk, hr, hf, hlower⟩ := firstFault_eq_some h
  obtain rfl : i = k := by simpa using hk
  obtain ⟨hfails, hfirst⟩ := segmentFault_eq_some hf
  refine ⟨fun j q hj hq g => ?_, r, hr, (failsCheck_take_iff hr _ _).1 hfails, fun g hg => ?_⟩
  · rw [← failsCheck_take_iff hq]
    simpa using segmentFault_eq_none_iff.1 (hlower j q hj hq) g
  · rw [← failsCheck_take_iff hr]
    simpa using hfirst g hg

/-- The end of a load leaves segments, counts and length. -/
@[simp] theorem endLoad_keeps (p : LineProfile) :
    (endLoad p).segments = p.segments ∧ (endLoad p).announcedCount = p.announcedCount ∧
    (endLoad p).receivedCount = p.receivedCount ∧ (endLoad p).announcedLength = p.announcedLength := by
  unfold endLoad
  split <;> exact ⟨rfl, rfl, rfl, rfl⟩

/-- A load ends VALID with every check passed and no segment missing, or INVALID with its first failure (R43, R44). -/
theorem endLoad_outcome (p : LineProfile) :
    ((endLoad p).status = .valid ∧ (endLoad p).failure = none ∧
      (∀ i r, p.segments[i]? = some r → ∀ f, ¬FailsAt p.announcedLength p.segments i r f) ∧
      p.announcedCount ≤ p.receivedCount) ∨
    ∃ i f, (endLoad p).status = .invalid ∧ (endLoad p).failure = some (i, f) ∧
      (∀ j r, j < i → p.segments[j]? = some r → ∀ g, ¬FailsAt p.announcedLength p.segments j r g) ∧
      if f = .incomplete then
        i = p.receivedCount ∧ p.receivedCount < p.announcedCount ∧
        ∀ j r, p.segments[j]? = some r → ∀ g, ¬FailsAt p.announcedLength p.segments j r g
      else
        ∃ r, p.segments[i]? = some r ∧ FailsAt p.announcedLength p.segments i r f ∧
          ∀ g : ProfileFault, g.code.toNat < f.code.toNat → ¬FailsAt p.announcedLength p.segments i r g := by
  cases hfault : firstFault p.announcedLength [] p.segments with
  | some x =>
    obtain ⟨i, f⟩ := x
    obtain ⟨hlower, r, hr, hfails, hfirst⟩ := firstFault_some_fails hfault
    have hcheck : f ≠ .incomplete := by rintro rfl; exact hfails
    refine .inr ⟨i, f, by simp [endLoad, validate, hfault], by simp [endLoad, validate, hfault], hlower, ?_⟩
    rw [if_neg hcheck]
    exact ⟨r, hr, hfails, hfirst⟩
  | none =>
    have hpass := firstFault_none_iff_passes.1 hfault
    by_cases hmissing : p.receivedCount < p.announcedCount
    · refine .inr ⟨p.receivedCount, .incomplete, by simp [endLoad, validate, hfault, hmissing],
        by simp [endLoad, validate, hfault, hmissing], fun j r _ => hpass j r, ?_⟩
      rw [if_pos rfl]
      exact ⟨rfl, hmissing, hpass⟩
    · exact .inl ⟨by simp [endLoad, validate, hfault, hmissing], by simp [endLoad, validate, hfault, hmissing],
        hpass, by omega⟩

end Sys2Proof.Machine
end

section
/-! PROOF. Chapter 3: the profile requests, judged in order (R40 to R45). -/

namespace Sys2Proof.Machine

/-- The common checks of the profile requests in the words of R40: two refusals, and what a request makes of the rest. -/
theorem profileCheck_elim (s : State) (x : Reply × State) :
    (profileCheck s).elim x (refused · s) =
      if s.sld.status = .loading ∨ s.sld.status = .saving then (refuse .refusedBusy, s)
      else if s.cmc.mode = .service ∨ s.cmc.mode = .shunt then (refuse .refusedMode, s)
      else x := by
  simp only [profileCheck, Bool.or_eq_true, loading_iff, saving_iff, mode_supervised_iff]
  split
  · rfl
  · split <;> rfl

theorem profileValid_iff (s : State) : s.profileValid = true ↔ s.lps.status = .valid := by simp [State.profileValid]

/-! ### PROFILE_BEGIN (R41, R45) -/

/-- The judgement of PROFILE_BEGIN in the words of R40 and R41. -/
theorem judgeProfileBegin_eq (count length : Nat) (s : State) :
    judgeProfileBegin count length s =
      if s.sld.status = .loading ∨ s.sld.status = .saving then (refuse .refusedBusy, s)
      else if s.cmc.mode = .service ∨ s.cmc.mode = .shunt then (refuse .refusedMode, s)
      else if count < 1 ∨ 512 < count ∨ length < 1000000 ∨ 40000000 < length then (refuse .refusedRange, s)
      else
        ({ code := .done, body := octets2 count ++ octets4 length },
          if s.lps.status = .valid then profileLost (beginLoad count length s) else beginLoad count length s) := by
  have hrange : (count < 1 ∨ 512 < count ∨ length < 1000000 ∨ 40000000 < length) ↔
      ¬(countAllowed count = true ∧ lengthAllowed length = true) := by
    simp only [countAllowed, lengthAllowed, Bool.and_eq_true, decide_eq_true_eq]
    omega
  rw [← profileCheck_elim]
  unfold judgeProfileBegin
  cases profileCheck s with
  | some r => rfl
  | none =>
    simp only [Option.elim_none, hrange, profileValid_iff, refused]
    cases countAllowed count <;> cases lengthAllowed length <;> rfl

/-- What ODO and SSV make of a profile that leaves VALID: the estimate is discarded (R21, R25, R45, R98). -/
theorem profileLost_eq (s : State) :
    (profileLost s).odo =
      { s.odo with status := .unknown, degradedReason := none, estimate := none, watch := s.odo.watch.disarm } ∧
    (profileLost s).ssv = { s.ssv with blankets := { s.ssv.blankets with position := true } } := by
  simp [profileLost, discardEstimate, setStatus, putBlanket, BlanketSet.put]

/-- A profile that leaves VALID removes no latch cause. -/
theorem profileLost_latch_has {s : State} {c : LatchCause} (h : s.brc.latch.has c = true) :
    (profileLost s).brc.latch.has c = true :=
  drcEvent_latch_has (.judge (discardEstimate s)) (by simpa using h)

/-- A taken PROFILE_BEGIN on a VALID profile: the load record starts afresh and ODO loses its estimate (R41, R45). -/
theorem request_profileBegin_valid {s : State} (hr : s.resetting = false) {count length : Nat} {r : Reply}
    (hj : judgeProfileBegin count length s = (r, profileLost (beginLoad count length s))) :
    let t := request 0x20 (judgeProfileBegin count length) s
    t.lps = (beginLoad count length s).lps ∧
    t.odo = { s.odo with
      status := .unknown, degradedReason := none, estimate := none, watch := s.odo.watch.disarm } ∧
    t.ssv = { s.ssv with blankets := { s.ssv.blankets with position := true } } ∧
    (∀ c, s.brc.latch.has c = true → t.brc.latch.has c = true) ∧
    t.cmc = s.cmc ∧ t.rtb = s.rtb ∧ t.sld = s.sld ∧ t.pending = s.pending := by
  obtain ⟨bcmc, bodo, blps, brtb, bssv, bbrc, -, -, bsld, bpending⟩ :=
    request_blocks hr 0x20 (judgeProfileBegin count length)
  rw [hj] at bcmc bodo blps brtb bssv bbrc bsld bpending
  obtain ⟨kcmc, klps, krtb, ksld, kpending⟩ := profileLost_keeps (beginLoad count length s)
  obtain ⟨kodo, kssv⟩ := profileLost_eq (beginLoad count length s)
  refine ⟨blps.trans klps, bodo.trans kodo, bssv.trans kssv, fun c hc => ?_, bcmc.trans kcmc, brtb.trans krtb,
    bsld.trans ksld, bpending.trans kpending⟩
  rw [bbrc]
  exact profileLost_latch_has (s := beginLoad count length s) hc

/-! ### PROFILE_SEGMENT (R42) -/

/-- The judgement of PROFILE_SEGMENT in the words of R40 and R42. -/
theorem judgeProfileSegment_eq (index : Nat) (r : SegmentRecord) (s : State) :
    judgeProfileSegment index r s =
      if s.sld.status = .loading ∨ s.sld.status = .saving then (refuse .refusedBusy, s)
      else if s.cmc.mode = .service ∨ s.cmc.mode = .shunt then (refuse .refusedMode, s)
      else if s.lps.status ≠ .loading then (refuseDetail 0x08, s)
      else if index ≠ s.lps.receivedCount ∨ s.lps.announcedCount ≤ s.lps.receivedCount then (refuse .refusedRange, s)
      else ({ code := .done, body := octets2 (s.lps.receivedCount + 1) }, storeSegment r s) := by
  rw [← profileCheck_elim]
  unfold judgeProfileSegment
  cases profileCheck s <;> rfl

/-- PROFILE_SEGMENT: each refusal is an answer alone, and a taken record joins at the next index (R42). -/
theorem profileSegment_judged (s : State) (index : Half) (r : SegmentRecord) (hr : s.resetting = false) :
    exec (.profileSegment index r) s = .next
      (if s.sld.status = .loading ∨ s.sld.status = .saving then
        answered s 0x21 (refuse .refusedBusy)
      else if s.cmc.mode = .service ∨ s.cmc.mode = .shunt then
        answered s 0x21 (refuse .refusedMode)
      else if s.lps.status ≠ .loading then answered s 0x21 (refuseDetail 0x08)
      else if index.toNat ≠ s.lps.receivedCount ∨ s.lps.announcedCount ≤ s.lps.receivedCount then
        answered s 0x21 (refuse .refusedRange)
      else
        { s with
          lps.segments := s.lps.segments ++ [r], lps.receivedCount := s.lps.receivedCount + 1,
          hlp.sdo := [], hlp.slot := answer s 0x21 { code := .done, body := octets2 (s.lps.receivedCount + 1) } }) := by
  change Host.Outcome.next (request 0x21 (judgeProfileSegment index.toNat r) s) = _
  rw [request_eq _ _ s hr, judgeProfileSegment_eq]
  congr 1
  repeat' split
  all_goals rfl

/-- Settles O14: the checks of R40 and R41, and of R40 and R42, one by one; each refusal is an answer alone. -/
theorem profileLoadJudgedInOrder : Obligations.ProfileLoadJudgedInOrder := by
  refine ⟨fun s count length hr => ?_, profileSegment_judged⟩
  refine ⟨request 0x20 (judgeProfileBegin count.toNat length.toNat) s, rfl, ?_⟩
  have hj := judgeProfileBegin_eq count.toNat length.toNat s
  by_cases hbusy : s.sld.status = .loading ∨ s.sld.status = .saving
  · rw [if_pos hbusy] at hj ⊢; exact request_answered hr _ hj
  rw [if_neg hbusy] at hj ⊢
  by_cases hmode : s.cmc.mode = .service ∨ s.cmc.mode = .shunt
  · rw [if_pos hmode] at hj ⊢; exact request_answered hr _ hj
  rw [if_neg hmode] at hj ⊢
  by_cases hrange : count.toNat < 1 ∨ 512 < count.toNat ∨ length.toNat < 1000000 ∨ 40000000 < length.toNat
  · rw [if_pos hrange] at hj ⊢; exact request_answered hr _ hj
  rw [if_neg hrange] at hj ⊢
  refine ⟨request_slot_of hr _ hj, ?_⟩
  by_cases hvalid : s.lps.status = .valid
  · rw [if_pos hvalid] at hj
    obtain ⟨tlps, todo, tssv, tlatch, tcmc, trtb, tsld, tpending⟩ := request_profileBegin_valid hr hj
    refine ⟨tlps, fun _ => ⟨?_, ?_, ?_⟩, fun hnot => absurd hvalid hnot, tcmc, trtb, tlatch, tsld, tpending⟩
    · rw [todo]
    · rw [todo]
      cases s.odo.watch <;> rfl
    · rw [tssv]
  · rw [if_neg hvalid] at hj
    rw [request_eq _ _ s hr, hj]
    exact ⟨rfl, fun h => absurd h hvalid, fun _ => rfl, rfl, rfl, fun _ h => h, rfl, rfl⟩

/-! ### PROFILE_END (R43, R44) -/

/-- The judgement of PROFILE_END in the words of R40 and R43. -/
theorem judgeProfileEnd_eq (s : State) :
    judgeProfileEnd s =
      if s.sld.status = .loading ∨ s.sld.status = .saving then (refuse .refusedBusy, s)
      else if s.cmc.mode = .service ∨ s.cmc.mode = .shunt then (refuse .refusedMode, s)
      else if s.lps.status ≠ .loading then (refuseDetail 0x08, s)
      else
        ({ code := .done, body := [(endLoad s.lps).status.code] ++ failureOctets (endLoad s.lps).failure },
          finishLoad s) := by
  rw [← profileCheck_elim]
  unfold judgeProfileEnd
  cases profileCheck s <;> rfl

/-- The end of a load leaves LPS as its validation makes it (R43). -/
@[simp] theorem finishLoad_lps (s : State) : (finishLoad s).lps = endLoad s.lps := by
  unfold finishLoad
  dsimp only
  split <;> simp

/-- Settles O15: each refusal is an answer alone, and a load ends as `endLoad_outcome` says. -/
theorem profileEndValidates : Obligations.ProfileEndValidates := by
  intro s hr segs outOfRange fails passes
  refine ⟨request 0x22 judgeProfileEnd s, rfl, ?_⟩
  have hj := judgeProfileEnd_eq s
  by_cases hbusy : s.sld.status = .loading ∨ s.sld.status = .saving
  · rw [if_pos hbusy] at hj ⊢; exact request_answered hr _ hj
  rw [if_neg hbusy] at hj ⊢
  by_cases hmode : s.cmc.mode = .service ∨ s.cmc.mode = .shunt
  · rw [if_pos hmode] at hj ⊢; exact request_answered hr _ hj
  rw [if_neg hmode] at hj ⊢
  by_cases hload : s.lps.status ≠ .loading
  · rw [if_pos hload] at hj ⊢; exact request_answered hr _ hj
  rw [if_neg hload] at hj ⊢
  obtain ⟨bcmc, bodo, blps, brtb, bssv, -, -, -, bsld, bpending⟩ := request_blocks hr 0x22 judgeProfileEnd
  rw [hj] at bcmc bodo blps brtb bssv bsld bpending
  obtain ⟨kcmc, kodo, krtb, kssv, ksld, kpending⟩ := finishLoad_keeps s
  obtain ⟨hsegments, hannounced, hreceived, hlength⟩ := endLoad_keeps s.lps
  have hslot := request_slot_of hr 0x22 hj
  have hlps : (request 0x22 judgeProfileEnd s).lps = endLoad s.lps := blps.trans (finishLoad_lps s)
  rw [hlps]
  refine ⟨?_, hsegments, hannounced, hreceived, hlength, bcmc.trans kcmc, bodo.trans kodo, brtb.trans krtb,
    bssv.trans kssv, bsld.trans ksld, bpending.trans kpending⟩
  rcases endLoad_outcome s.lps with ⟨hstatus, hfailure, hpass, hall⟩ | ⟨i, f, hstatus, hfailure, hlower, hfirst⟩
  · rw [hstatus, hfailure] at hslot
    exact .inl ⟨hstatus, hfailure, hpass, hall, hslot⟩
  · rw [hstatus, hfailure] at hslot
    exact .inr ⟨i, f, hstatus, hfailure, hlower, hfirst, hslot⟩

end Sys2Proof.Machine
end

section
/-! PROOF. Chapter 12: the start-up load of stored settings and the save (R49, R200 to R202). -/

namespace Sys2Proof.Machine

/-! ### Octets and values of an image (R200, R201) -/

/-- One octet of the memory, FFh where it has none. -/
theorem readOctets_one (image : List Byte) (i : Nat) : readOctets image i 1 = [(image[i]?).getD 0xFF] := by
  unfold readOctets
  cases h : image[i]? with
  | none =>
    rw [List.drop_eq_nil_of_le (List.getElem?_eq_none_iff.1 h)]; rfl
  | some o =>
    obtain ⟨hi, rfl⟩ := List.getElem?_eq_some_iff.1 h
    rw [List.drop_eq_getElem_cons hi]; rfl

/-- The emergency margin is clamped against the service margin as clamped (R201). -/
theorem loadedValue_emergencyMargin (values : List Nat) :
    loadedValue values 11 = max (max 100 (min (rawValue values 10) 1500) + 1) (min (rawValue values 11) 2000) := by
  simp only [loadedValue, if_neg (show ¬(11 : Nat) = 10 by decide), if_pos, clampTo, emergencyMarginRange]

/-- The clamp mark is SET exactly when a loaded value differs from the stored one (R201). -/
theorem anyClamped_iff (values : List Nat) :
    anyClamped values = true ↔
      ∃ n ∈ List.range 53, 1 ≤ n ∧ paramValue (loadedParams values) n ≠ rawValue values n := by
  simp only [anyClamped, List.any_eq_true, List.mem_range, bne_iff_ne]
  constructor
  · rintro ⟨i, hi, h⟩
    exact ⟨i + 1, by omega, by omega, by rwa [paramValue_loadedParams _ (by omega) (by omega)]⟩
  · rintro ⟨n, hn, h1, h⟩
    rw [paramValue_loadedParams _ h1 (by omega)] at h
    exact ⟨n - 1, by omega, by rwa [Nat.sub_add_cancel h1]⟩

/-! ### The profile block handed to LPS (R49) -/

/-- An empty block leaves LPS, a block with a bad header makes it INVALID, and any other block is validated as a load. -/
theorem takeStoredProfile_lps (b : ProfileBlock) (s : State) :
    (b.count = 0 → (takeStoredProfile b s).lps = s.lps) ∧
    (b.count ≠ 0 → 512 < b.count ∨ b.length < 1000000 ∨ 40000000 < b.length →
      (takeStoredProfile b s).lps = { s.lps with status := .invalid, segments := [], failure := some (0, .header) }) ∧
    (1 ≤ b.count → b.count ≤ 512 → 1000000 ≤ b.length → b.length ≤ 40000000 →
      (takeStoredProfile b s).lps = endLoad
        { status := .loading, segments := b.segments, announcedCount := b.count,
          receivedCount := b.segments.length, announcedLength := b.length, failure := none }) := by
  have hheader : (!countAllowed b.count || !lengthAllowed b.length) = true ↔
      ¬(1 ≤ b.count ∧ b.count ≤ 512 ∧ 1000000 ≤ b.length ∧ b.length ≤ 40000000) := by
    simp only [countAllowed, lengthAllowed, Bool.or_eq_true, Bool.not_eq_true', Bool.and_eq_false_iff,
      decide_eq_false_iff_not]
    omega
  unfold takeStoredProfile
  refine ⟨fun h => ?_, fun h hbad => ?_, fun h1 h2 h3 h4 => ?_⟩
  · rw [if_pos h]
  · rw [if_neg h, if_pos (hheader.2 (by omega))]
  · rw [if_neg (by omega), if_neg (mt hheader.1 (not_not_intro ⟨h1, h2, h3, h4⟩)), finishLoad_lps]

theorem finishLoad_slot (s : State) : (finishLoad s).hlp.slot = s.hlp.slot := by
  unfold finishLoad
  dsimp only
  split
  · exact (LinksKept.judgeRelease _).slot
  · rfl

/-- The stored profile changes LPS, and what DRC makes of a VALID one: nothing else of the part. -/
theorem takeStoredProfile_keeps (b : ProfileBlock) (s : State) :
    (takeStoredProfile b s).odo = s.odo ∧ (takeStoredProfile b s).rtb = s.rtb ∧ (takeStoredProfile b s).ssv = s.ssv ∧
    (takeStoredProfile b s).hlp.slot = s.hlp.slot ∧ (takeStoredProfile b s).pending = s.pending := by
  unfold takeStoredProfile
  repeat' split
  all_goals simp [finishLoad_slot]

theorem activate_slot (p : Table Nat 52) (s : State) : (activate p s).hlp.slot = s.hlp.slot := by
  unfold activate
  exact (LinksKept.formDoors _).slot.trans (by simp)

/-! ### A good image (R201) -/

/-- The part with the values of a good image active and the clamp mark set for them, before LPS takes the profile. -/
def valuesLoaded (image : List Byte) (s : State) : State :=
  activate (loadedParams (storedValues image))
    { s with sld.status := .loaded, sld.clampMark := anyClamped (storedValues image) }

theorem loadImage_eq (image : List Byte) (s : State) :
    loadImage image s = takeStoredProfile (storedProfile image) (valuesLoaded image s) := rfl

theorem valuesLoaded_blocks (image : List Byte) (s : State) :
    (valuesLoaded image s).sld = { s.sld with status := .loaded, clampMark := anyClamped (storedValues image) } ∧
    (valuesLoaded image s).cmc = { s.cmc with params := loadedParams (storedValues image) } ∧
    (valuesLoaded image s).lps = s.lps ∧ (valuesLoaded image s).odo = s.odo ∧ (valuesLoaded image s).rtb = s.rtb ∧
    (valuesLoaded image s).ssv = s.ssv ∧ (valuesLoaded image s).hlp.slot = s.hlp.slot ∧
    (valuesLoaded image s).pending = s.pending := by
  simp [valuesLoaded, activate_slot]

/-- The blocks after a good image but for LPS, BRC, DRC and VRL: the values are active, with the clamp mark. -/
theorem loadImage_blocks (image : List Byte) (s : State) :
    (loadImage image s).sld = { s.sld with status := .loaded, clampMark := anyClamped (storedValues image) } ∧
    (loadImage image s).cmc = { s.cmc with params := loadedParams (storedValues image) } ∧
    (loadImage image s).odo = s.odo ∧ (loadImage image s).rtb = s.rtb ∧ (loadImage image s).ssv = s.ssv ∧
    (loadImage image s).hlp.slot = s.hlp.slot ∧ (loadImage image s).pending = s.pending := by
  rw [loadImage_eq]
  obtain ⟨hcmc, hsld⟩ := takeStoredProfile_settings (storedProfile image) (valuesLoaded image s)
  obtain ⟨hodo, hrtb, hssv, hslot, hpending⟩ := takeStoredProfile_keeps (storedProfile image) (valuesLoaded image s)
  obtain ⟨vsld, vcmc, -, vodo, vrtb, vssv, vslot, vpending⟩ := valuesLoaded_blocks image s
  exact ⟨hsld.trans vsld, hcmc.trans vcmc, hodo.trans vodo, hrtb.trans vrtb, hssv.trans vssv, hslot.trans vslot,
    hpending.trans vpending⟩

/-! ### The save (R202) -/

theorem imageToSave_eq (s : State) :
    imageToSave s = imageOctets 0x00 s.cmc.params
      (if s.lps.status = .valid then ⟨s.lps.segments.length, s.lps.announcedLength, s.lps.segments⟩
        else ⟨0, 0, []⟩) := by
  simp only [imageToSave, handedProfile, profileValid_iff]

/-- The judgement of SAVE_SETTINGS in the words of R202. -/
theorem judgeSave_eq (s : State) :
    judgeSave s =
      if s.sld.status = .saving then (refuse .refusedBusy, s)
      else if s.cmc.mode ≠ .preparation then (refuse .refusedMode, s)
      else
        ({ code := .accepted },
          { s with sld := { s.sld with
              status := .saving, saveImage := some (imageToSave s), writes := imageWrites (imageToSave s) } }) := by
  simp only [judgeSave, saving_iff, refused]

theorem saveSettings_judged {s : State} (hr : s.resetting = false) :
    exec .saveSettings s = .next
      (if s.sld.status = .saving then answered s 0x24 (refuse .refusedBusy)
       else if s.cmc.mode ≠ .preparation then answered s 0x24 (refuse .refusedMode)
       else
        { s with
          sld := { s.sld with
            status := .saving, saveImage := some (imageToSave s), writes := imageWrites (imageToSave s) },
          hlp.sdo := [], hlp.slot := answer s 0x24 { code := .accepted } }) := by
  change Host.Outcome.next (request 0x24 judgeSave s) = _
  rw [request_eq _ _ s hr, judgeSave_eq]
  congr 1
  repeat' split
  all_goals rfl

theorem saveEnd_taken (s : State) (readBack : List Byte) (signature : Byte) :
    exec (.saveEnd readBack signature) s = .next
      (if s.sld.status = .saving then
        { s with
          sld := { s.sld with
            status := if s.sld.saveImage = some readBack ∧ signature = 0xC3 then .saved else .writeFailed,
            saveImage := none,
            writes := s.sld.writes ++ (if s.sld.saveImage = some readBack then [(0, 0xC3)] else []) },
          hlp.attention := { s.hlp.attention with settings := true } }
       else s) := by
  change Host.Outcome.next _ = _
  simp only [saving_iff]
  rfl

/-! ### The obligation -/

/-- SETTINGS_LOAD_END during the start-up load, by the signature, the format and the CRC of the image (R201). -/
theorem endStartUpLoad_eq (image : List Byte) (s : State) :
    endStartUpLoad image s =
      if (image[0]?).getD 0xFF ≠ 0xC3 then { s with sld.status := .absent }
      else if (image[1]?).getD 0xFF ≠ 0x01 ∨ imageCrcAgrees image = false then
        { s with sld.status := .corrupt, hlp.attention := { s.hlp.attention with settings := true } }
      else loadImage image s := by
  simp only [endStartUpLoad, readOctets_one, ne_eq, List.cons.injEq, and_true, Bool.not_eq_true']
  rfl

/-- Settles O52: an image is judged as `endStartUpLoad_eq` says, a good one loads as `loadImage_blocks` and `loadImage_lps`
say, and the save is SLD's two events. -/
theorem settingsLoadedAndSaved : Obligations.SettingsLoadedAndSaved := by
  constructor
  · intro s image octet raw margin block
    refine ⟨fun h => congrArg Host.Outcome.next (if_neg (mt (loading_iff s).1 h)),
      fun h => ⟨endStartUpLoad image s, congrArg Host.Outcome.next (if_pos ((loading_iff s).2 h)), ?_⟩⟩
    rw [endStartUpLoad_eq]
    by_cases hsignature : octet 0 ≠ 0xC3
    · rw [if_pos hsignature, if_pos hsignature]
    rw [if_neg hsignature, if_neg hsignature]
    by_cases hbad : octet 1 ≠ 0x01 ∨ imageCrcAgrees image = false
    · rw [if_pos hbad, if_pos hbad]
    rw [if_neg hbad, if_neg hbad]
    obtain ⟨hsld, hcmc, hodo, hrtb, hssv, hslot, hpending⟩ := loadImage_blocks image s
    obtain ⟨hempty, hheader, hload⟩ := takeStoredProfile_lps block (valuesLoaded image s)
    obtain ⟨-, -, hlps, -⟩ := valuesLoaded_blocks image s
    rw [hlps, ← loadImage_eq] at hempty hheader
    have hmark : (loadImage image s).sld.clampMark = anyClamped (storedValues image) := by rw [hsld]
    have hvalue : ∀ n, 1 ≤ n → n ≤ 52 →
        paramValue (loadImage image s).cmc.params n = loadedValue (storedValues image) n := fun n h1 h2 => by
      rw [hcmc]; exact paramValue_loadedParams _ h1 h2
    refine ⟨by rw [hsld], ?_, fun n h1 h2 h11 => ?_, ?_, by rw [hcmc], hempty, hheader,
      hload, hodo, hrtb, hssv, hslot, hpending⟩
    · rw [hmark, hcmc]
      exact anyClamped_iff (storedValues image)
    · rw [hvalue n h1 h2, loadedValue, if_neg h11]; rfl
    · rw [hvalue 11 (by decide) (by decide), loadedValue_emergencyMargin]; rfl
  · intro s readBack signature image
    refine ⟨rfl, fun hr => ?_, saveEnd_taken s readBack signature⟩
    rw [saveSettings_judged hr, imageToSave_eq]
    rfl

end Sys2Proof.Machine
end

section
/-! SUPPORT. One slot of the restriction table at a time: what stands where, what a write to one slot leaves, and how a
change of one record is noted (R51 to R54). -/

namespace Sys2Proof.Machine

/-! ### Finding records and free slots (R51, R56) -/

theorem slotRecord_of_le {s : State} {i : Nat} (h : 32 ≤ i) : slotRecord s i = none := by
  simp [slotRecord, Table.get?, List.getElem?_eq_none (show s.rtb.slots.list.length ≤ i by rw [s.rtb.slots.len]; exact h)]

theorem lt_of_slotRecord {s : State} {i : Nat} {r : Restriction} (h : slotRecord s i = some r) : i < 32 := by
  by_contra hi
  rw [slotRecord_of_le (Nat.le_of_not_lt hi)] at h
  cases h

theorem slotRecord_congr {s t : State} (h : t.rtb.slots = s.rtb.slots) (i : Nat) : slotRecord t i = slotRecord s i := by
  rw [slotRecord, h, slotRecord]

/-- A record that is found has the pair looked for, and stands in its slot. -/
theorem findRecord_some {s : State} {o : Origin} {id i : Nat} {r : Restriction} (h : findRecord s o id = some (i, r)) :
    slotRecord s i = some r ∧ r.origin = o ∧ r.id = id := by
  have hp := List.find?_some h
  simp only [Bool.and_eq_true, beq_iff_eq] at hp
  exact ⟨mem_heldRecords.1 (List.mem_of_find?_eq_some h), hp⟩

/-- No record is found exactly when no slot holds the pair. -/
theorem findRecord_none {s : State} {o : Origin} {id : Nat} :
    findRecord s o id = none ↔ ∀ i r, slotRecord s i = some r → ¬(r.origin = o ∧ r.id = id) := by
  simp only [findRecord, List.find?_eq_none, Prod.forall, mem_heldRecords, Bool.and_eq_true, beq_iff_eq]

/-- A free slot is one of the table, and holds no record (R56). -/
theorem freeSlot_some {s : State} {i : Nat} (h : freeSlot s = some i) : i < 32 ∧ slotRecord s i = none := by
  obtain ⟨hi, hfree, -⟩ := List.findIdx?_eq_some_iff_getElem.1 h
  rw [Option.isNone_iff_eq_none] at hfree
  exact ⟨s.rtb.slots.len ▸ hi, by simp [slotRecord, Table.get?, hi, hfree]⟩

/-! ### A write to one slot -/

theorem slotRecord_putSlot_self {s : State} {i : Nat} (h : i < 32) (o : Option Restriction) :
    slotRecord (putSlot i o s) i = o := by
  simp [slotRecord, putSlot, h]

theorem slotRecord_putSlot_other {s : State} {i j : Nat} (h : j ≠ i) (o : Option Restriction) :
    slotRecord (putSlot i o s) j = slotRecord s j := by
  simp [slotRecord, putSlot, h]

/-- The note of a change raises the change count, and leaves the rest of the table (R51). -/
@[simp] theorem noteChange_rtb (b : Bool) (s : State) :
    (noteChange b s).rtb = { s.rtb with changeCount := s.rtb.changeCount + 1 } := by
  cases b <;> rfl

/-- The note of a change of a DISPATCH record raises RESTRICTION, and touches nothing else of HLP (R54). -/
@[simp] theorem noteChange_hlp (b : Bool) (s : State) :
    (noteChange b s).hlp =
      { s.hlp with attention := if b then { s.hlp.attention with restriction := true } else s.hlp.attention } := by
  cases b <;> rfl

@[simp] theorem slotRecord_noteChange (b : Bool) (s : State) (i : Nat) :
    slotRecord (noteChange b s) i = slotRecord s i :=
  slotRecord_congr (by simp) i

end Sys2Proof.Machine
end

section
/-! The law of the restriction table (R51, R52): each pair in one slot, and each record as R52 says. -/

namespace Sys2Proof.Machine

/-! ### The law slot by slot -/

/-- Each record held is listed once, with its slot. -/
theorem heldFrom_nodup (i : Nat) (l : List (Option Restriction)) : (heldFrom i l).Nodup := by
  induction l generalizing i with
  | nil => exact List.nodup_nil
  | cons x rest ih =>
    cases x with
    | none => exact ih (i + 1)
    | some r =>
      refine List.nodup_cons.2 ⟨fun hmem => ?_, ih (i + 1)⟩
      obtain ⟨n, hn, -⟩ := mem_heldFrom.1 hmem
      omega

/-- The law of the table said slot by slot (R51, R52). -/
theorem tableLaw_iff (s : State) :
    TableLaw s ↔
      (∀ i j r q, slotRecord s i = some r → slotRecord s j = some q → r.origin = q.origin → r.id = q.id → i = j) ∧
      ∀ i r, slotRecord s i = some r → RecordLaw r := by
  unfold TableLaw
  refine and_congr ?_ (by simp only [Prod.forall, mem_heldRecords])
  rw [List.nodup_map_iff_inj_on (show (heldRecords s).Nodup from heldFrom_nodup 0 _)]
  simp only [Prod.forall, mem_heldRecords, Prod.mk.injEq]
  constructor
  · intro h i j r q hr hq ho hid
    exact (h i r hr j q hq ⟨ho, hid⟩).1
  · rintro h i r hr j q hq ⟨ho, hid⟩
    obtain rfl := h i j r q hr hq ho hid
    exact ⟨rfl, Option.some.inj (hr.symm.trans hq)⟩

namespace TableLaw

theorem of_slots {s t : State} (h : TableLaw s) (hs : t.rtb.slots = s.rtb.slots) : TableLaw t := by
  simpa only [tableLaw_iff, slotRecord_congr hs] using h

theorem of_rtb {s t : State} (h : TableLaw s) (hs : t.rtb = s.rtb) : TableLaw t := h.of_slots (by rw [hs])

theorem record {s : State} (h : TableLaw s) {i : Nat} {r : Restriction} (hr : slotRecord s i = some r) : RecordLaw r :=
  ((tableLaw_iff s).1 h).2 i r hr

/-- An empty table is lawful. -/
theorem of_empty {s : State} (h : s.rtb.slots = Table.replicate 32 none) : TableLaw s := by
  have hnone : ∀ i, slotRecord s i = none := fun i => by
    rw [slotRecord, h, Table.get?, Table.replicate, List.getElem?_replicate]
    split <;> rfl
  rw [tableLaw_iff]
  simp [hnone]

/-- A write to one slot keeps the law when the record written is lawful and no other slot has its pair (R51). -/
theorem putSlot {s : State} (h : TableLaw s) {i : Nat} {o : Option Restriction} (hlaw : ∀ r ∈ o, RecordLaw r)
    (hpair : ∀ r ∈ o, ∀ j q, slotRecord s j = some q → q.origin = r.origin → q.id = r.id → j = i) :
    TableLaw (putSlot i o s) := by
  rcases Nat.lt_or_ge i 32 with hi | hi
  case inr =>
    refine h.of_slots (table_ext ?_)
    exact List.set_eq_of_length_le (by rw [s.rtb.slots.len]; exact hi)
  obtain ⟨hone, hrec⟩ := (tableLaw_iff s).1 h
  have hslot : ∀ {j r}, slotRecord (Machine.putSlot i o s) j = some r →
      (j = i ∧ o = some r) ∨ (j ≠ i ∧ slotRecord s j = some r) := by
    intro j r hj
    by_cases hji : j = i
    · subst hji; rw [slotRecord_putSlot_self hi] at hj; exact .inl ⟨rfl, hj⟩
    · rw [slotRecord_putSlot_other hji] at hj; exact .inr ⟨hji, hj⟩
  refine (tableLaw_iff _).2 ⟨fun j k r q hj hk ho hid => ?_, fun j r hj => ?_⟩
  · rcases hslot hj with ⟨rfl, hr⟩ | ⟨hji, hr⟩
    · rcases hslot hk with ⟨rfl, -⟩ | ⟨-, hq⟩
      · rfl
      · exact (hpair r hr k q hq ho.symm hid.symm).symm
    · rcases hslot hk with ⟨rfl, hq⟩ | ⟨-, hq⟩
      · exact hpair q hq j r hr ho hid
      · exact hone j k r q hr hq ho hid
  · rcases hslot hj with ⟨-, hr⟩ | ⟨-, hr⟩
    · exact hlaw r hr
    · exact hrec j r hr

/-- The record of a slot gives way to one with the same pair, or to none. -/
theorem replace {s : State} (h : TableLaw s) {i : Nat} {old : Restriction} (hold : slotRecord s i = some old)
    {o : Option Restriction} (ho : ∀ r ∈ o, RecordLaw r ∧ r.origin = old.origin ∧ r.id = old.id) :
    TableLaw (Machine.putSlot i o s) := by
  refine h.putSlot (fun r hr => (ho r hr).1) fun r hr j q hq horigin hid => ?_
  obtain ⟨-, ho, hi⟩ := ho r hr
  exact ((tableLaw_iff s).1 h).1 j i q old hq hold (horigin.trans ho) (hid.trans hi)

/-- A record with a new pair enters a slot. -/
theorem storeNew {s : State} (h : TableLaw s) (i : Nat) {r : Restriction} (hr : RecordLaw r)
    (hnew : findRecord s r.origin r.id = none) : TableLaw (Machine.putSlot i (some r) s) := by
  refine h.putSlot (fun q hq => Option.some.inj hq ▸ hr) fun q hq j p hp ho hid => ?_
  obtain rfl := Option.some.inj hq
  exact absurd ⟨ho, hid⟩ (findRecord_none.1 hnew j p hp)

theorem noteChange {s : State} (h : TableLaw s) (b : Bool) : TableLaw (noteChange b s) := h.of_slots (by simp)

/-- A change of several records keeps the law when it keeps each record's pair and law. -/
theorem changeRecords {s : State} (h : TableLaw s) (c : Restriction → Bool) {f : Restriction → Option Restriction}
    (hf : ∀ r, RecordLaw r → ∀ q ∈ f r, RecordLaw q ∧ q.origin = r.origin ∧ q.id = r.id) :
    TableLaw (changeRecords c f s) := by
  obtain ⟨hone, hrec⟩ := (tableLaw_iff s).1 h
  refine (tableLaw_iff _).2 ⟨fun i j r q hr hq ho hid => ?_, fun i r hr => ?_⟩
  · rw [changeRecords_slotRecord, Option.bind_eq_some_iff] at hr hq
    obtain ⟨r', hr', hfr⟩ := hr
    obtain ⟨q', hq', hfq⟩ := hq
    obtain ⟨-, hro, hri⟩ := hf r' (hrec i r' hr') r hfr
    obtain ⟨-, hqo, hqi⟩ := hf q' (hrec j q' hq') q hfq
    exact hone i j r' q' hr' hq' (by rw [← hro, ho, hqo]) (by rw [← hri, hid, hqi])
  · rw [changeRecords_slotRecord, Option.bind_eq_some_iff] at hr
    obtain ⟨r', hr', hfr⟩ := hr
    exact (hf r' (hrec i r' hr') r hfr).1

end TableLaw

/-! ### The law of one record through its changes (R56 to R60) -/

/-- The merge of two trailing parts is a zone when the first is one (R58). -/
theorem mergeTrailing_zone {t : TrailingPart} {o : Option TrailingPart} (h : t.zoneStart < t.zoneEnd) :
    (mergeTrailing t o).zoneStart < (mergeTrailing t o).zoneEnd := by
  cases o with
  | none => exact h
  | some u => exact lt_of_le_of_lt (Nat.min_le_left _ _) (lt_of_lt_of_le h (Nat.le_max_left _ _))

/-- What R52 asks of the parts and the life of a record. -/
def PartsLaw (inForce : Option InForcePart) (trailing : Option TrailingPart) (life : Option Nat) : Prop :=
  (inForce.isSome || trailing.isSome) = true ∧ (∀ p ∈ inForce, p.zoneStart < p.zoneEnd) ∧
  (∀ p ∈ trailing, p.zoneStart < p.zoneEnd) ∧ ∀ l ∈ life, 1 ≤ l ∧ inForce.isSome = true

theorem RecordLaw.parts {r : Restriction} (h : RecordLaw r) : PartsLaw r.inForce r.trailing r.life := h.2.2.2

/-- A record with the pair of a lawful one, a sequence exactly when that has one, and lawful parts is lawful. -/
theorem RecordLaw.with_parts {r c : Restriction} (h : RecordLaw r) (ho : c.origin = r.origin) (hid : c.id = r.id)
    (hseq : c.sequence.isSome = r.sequence.isSome) (hparts : PartsLaw c.inForce c.trailing c.life) : RecordLaw c := by
  obtain ⟨h1, h2, h3, -⟩ := h
  exact ⟨by rwa [hid], by rwa [hid, ho], by rwa [hseq, ho], hparts⟩

/-- The part an admission or an amendment takes: its start below its end, and its life at least 1 (R62, R68). -/
def NewPart.Lawful (p : NewPart) : Prop := p.zoneStart < p.zoneEnd ∧ ∀ l ∈ p.life, 1 ≤ l

theorem NewPart.Lawful.parts {p : NewPart} (h : p.Lawful) {trailing : Option TrailingPart}
    (ht : ∀ q ∈ trailing, q.zoneStart < q.zoneEnd) : PartsLaw (some p.inForce) trailing p.life :=
  ⟨rfl, fun _ hq => Option.some.inj hq ▸ h.1, ht, fun l hl => ⟨h.2 l hl, rfl⟩⟩

/-- An admitted record is as R52 says (R56). -/
theorem recordLaw_admitted {o : Origin} {id : Nat} {sequence : Option Byte} {p : NewPart} (h1 : 1 ≤ id)
    (h2 : id ≤ (match o with | .dispatch => 4095 | .cab => 255)) (hs : sequence.isSome = (o == .dispatch))
    (hp : p.Lawful) : RecordLaw (admitted o id sequence p) :=
  ⟨h1, h2, hs, hp.parts fun _ hq => by cases hq⟩

theorem amendedTrailing_zone {s : State} {r : Restriction} {p : NewPart} (h : RecordLaw r) :
    ∀ q ∈ amendedTrailing s r p, q.zoneStart < q.zoneEnd := by
  obtain ⟨-, hforce, htrailing, -⟩ := h.parts
  intro q hq
  unfold amendedTrailing at hq
  split at hq
  · exact htrailing q hq
  · rename_i old hold
    split at hq
    · exact htrailing q hq
    · cases hq
      exact mergeTrailing_zone (hforce old hold)

/-- An amendment keeps the law of the record (R57). -/
theorem RecordLaw.amended {r : Restriction} (h : RecordLaw r) (s : State) {sequence : Option Byte} {p : NewPart}
    (hs : sequence.isSome = r.sequence.isSome) (hp : p.Lawful) : RecordLaw (amended s r sequence p) :=
  h.with_parts rfl rfl hs (hp.parts (amendedTrailing_zone h))

/-- A revocation keeps the law of the record, where it leaves the record at all, and its pair (R59). -/
theorem RecordLaw.revoked {r : Restriction} (h : RecordLaw r) (s : State) :
    ∀ c ∈ revoked s r, RecordLaw c ∧ c.origin = r.origin ∧ c.id = r.id := by
  obtain ⟨hany, hforce, htrailing, -⟩ := h.parts
  have hkept : ∀ {trailing : Option TrailingPart}, trailing.isSome = true →
      (∀ q ∈ trailing, q.zoneStart < q.zoneEnd) → PartsLaw none trailing none :=
    fun hsome hzone => ⟨by simpa using hsome, by simp, hzone, by simp⟩
  intro c hc
  unfold Machine.revoked at hc
  split at hc
  · rename_i hnone
    cases hc
    refine ⟨h.with_parts rfl rfl rfl ?_, rfl, rfl⟩
    rw [hnone] at hany ⊢
    exact hkept (by simpa using hany) htrailing
  · rename_i old hold
    split at hc
    · split at hc
      · rename_i hsome
        cases hc
        exact ⟨h.with_parts rfl rfl rfl (hkept hsome htrailing), rfl, rfl⟩
      · cases hc
    · cases hc
      refine ⟨h.with_parts rfl rfl rfl (hkept rfl fun q hq => ?_), rfl, rfl⟩
      cases hq
      exact mergeTrailing_zone (hforce old hold)

/-- A tick keeps the law of the record, where it leaves the record at all (R59). -/
theorem RecordLaw.ticked {r : Restriction} (h : RecordLaw r) (s : State) :
    ∀ c ∈ tickedRecord s r, RecordLaw c ∧ c.origin = r.origin ∧ c.id = r.id := by
  intro c hc
  unfold tickedRecord at hc
  split at hc
  · exact h.revoked s c hc
  · rename_i hlives
    cases hc
    obtain ⟨hany, hforce, htrailing, hlife⟩ := h.parts
    refine ⟨h.with_parts rfl rfl rfl ⟨hany, hforce, htrailing, fun l hl => ?_⟩, rfl, rfl⟩
    obtain ⟨l', hl', rfl⟩ := Option.map_eq_some_iff.1 hl
    have hlong : ¬l' ≤ 1 := by simpa [expiresNow, hl'] using hlives
    exact ⟨by omega, (hlife l' hl').2⟩

/-- The clearance check keeps the law of the record, where it leaves the record at all (R60). -/
theorem RecordLaw.cleared {r : Restriction} (h : RecordLaw r) (s : State) :
    ∀ c ∈ clearedRecord s r, RecordLaw c ∧ c.origin = r.origin ∧ c.id = r.id := by
  intro c hc
  unfold clearedRecord at hc
  split at hc
  · split at hc
    · rename_i hforce
      cases hc
      obtain ⟨-, hzone, -, hlife⟩ := h.parts
      exact ⟨h.with_parts rfl rfl rfl ⟨by simp [hforce], hzone, by simp, hlife⟩, rfl, rfl⟩
    · cases hc
  · cases hc
    exact ⟨h, rfl, rfl⟩

end Sys2Proof.Machine
end

section
/-! SUPPORT. Which commands leave the restriction table alone: all but fourteen. -/

namespace Sys2Proof.Machine

/-- A request does not touch RTB when its owner does not. -/
theorem request_rtb (q : Byte) {owner : State → Reply × State} {s : State} (h : (owner s).2.rtb = s.rtb) :
    (request q owner s).rtb = s.rtb := by
  unfold request
  split
  · rfl
  · exact h

/-- An event that takes one of two operations. -/
theorem ite_rtb (p : Prop) [Decidable p] {s t u : State} (ht : t.rtb = s.rtb) (hu : u.rtb = s.rtb) :
    (if p then t else u).rtb = s.rtb := by
  split
  · exact ht
  · exact hu

/-! ### Events of DRC -/

theorem lineEvent_rtb (d : Drive) (level : DoorInputs → DoorInputs) {f : Leaf → State → State}
    (h : ∀ l s, (f l s).rtb = s.rtb) (s : State) : (lineEvent d level f s).rtb = s.rtb := by
  refine drcEvent_rtb _ (fun s => ?_) s
  dsimp only
  split
  · rfl
  · exact h _ _

theorem timerEvent_rtb (d : Drive) {f : Leaf → State → State} (h : ∀ l s, (f l s).rtb = s.rtb) (s : State) :
    (timerEvent d f s).rtb = s.rtb := by
  unfold timerEvent
  split
  · rfl
  · exact ite_rtb _ (drcEvent_rtb _ (h _) s) rfl

theorem openLeaves_rtb (ds : List Drive) (s : State) : (ds.foldl (fun s d => openLeaf d s) s).rtb = s.rtb :=
  foldl_keeps (·.rtb) (fun s d => by simp) ds s

theorem openSwitchMade_rtb (d : Drive) (l : Leaf) (s : State) : (openSwitchMade d l s).rtb = s.rtb := by
  unfold openSwitchMade
  split <;> simp

theorem closedSwitchChanged_rtb (d : Drive) (made : Bool) (l : Leaf) (s : State) :
    (closedSwitchChanged d made l s).rtb = s.rtb := by
  unfold closedSwitchChanged
  split
  · exact ite_rtb _ (by simp) rfl
  · exact ite_rtb _ rfl (by simp)
  · rfl

theorem lockSwitchChanged_rtb (d : Drive) (confirms : Bool) (l : Leaf) (s : State) :
    (lockSwitchChanged d confirms l s).rtb = s.rtb := by
  unfold lockSwitchChanged
  split
  · exact ite_rtb _ (by simp) rfl
  · exact ite_rtb _ (by simp) (by simp)
  · rfl

theorem pressButton_rtb (d : Drive) (l : Leaf) (s : State) : (pressButton d l s).rtb = s.rtb :=
  ite_rtb _ (ite_rtb _ (openLeaves_rtb _ s) (by simp)) rfl

/-! ### The owners of the requests -/

theorem judgeRelease148_rtb (side : Byte) (s : State) : (judgeRelease148 side s).2.rtb = s.rtb := by
  unfold judgeRelease148
  repeat' split
  all_goals simp [refused, drcEvent_rtb]

theorem judgeWithdraw_rtb (s : State) : (judgeWithdraw s).2.rtb = s.rtb :=
  ite_rtb _ (drcEvent_rtb _ (fun s => by simp) s) rfl

theorem judgeOpenSide_rtb (side : Byte) (s : State) : (judgeOpenSide side s).2.rtb = s.rtb := by
  unfold judgeOpenSide
  repeat' split
  · rfl
  · exact drcEvent_rtb _ (fun s => openLeaves_rtb _ s) s
  · rfl

theorem judgeCloseSide_rtb (side : Byte) (s : State) : (judgeCloseSide side s).2.rtb = s.rtb := by
  unfold judgeCloseSide
  split
  · rfl
  · exact drcEvent_rtb _ (fun s => by simp) s

theorem judgeForceClose_rtb (drive : Byte) (s : State) : (judgeForceClose drive s).2.rtb = s.rtb := by
  unfold judgeForceClose
  repeat' split
  all_goals simp [refused, drcEvent_rtb]

theorem judgeIsolate_rtb (drive : Byte) (s : State) : (judgeIsolate drive s).2.rtb = s.rtb := by
  unfold judgeIsolate
  repeat' split
  all_goals simp [refused, drcEvent_rtb]

theorem judgeRestore_rtb (drive : Byte) (s : State) : (judgeRestore drive s).2.rtb = s.rtb := by
  unfold judgeRestore
  repeat' split
  all_goals simp [refused, drcEvent_rtb]

theorem judgeSetPosition_rtb (p u : Nat) (s : State) : (judgeSetPosition p u s).2.rtb = s.rtb := by
  unfold judgeSetPosition
  repeat' split
  all_goals simp [refused]

theorem judgeSetMode_rtb (code : Byte) (s : State) : (judgeSetMode code s).2.rtb = s.rtb := by
  unfold judgeSetMode
  repeat' split
  all_goals simp [refused]

theorem judgeSetDirection_rtb (code : Byte) (s : State) : (judgeSetDirection code s).2.rtb = s.rtb := by
  unfold judgeSetDirection
  repeat' split
  all_goals simp [refused]

theorem judgeSetParameter_rtb (n v : Nat) (s : State) : (judgeSetParameter n v s).2.rtb = s.rtb := by
  unfold judgeSetParameter
  dsimp only
  repeat' split
  all_goals simp [refused]

theorem judgeResetEmergency_rtb (s : State) : (judgeResetEmergency s).2.rtb = s.rtb := by
  unfold judgeResetEmergency
  repeat' split
  all_goals simp [refused]

theorem judgeDriverBrake_rtb (level : Half) (s : State) : (judgeDriverBrake level s).2.rtb = s.rtb := by
  unfold judgeDriverBrake
  split
  · rfl
  · simp

theorem judgeHoldRequest_rtb (value : Byte) (s : State) : (judgeHoldRequest value s).2.rtb = s.rtb := by
  unfold judgeHoldRequest
  repeat' split
  all_goals simp [refused]

theorem judgeStartTest_rtb (s : State) : (judgeStartTest s).2.rtb = s.rtb := by
  unfold judgeStartTest
  repeat' split
  all_goals simp [refused]

theorem judgeProfileBegin_rtb (count length : Nat) (s : State) : (judgeProfileBegin count length s).2.rtb = s.rtb := by
  unfold judgeProfileBegin
  repeat' split
  all_goals simp [refused]

theorem judgeProfileSegment_rtb (index : Nat) (r : SegmentRecord) (s : State) :
    (judgeProfileSegment index r s).2.rtb = s.rtb := by
  unfold judgeProfileSegment
  repeat' split
  all_goals simp [refused]

theorem judgeProfileEnd_rtb (s : State) : (judgeProfileEnd s).2.rtb = s.rtb := by
  unfold judgeProfileEnd
  repeat' split
  all_goals simp [refused]

theorem judgeSave_rtb (s : State) : (judgeSave s).2.rtb = s.rtb := by
  unfold judgeSave
  repeat' split
  all_goals rfl

theorem judgeReadRestriction_rtb (slot : Byte) (s : State) : (judgeReadRestriction slot s).2.rtb = s.rtb := by
  unfold judgeReadRestriction
  split <;> rfl

theorem judgeFindRestriction_rtb (origin : Byte) (id : Half) (s : State) :
    (judgeFindRestriction origin id s).2.rtb = s.rtb := by
  unfold judgeFindRestriction
  repeat' split
  all_goals rfl

theorem judgeLookupLimit_rtb (position : Nat) (direction : Byte) (s : State) :
    (judgeLookupLimit position direction s).2.rtb = s.rtb := by
  unfold judgeLookupLimit
  split <;> rfl

theorem judgeReadNotice_rtb (s : State) : (judgeReadNotice s).2.rtb = s.rtb := by
  unfold judgeReadNotice
  split <;> rfl

theorem judgeReadTestResult_rtb (s : State) : (judgeReadTestResult s).2.rtb = s.rtb := by
  unfold judgeReadTestResult
  dsimp only
  split <;> rfl

theorem judgeReadParameter_rtb (n : Nat) (s : State) : (judgeReadParameter n s).2.rtb = s.rtb := by
  unfold judgeReadParameter
  split <;> rfl

/-! ### Power-on, the start-up load, the parts of a LINE_RESET and the events -/

theorem endStartUpLoad_rtb (image : List Byte) (s : State) : (endStartUpLoad image s).rtb = s.rtb := by
  have hprofile : ∀ b x, (takeStoredProfile b x).rtb = x.rtb := fun b x =>
    ite_rtb _ rfl (ite_rtb _ rfl (by simp))
  refine ite_rtb _ rfl (ite_rtb _ rfl ?_)
  rw [loadImage, hprofile]
  simp

theorem afterPart_rtb (p : ResetParts) (s : State) : (afterPart p s).rtb = s.rtb :=
  ite_rtb _ (by simp) rfl

/-- The part of a LINE_RESET of an owner that does not touch RTB. -/
theorem takePart_rtb (outstanding : Bool) (left : ResetParts) {part : State → State} (h : ∀ s, (part s).rtb = s.rtb)
    (s : State) : ∃ t, takePart outstanding left part s = .next t ∧ t.rtb = s.rtb :=
  ⟨_, rfl, ite_rtb _ ((afterPart_rtb _ _).trans (h s)) rfl⟩

theorem execLineReset_rtb (s : State) : ∃ t, execLineReset s = .next t ∧ t.rtb = s.rtb :=
  ⟨_, rfl, ite_rtb _ rfl (ite_rtb _ (by simp) (ite_rtb _ (by simp) (resetModes_keeps s).2.1))⟩

theorem execStandstillExpiry_rtb (s : State) : ∃ t, execStandstillExpiry s = .next t ∧ t.rtb = s.rtb := by
  refine ⟨_, rfl, ?_⟩
  split <;> simp

theorem execFeedbackChange_rtb (f : Feedback) (s : State) :
    ∃ t, execFeedbackChange f s = .next t ∧ t.rtb = s.rtb :=
  ⟨_, rfl, ite_rtb _ (by simp) (by simp)⟩

theorem execCheckTimerExpiry_rtb (c : Channel) (s : State) :
    ∃ t, execCheckTimerExpiry c s = .next t ∧ t.rtb = s.rtb := by
  refine ⟨_, rfl, ?_⟩
  split
  · exact ite_rtb _ (by simp) (by simp)
  · rfl

theorem execStepTimerExpiry_rtb (s : State) : ∃ t, execStepTimerExpiry s = .next t ∧ t.rtb = s.rtb := by
  refine ⟨_, rfl, ?_⟩
  split <;> simp

theorem execIllegalStep_rtb (pair : Pair) (s : State) : ∃ t, execIllegalStep pair s = .next t ∧ t.rtb = s.rtb :=
  ⟨_, rfl, by cases pair <;> rfl⟩

/-- A telegram that RTB does not take leaves the table alone (R169). -/
theorem telegramArrives_rtb (h : Header) {t : Telegram} (b : Bool)
    (ht : ∀ a s, (handTelegram a b t s).rtb = s.rtb) (s : State) : (telegramArrives h t b s).rtb = s.rtb := by
  refine ite_rtb _ rfl ?_
  unfold judgeHeader
  exact ite_rtb _ (by simp) (ite_rtb _ (by simp) ((ht _ _).trans (by simp)))

/-! ### The commands -/

/-- The commands that can change the restriction table. -/
def changesTable : Instr → Bool
  | .powerOn _ => true
  | .hostFrameRejected _ => true
  | .rtbLineReset => true
  | .addRestriction _ => true
  | .amendRestriction _ => true
  | .revokeRestriction _ _ => true
  | .speedUpdate _ => true
  | .secondTick => true
  | .restrictionExpiry _ => true
  | .frameDropped _ => true
  | .restrict _ _ _ => true
  | .revoke _ _ _ => true
  | .syncDone _ _ => true
  | .receivedBit _ => true
  | _ => false

/-- Every other command leaves RTB alone. -/
theorem exec_rtb (c : Instr) (s : State) (hc : changesTable c = false) : ∃ t, exec c s = .next t ∧ t.rtb = s.rtb :=
  match c with
  | .powerOn _ => absurd hc Bool.noConfusion
  | .hostFrameRejected _ => absurd hc Bool.noConfusion
  | .rtbLineReset => absurd hc Bool.noConfusion
  | .addRestriction _ => absurd hc Bool.noConfusion
  | .amendRestriction _ => absurd hc Bool.noConfusion
  | .revokeRestriction _ _ => absurd hc Bool.noConfusion
  | .speedUpdate _ => absurd hc Bool.noConfusion
  | .secondTick => absurd hc Bool.noConfusion
  | .restrictionExpiry _ => absurd hc Bool.noConfusion
  | .frameDropped _ => absurd hc Bool.noConfusion
  | .restrict _ _ _ => absurd hc Bool.noConfusion
  | .revoke _ _ _ => absurd hc Bool.noConfusion
  | .syncDone _ _ => absurd hc Bool.noConfusion
  | .receivedBit _ => absurd hc Bool.noConfusion
  | .settingsLoadEnd image => ⟨_, rfl, ite_rtb _ (endStartUpLoad_rtb image s) rfl⟩
  | .saveEnd _ _ => ⟨_, rfl, ite_rtb _ rfl rfl⟩
  | .readResponse => ⟨_, rfl, rfl⟩
  | .readAttention => ⟨_, rfl, request_rtb _ rfl⟩
  | .setAttentionMask _ => ⟨_, rfl, request_rtb _ rfl⟩
  | .readStatus => ⟨_, rfl, request_rtb _ rfl⟩
  | .readPosition => ⟨_, rfl, request_rtb _ rfl⟩
  | .readRestriction slot => ⟨_, rfl, request_rtb _ (judgeReadRestriction_rtb slot s)⟩
  | .findRestriction origin id => ⟨_, rfl, request_rtb _ (judgeFindRestriction_rtb origin id s)⟩
  | .lookupLimit position direction => ⟨_, rfl, request_rtb _ (judgeLookupLimit_rtb position.toNat direction s)⟩
  | .readDoors => ⟨_, rfl, request_rtb _ rfl⟩
  | .readNotice => ⟨_, rfl, request_rtb _ (judgeReadNotice_rtb s)⟩
  | .readTestResult => ⟨_, rfl, request_rtb _ (judgeReadTestResult_rtb s)⟩
  | .readRadio => ⟨_, rfl, request_rtb _ rfl⟩
  | .readParameter number => ⟨_, rfl, request_rtb _ (judgeReadParameter_rtb number.toNat s)⟩
  | .setMode code => ⟨_, rfl, request_rtb _ (judgeSetMode_rtb code s)⟩
  | .setDirection direction => ⟨_, rfl, request_rtb _ (judgeSetDirection_rtb direction s)⟩
  | .setParameter number value => ⟨_, rfl, request_rtb _ (judgeSetParameter_rtb number.toNat value.toNat s)⟩
  | .setPosition position uncertainty =>
    ⟨_, rfl, request_rtb _ (judgeSetPosition_rtb position.toNat uncertainty.toNat s)⟩
  | .lineReset => execLineReset_rtb s
  | .odoLineReset => takePart_rtb _ _ (fun s => by simp) s
  | .ssvLineReset => takePart_rtb _ _ (fun s => by simp) s
  | .brcLineReset => takePart_rtb _ _ (fun s => by simp) s
  | .drcLineReset => takePart_rtb _ _ (drcEvent_rtb _ fun s => by simp) s
  | .vrlLineReset => takePart_rtb _ _ (fun s => by simp) s
  | .ackIntervention => ⟨_, rfl, request_rtb _ (takeAcknowledgement_keeps s).2.2.2.1⟩
  | .resetEmergency => ⟨_, rfl, request_rtb _ (judgeResetEmergency_rtb s)⟩
  | .triggerEmergency => ⟨_, rfl, request_rtb _ (by simp)⟩
  | .driverBrake level => ⟨_, rfl, request_rtb _ (judgeDriverBrake_rtb level s)⟩
  | .holdRequest value => ⟨_, rfl, request_rtb _ (judgeHoldRequest_rtb value s)⟩
  | .doorCommandRelease side => ⟨_, rfl, request_rtb _ (judgeRelease148_rtb side s)⟩
  | .doorCommandWithdraw _ => ⟨_, rfl, request_rtb _ (judgeWithdraw_rtb s)⟩
  | .openSide side => ⟨_, rfl, request_rtb _ (judgeOpenSide_rtb side s)⟩
  | .closeSide side => ⟨_, rfl, request_rtb _ (judgeCloseSide_rtb side s)⟩
  | .forceClose drive => ⟨_, rfl, request_rtb _ (judgeForceClose_rtb drive s)⟩
  | .isolate drive => ⟨_, rfl, request_rtb _ (judgeIsolate_rtb drive s)⟩
  | .restore drive => ⟨_, rfl, request_rtb _ (judgeRestore_rtb drive s)⟩
  | .unknownDoorCommand _ _ => ⟨_, rfl, request_rtb _ rfl⟩
  | .startBrakeTest => ⟨_, rfl, request_rtb _ (judgeStartTest_rtb s)⟩
  | .abortBrakeTest => ⟨_, rfl, request_rtb _ (by simp)⟩
  | .profileBegin count length => ⟨_, rfl, request_rtb _ (judgeProfileBegin_rtb count.toNat length.toNat s)⟩
  | .profileSegment index segment => ⟨_, rfl, request_rtb _ (judgeProfileSegment_rtb index.toNat segment s)⟩
  | .profileEnd => ⟨_, rfl, request_rtb _ (judgeProfileEnd_rtb s)⟩
  | .saveSettings => ⟨_, rfl, request_rtb _ (judgeSave_rtb s)⟩
  | .clearRadioErrors => ⟨_, rfl, request_rtb _ rfl⟩
  | .pulseCount _ _ => ⟨_, rfl, ite_rtb _ (by simp) (by simp)⟩
  | .illegalStep pair => execIllegalStep_rtb pair s
  | .standstillExpiry => execStandstillExpiry_rtb s
  | .loopChange _ => ⟨_, rfl, by simp⟩
  | .feedbackChange feedback => execFeedbackChange_rtb feedback s
  | .checkTimerExpiry channel => execCheckTimerExpiry_rtb channel s
  | .stepTimerExpiry => execStepTimerExpiry_rtb s
  | .openSwitch d _ => ⟨_, rfl, lineEvent_rtb d _ (fun l s => ite_rtb _ (openSwitchMade_rtb d l s) rfl) s⟩
  | .closedSwitch d made => ⟨_, rfl, lineEvent_rtb d _ (closedSwitchChanged_rtb d made) s⟩
  | .lockSwitch d confirms => ⟨_, rfl, lineEvent_rtb d _ (lockSwitchChanged_rtb d confirms) s⟩
  | .obstruction d _ _ => ⟨_, rfl, lineEvent_rtb d _ (fun _ s => ite_rtb _ (by simp) rfl) s⟩
  | .overcurrent d _ => ⟨_, rfl, lineEvent_rtb d _ (fun _ s => ite_rtb _ (by simp) rfl) s⟩
  | .doorButton d _ => ⟨_, rfl, lineEvent_rtb d _ (fun l s => ite_rtb _ (pressButton_rtb d l s) rfl) s⟩
  | .openTimeout d => ⟨_, rfl, timerEvent_rtb d (fun _ s => ite_rtb _ (by simp) rfl) s⟩
  | .travelLimit d => ⟨_, rfl, timerEvent_rtb d (fun _ s => ite_rtb _ (by simp) rfl) s⟩
  | .lockTimeout d => ⟨_, rfl, timerEvent_rtb d (fun _ s => ite_rtb _ (by simp) rfl) s⟩
  | .autoCloseDwell d => ⟨_, rfl, timerEvent_rtb d (fun _ s => ite_rtb _ (by simp) rfl) s⟩
  | .reverseTime d => ⟨_, rfl, timerEvent_rtb d (fun _ s => by simp) s⟩
  | .reopenDwell d => ⟨_, rfl, timerEvent_rtb d (fun _ s => ite_rtb _ (by simp) rfl) s⟩
  | .holdRetryInterval d => ⟨_, rfl, timerEvent_rtb d (fun _ s => ite_rtb _ (by simp) rfl) s⟩
  | .framing => ⟨_, rfl, ite_rtb _ rfl (by simp)⟩
  | .check => ⟨_, rfl, ite_rtb _ rfl (by simp)⟩
  | .beacon header _ _ => ⟨_, rfl, ite_rtb _ rfl (telegramArrives_rtb header _ (fun a s => by simp [handTelegram]) _)⟩
  | .doorRelease header _ _ => ⟨_, rfl, telegramArrives_rtb header _ (fun a s => by simp [handTelegram]) s⟩
  | .doorWithdraw header _ => ⟨_, rfl, telegramArrives_rtb header _ (fun a s => by simp [handTelegram]) s⟩
  | .poll header => ⟨_, rfl, telegramArrives_rtb header _ (fun a s => by simp [handTelegram]) s⟩
  | .notice header _ _ => ⟨_, rfl, telegramArrives_rtb header _ (fun a s => by simp [handTelegram]) s⟩
  | .ack header _ => ⟨_, rfl, telegramArrives_rtb header _ (fun a s => by simp [handTelegram]) s⟩
  | .silenceExpiry => ⟨_, rfl, ite_rtb _ (by simp) rfl⟩
  | .windowStart _ => ⟨_, rfl, ite_rtb _ (by simp) rfl⟩
  | .transmissionEnd => ⟨_, rfl, ite_rtb _ rfl rfl⟩

end Sys2Proof.Machine
end

section
/-! SUPPORT. The checks of RESTRICT and REVOKE telegrams and of the cab's requests, said once in the words of R62, R63, R67
and R68. -/

namespace Sys2Proof.Machine

/-- A zone clipped to the line, absent where nothing is left of it (R62, R68). -/
theorem clippedZone_eq (s : State) (a b : Nat) :
    clippedZone s a b =
      if min b (lineLength s) ≤ min a (lineLength s) then none
      else some (min a (lineLength s), min b (lineLength s)) := by
  unfold clippedZone
  simp only [← not_le, ite_not]

theorem dispatchId_iff (id : Half) : dispatchId id = false ↔ id.toNat < 1 ∨ 4095 < id.toNat := by
  simp [dispatchId]
  omega

/-- The part a RESTRICT telegram asks for, by the checks of R62. -/
theorem restrictPart_eq (s : State) (f : RestrictFields) :
    restrictPart s f =
      match AppliesTo.ofCode f.appliesTo with
      | none => none
      | some a =>
        if f.id.toNat < 1 ∨ 4095 < f.id.toNat ∨ lifeOf f.lifeFlag f.life = some 0 ∨
            min f.zoneEnd.toNat (lineLength s) ≤ min f.zoneStart.toNat (lineLength s) then none
        else
          some ⟨min f.zoneStart.toNat (lineLength s), min f.zoneEnd.toNat (lineLength s),
            min f.limit.toNat (lineMaximum s.cmc.params), a, lifeOf f.lifeFlag f.life⟩ := by
  unfold restrictPart
  rw [clippedZone_eq]
  cases AppliesTo.ofCode f.appliesTo with
  | none => rfl
  | some a =>
    by_cases hzone : min f.zoneEnd.toNat (lineLength s) ≤ min f.zoneStart.toNat (lineLength s)
    · simp [hzone]
    · by_cases hlife : lifeOf f.lifeFlag f.life = some 0
      · simp [hzone, hlife]
      · by_cases hid : dispatchId f.id = false
        · have hout := (dispatchId_iff f.id).1 hid
          simp only [← or_assoc, hout, true_or, if_true, if_neg hzone, hid, Bool.false_and, Bool.false_eq_true, if_false]
        · have hin := mt (dispatchId_iff f.id).2 hid
          simp only [← or_assoc, hin, hlife, hzone, or_self, if_false]
          simp [Bool.eq_true_of_not_eq_false hid, hlife]

/-- The common checks of R67, in turn. -/
theorem cabCheck_eq (s : State) (origin : Byte) (id : Half) :
    cabCheck s origin id =
      if s.sld.status = .loading then .error (refuse .refusedBusy)
      else if origin = 1 then .error (refuse .refusedNotOwner)
      else if origin ≠ 2 ∨ id.toNat < 1 ∨ 255 < id.toNat then .error (refuse .refusedRange)
      else .ok id.toNat := by
  unfold cabCheck Origin.ofCode
  simp only [loading_iff]
  by_cases hload : s.sld.status = .loading
  · rw [if_pos hload, if_pos hload]
  rw [if_neg hload, if_neg hload]
  by_cases h1 : origin = 1
  · rw [if_pos h1, if_pos h1]
  rw [if_neg h1, if_neg h1]
  by_cases h2 : origin = 2
  · rw [if_pos h2]
    have hid : (origin ≠ 2 ∨ id.toNat < 1 ∨ 255 < id.toNat) ↔ ¬(1 ≤ id.toNat ∧ id.toNat ≤ 255) := by
      simp only [h2, ne_eq, not_true_eq_false, false_or]
      omega
    simp only [hid, ite_not]
  · rw [if_neg h2, if_pos (Or.inl h2)]

/-- The part a cab request asks for, by the checks of R68 on its applies-to and its zone. -/
theorem cabPart_eq (s : State) (q : RestrictionRequest) :
    cabPart s q =
      match AppliesTo.ofCode q.appliesTo with
      | none => none
      | some a =>
        if min q.zoneEnd.toNat (lineLength s) ≤ min q.zoneStart.toNat (lineLength s) then none
        else
          some
            (⟨min q.zoneStart.toNat (lineLength s), min q.zoneEnd.toNat (lineLength s),
              min q.limit.toNat (lineMaximum s.cmc.params), a, clampedLife (lifeOf q.lifeFlag q.life)⟩,
             min q.zoneStart.toNat (lineLength s) != q.zoneStart.toNat ||
               min q.zoneEnd.toNat (lineLength s) != q.zoneEnd.toNat ||
               decide (lineMaximum s.cmc.params < q.limit.toNat) || lifeOf q.lifeFlag q.life == some 0) := by
  unfold cabPart
  rw [clippedZone_eq]
  cases AppliesTo.ofCode q.appliesTo with
  | none => rfl
  | some a =>
    by_cases hzone : min q.zoneEnd.toNat (lineLength s) ≤ min q.zoneStart.toNat (lineLength s)
    · simp only [if_pos hzone]
    · simp only [if_neg hzone]

end Sys2Proof.Machine
end

section
/-! Every step keeps the law of the restriction table (R51, R52): fourteen commands can touch the table, and each keeps it. -/

namespace Sys2Proof.Machine

/-! ### The parts that requests bring -/

/-- The part of a RESTRICT that RTB admits is lawful, and its id is one of DISPATCH (R62). -/
theorem restrictPart_some {s : State} {f : RestrictFields} {p : NewPart} (h : restrictPart s f = some p) :
    p.Lawful ∧ 1 ≤ f.id.toNat ∧ f.id.toNat ≤ 4095 := by
  rw [restrictPart_eq] at h
  split at h
  · cases h
  · split at h
    · cases h
    · rename_i hok
      obtain rfl := Option.some.inj h
      simp only [not_or, Nat.not_lt, Nat.not_le] at hok
      obtain ⟨hid, hid', hlife, hzone⟩ := hok
      refine ⟨⟨hzone, fun l hl => Nat.one_le_iff_ne_zero.2 fun h0 => hlife (h0 ▸ hl)⟩, hid, hid'⟩

/-- The part of a cab request is lawful: a life of 0 is clamped to 1 (R68). -/
theorem cabPart_some {s : State} {q : RestrictionRequest} {p : NewPart} {clamped : Bool}
    (h : cabPart s q = some (p, clamped)) : p.Lawful := by
  rw [cabPart_eq] at h
  split at h
  · cases h
  · split at h
    · cases h
    · rename_i hzone
      cases h
      refine ⟨Nat.lt_of_not_le hzone, fun l hl => ?_⟩
      obtain ⟨l', -, rfl⟩ := Option.map_eq_some_iff.1 hl
      exact Nat.le_max_right _ _

/-- The id that R67 lets pass is one of the cab. -/
theorem cabCheck_ok {s : State} {origin : Byte} {id : Half} {n : Nat} (h : cabCheck s origin id = .ok n) :
    1 ≤ n ∧ n ≤ 255 := by
  rw [cabCheck_eq] at h
  repeat' split at h
  case isFalse.isFalse.isFalse hid =>
    cases h
    omega
  all_goals cases h

/-- Only DISPATCH records have a sequence (R52). -/
theorem RecordLaw.sequence_isSome {r : Restriction} (h : RecordLaw r) : r.sequence.isSome = (r.origin == .dispatch) :=
  h.2.2.1

namespace TableLaw

/-! ### The telegrams (R64 to R66) -/

theorem takeRestrict {s : State} (h : TableLaw s) (f : RestrictFields) : TableLaw (takeRestrict f s).2 := by
  unfold Machine.takeRestrict
  split
  · exact h
  · rename_i p hp
    obtain ⟨hlaw, h1, h2⟩ := restrictPart_some hp
    split
    · rename_i hnew
      split
      · exact (h.storeNew _ (recordLaw_admitted (o := .dispatch) h1 h2 rfl hlaw) hnew).noteChange true
      · exact h.of_slots rfl
    · rename_i i r hfound
      obtain ⟨hslot, horigin, -⟩ := findRecord_some hfound
      have hr := h.record hslot
      split
      · refine (h.replace hslot fun c hc => ?_).noteChange true
        obtain rfl := Option.some.inj hc
        exact ⟨hr.amended s (by rw [hr.sequence_isSome, horigin]; rfl) hlaw, rfl, rfl⟩
      · exact h
      · exact h

theorem takeRevoke {s : State} (h : TableLaw s) (id : Half) (sequence : Byte) : TableLaw (takeRevoke id sequence s).2 := by
  unfold Machine.takeRevoke
  split
  · exact h
  · split
    · exact h
    · rename_i i r hfound
      obtain ⟨hslot, horigin, -⟩ := findRecord_some hfound
      have hr := h.record hslot
      have hnewer : RecordLaw { r with sequence := some sequence } :=
        hr.with_parts rfl rfl (by rw [hr.sequence_isSome, horigin]; rfl) hr.parts
      split
      · exact (h.replace hslot (hnewer.revoked s)).noteChange true
      · exact h
      · exact h

theorem takeRestrictTelegram {s : State} (h : TableLaw s) (f : RestrictFields) (listFirst : Bool) :
    TableLaw (takeRestrictTelegram f listFirst s) := by
  refine (h.takeRestrict f).of_rtb ?_
  unfold Machine.takeRestrictTelegram
  exact ite_rtb _ (ite_rtb _ (by simp) (by simp)) (by simp)

theorem takeSyncDone {s : State} (h : TableLaw s) (a : Byte) : TableLaw (takeSyncDone a s) := by
  unfold Machine.takeSyncDone
  split
  · exact h.of_slots (by simp [enterJoined, clearOverflow])
  · exact h

theorem throughGate {s : State} (h : TableLaw s) {take : State → State} (ht : TableLaw (take s)) :
    TableLaw (throughGate take s) := by
  unfold Machine.throughGate
  split
  · exact ht
  · exact h.of_rtb rfl

theorem handTelegram {s : State} (h : TableLaw s) (source : Byte) (listFirst : Bool) (t : Telegram) :
    TableLaw (handTelegram source listFirst t s) := by
  cases t with
  | restrict f => exact h.throughGate (h.takeRestrictTelegram f listFirst)
  | revoke id q => exact h.throughGate ((h.takeRevoke id q).of_rtb (by simp [takeRevokeTelegram]))
  | syncDone a => exact h.takeSyncDone a
  | _ => exact h.of_rtb (by simp [Machine.handTelegram])

theorem judgeHeader {s : State} (h : TableLaw s) (x : Header) (t : Option Telegram) (listFirst : Bool) :
    TableLaw (judgeHeader x t listFirst s) := by
  unfold Machine.judgeHeader
  split
  · exact h.of_rtb (by simp)
  · split
    · exact h.of_rtb (by simp)
    · split
      · exact h.of_rtb (by simp)
      · exact (h.of_rtb (noteValid_keeps _ _ s).2.2.2.1).handTelegram _ _ _

theorem telegramArrives {s : State} (h : TableLaw s) (x : Header) (t : Telegram) (listFirst : Bool) :
    TableLaw (telegramArrives x t listFirst s) := by
  unfold Machine.telegramArrives
  split
  · exact h
  · exact (h.of_rtb rfl : TableLaw { s with vrl.receiver := emptySearch }).judgeHeader _ _ _

/-! ### Frames that arrive dropped or bit by bit (R165, R166, R168) -/

theorem judgeFrame {s : State} (h : TableLaw s) (f : Frame) : TableLaw (judgeFrame f s) := by
  unfold Machine.judgeFrame
  split
  · exact h.of_rtb (by simp)
  · exact h.judgeHeader _ _ _

theorem completeFrame {s : State} (h : TableLaw s) (length : Byte) (octets : List Byte) (crc : Half) :
    TableLaw (completeFrame length octets crc s) := by
  unfold Machine.completeFrame
  split
  · split
    · exact (h.of_rtb rfl : TableLaw { s with vrl.receiver := emptySearch }).judgeFrame _
    · exact h.of_rtb rfl
  · exact h.of_rtb (by simp)

theorem takeBit {s : State} (h : TableLaw s) (bit : Bool) : TableLaw (takeBit bit s) := by
  unfold Machine.takeBit
  dsimp only
  split
  · exact h.of_rtb rfl
  · exact h.of_rtb (ite_rtb _ rfl (ite_rtb _ rfl (by simp)))
  · exact h.of_rtb (ite_rtb _ rfl (ite_rtb _ rfl rfl))
  · split
    · exact h.of_rtb rfl
    · split
      · exact h.of_rtb rfl
      · exact h.completeFrame _ _ _

/-! ### The cab's requests (R67 to R70) -/

theorem request {s : State} (h : TableLaw s) (q : Byte) {owner : State → Reply × State} (ho : TableLaw (owner s).2) :
    TableLaw (request q owner s) := by
  unfold Machine.request
  split
  · exact h.of_rtb rfl
  · exact ho.of_rtb rfl

theorem judgeAdd {s : State} (h : TableLaw s) (q : RestrictionRequest) : TableLaw (judgeAdd q s).2 := by
  unfold Machine.judgeAdd
  split
  · exact h
  · rename_i id hid
    obtain ⟨h1, h2⟩ := cabCheck_ok hid
    split
    · exact h
    · rename_i hnew
      split
      · exact h
      · rename_i p clamped hp
        split
        · exact h
        · have hfree : findRecord s .cab id = none := by simpa using hnew
          exact (h.storeNew _ (recordLaw_admitted (o := .cab) h1 h2 rfl (cabPart_some hp)) hfree).noteChange false

theorem judgeAmend {s : State} (h : TableLaw s) (q : RestrictionRequest) : TableLaw (judgeAmend q s).2 := by
  unfold Machine.judgeAmend
  split
  · exact h
  · split
    · exact h
    · rename_i i old hfound
      obtain ⟨hslot, horigin, -⟩ := findRecord_some hfound
      have hr := h.record hslot
      split
      · exact h
      · rename_i p clamped hp
        refine (h.replace hslot fun c hc => ?_).noteChange false
        obtain rfl := Option.some.inj hc
        exact ⟨hr.amended s (by rw [hr.sequence_isSome, horigin]; rfl) (cabPart_some hp), rfl, rfl⟩

theorem judgeRevoke {s : State} (h : TableLaw s) (origin : Byte) (id : Half) : TableLaw (judgeRevoke origin id s).2 := by
  unfold Machine.judgeRevoke
  split
  · exact h
  · split
    · exact h
    · rename_i i old hfound
      have hslot := (findRecord_some hfound).1
      exact (h.replace hslot ((h.record hslot).revoked s)).noteChange false

/-! ### Ticks, expiries and speed updates (R59, R60) -/

theorem tickSecond {s : State} (h : TableLaw s) : TableLaw (tickSecond s) :=
  (h.of_slots rfl : TableLaw { s with rtb.secondLeft := 1000 }).changeRecords _ fun _ hr => hr.ticked s

theorem expireSlot {s : State} (h : TableLaw s) (i : Nat) : TableLaw (expireSlot i s) := by
  unfold Machine.expireSlot
  split
  · exact h
  · rename_i r hslot
    split
    · exact (h.replace hslot ((h.record hslot).revoked s)).noteChange _
    · exact h

theorem checkClearance {s : State} (h : TableLaw s) : TableLaw (checkClearance s) :=
  h.changeRecords _ fun _ hr => hr.cleared s

theorem takeUpdate {s : State} (h : TableLaw s) (rtbFirst : Bool) : TableLaw (takeUpdate rtbFirst s) := by
  have hclosed : TableLaw (closeWindow s) := h.of_rtb (by simp)
  unfold Machine.takeUpdate
  split
  · exact hclosed.checkClearance.of_rtb (by simp)
  · exact (hclosed.of_rtb (by simp) : TableLaw (superviseUpdate (closeWindow s))).checkClearance

theorem resetTable (s : State) : TableLaw (resetTable s) := by
  have hempty : TableLaw (emptyTable s) := .of_empty rfl
  unfold Machine.resetTable
  dsimp only
  split
  · exact hempty.of_rtb (by simp)
  · exact hempty

theorem execRtbLineReset {s : State} (h : TableLaw s) : ∃ t, execRtbLineReset s = .next t ∧ TableLaw t := by
  refine ⟨_, rfl, ?_⟩
  split
  · exact (TableLaw.resetTable s).of_rtb (afterPart_rtb _ _)
  · exact h

/-! ### Every command, every step -/

theorem exec_of_direct {s : State} (h : TableLaw s) (c : Instr) (hc : ∀ octets, c ≠ .hostFrameRejected octets) :
    ∃ t, exec c s = .next t ∧ TableLaw t := by
  by_cases hch : changesTable c = false
  · obtain ⟨t, ht, hk⟩ := exec_rtb c s hch
    exact ⟨t, ht, h.of_rtb hk⟩
  · cases c with
    | powerOn pins => exact ⟨_, rfl, .of_empty (by rw [start_only_vrl]; rfl)⟩
    | hostFrameRejected octets => exact absurd rfl (hc octets)
    | rtbLineReset => exact h.execRtbLineReset
    | addRestriction q => exact ⟨_, rfl, h.request _ (h.judgeAdd q)⟩
    | amendRestriction q => exact ⟨_, rfl, h.request _ (h.judgeAmend q)⟩
    | revokeRestriction origin id => exact ⟨_, rfl, h.request _ (h.judgeRevoke origin id)⟩
    | speedUpdate rtbFirst => exact ⟨_, exec_speedUpdate rtbFirst s, h.takeUpdate rtbFirst⟩
    | secondTick => exact ⟨_, rfl, h.tickSecond⟩
    | restrictionExpiry slot => exact ⟨_, rfl, h.expireSlot slot.val⟩
    | frameDropped f =>
      refine ⟨_, rfl, ?_⟩
      split
      · exact h
      · exact (h.of_rtb rfl : TableLaw { s with vrl.receiver := emptySearch, vrl.chBusy := f.busy }).judgeFrame _
    | restrict x f listFirst => exact ⟨_, rfl, h.telegramArrives x (.restrict f) listFirst⟩
    | revoke x id sequence => exact ⟨_, rfl, h.telegramArrives x (.revoke id sequence) false⟩
    | syncDone x a => exact ⟨_, rfl, h.telegramArrives x (.syncDone a) false⟩
    | receivedBit bit =>
      refine ⟨_, rfl, ?_⟩
      split
      · exact h
      · exact (h.of_rtb rfl : TableLaw { s with vrl.chBusy := bit.busy }).takeBit _
    | _ => exact absurd rfl hch

theorem exec {s : State} (h : TableLaw s) (c : Instr) : ∃ t, exec c s = .next t ∧ TableLaw t := by
  by_cases hc : ∀ octets, c ≠ .hostFrameRejected octets
  · exact h.exec_of_direct c hc
  · push Not at hc
    obtain ⟨octets, rfl⟩ := hc
    change ∃ t, execHostFrameRejected octets s = .next t ∧ TableLaw t
    unfold execHostFrameRejected
    split
    · exact ⟨_, rfl, h.of_rtb rfl⟩
    · exact ⟨_, rfl, h.request _ h⟩
    · rename_i c _
      rcases takeRequest_cases c s with hr | ⟨hr, hne⟩
      · exact ⟨s, hr, h⟩
      · rw [hr]; exact h.exec_of_direct c hne

end TableLaw

/-- Settles O57: fourteen commands can touch the table, and each keeps the law; every other command, and the passing of a
millisecond, leaves the slots alone. -/
theorem everyStepKeepsTableLaw : Obligations.EveryStepKeepsTableLaw := by
  intro s t h hstep
  rcases step_cases s with ⟨c, rest, hc⟩ | htick
  · obtain ⟨u, hu, hlaw⟩ := (h.of_rtb rfl : TableLaw { s with pending := rest }).exec c
    rw [hc, hu] at hstep
    cases hstep
    exact hlaw
  · rw [htick] at hstep
    cases hstep
    exact h.of_slots rfl

end Sys2Proof.Machine
end

section
/-! Chapter 4: amendment, revocation and the merge of trailing parts, and that none of them releases what the car may still
stand on (R55, R57 to R59). -/

namespace Sys2Proof.Machine

/-! ### The merge of two trailing parts (R58) -/

@[simp] theorem AppliesTo.includes_union (a b : AppliesTo) (w : Way) :
    (a.union b).includes w = (a.includes w || b.includes w) := by
  cases a <;> cases b <;> cases w <;> rfl

/-- A trailing part holds the car to a limit at a place, in a direction (R52, R71). -/
def TrailingPart.Holds (q : TrailingPart) (x : Nat) (w : Way) (limit : Nat) : Prop :=
  q.zoneStart ≤ x ∧ x < q.zoneEnd ∧ q.limit ≤ limit ∧ q.appliesTo.includes w = true

theorem TrailingPart.Holds.merged {t : TrailingPart} {x : Nat} {w : Way} {limit : Nat} (h : t.Holds x w limit)
    (o : Option TrailingPart) : (mergeTrailing t o).Holds x w limit := by
  cases o with
  | none => exact h
  | some u =>
    obtain ⟨hstart, hend, hlimit, hway⟩ := h
    exact ⟨Nat.le_trans (Nat.min_le_left _ _) hstart, Nat.lt_of_lt_of_le hend (Nat.le_max_left _ _),
      Nat.le_trans (Nat.min_le_left _ _) hlimit, by simp [mergeTrailing, hway]⟩

theorem TrailingPart.Holds.merged_into {u : TrailingPart} {x : Nat} {w : Way} {limit : Nat} (h : u.Holds x w limit)
    (t : TrailingPart) : (mergeTrailing t (some u)).Holds x w limit := by
  obtain ⟨hstart, hend, hlimit, hway⟩ := h
  exact ⟨Nat.le_trans (Nat.min_le_right _ _) hstart, Nat.lt_of_lt_of_le hend (Nat.le_max_right _ _),
    Nat.le_trans (Nat.min_le_right _ _) hlimit, by simp [mergeTrailing, hway]⟩

/-! ### Amendment (R57) -/

/-- Case 2 of R57: the new part covers the old one. -/
theorem covers_iff (p : NewPart) (a : AppliesTo) (old : InForcePart) :
    p.covers a old = true ↔
      p.zoneStart ≤ old.zoneStart ∧ old.zoneEnd ≤ p.zoneEnd ∧ p.limit ≤ old.limit ∧
      ∀ w, a.includes w = true → p.appliesTo.includes w = true := by
  have hways : (∀ w, a.includes w = true → p.appliesTo.includes w = true) ↔
      (a.includes .up = true → p.appliesTo.includes .up = true) ∧
      (a.includes .down = true → p.appliesTo.includes .down = true) :=
    ⟨fun h => ⟨h .up, h .down⟩, fun ⟨hup, hdown⟩ w => by cases w <;> assumption⟩
  simp only [NewPart.covers, hways, Bool.and_eq_true, decide_eq_true_eq, Bool.or_eq_true, Bool.not_eq_true', and_assoc,
    ← Bool.not_eq_true, ← imp_iff_not_or]

/-- The trailing part after an amendment, in the cases of R57. -/
theorem amendedTrailing_of_inForce {s : State} {r : Restriction} {p : NewPart} {old : InForcePart}
    (h : r.inForce = some old) :
    amendedTrailing s r p =
      if p.covers r.appliesTo old = true ∨ clearOf s old.zoneStart old.zoneEnd = true then r.trailing
      else some (mergeTrailing (asTrailing r.appliesTo old) r.trailing) := by
  simp only [amendedTrailing, h, Bool.or_eq_true]

theorem amendedTrailing_of_none {s : State} {r : Restriction} {p : NewPart} (h : r.inForce = none) :
    amendedTrailing s r p = r.trailing := by
  simp only [amendedTrailing, h]

/-- The state of an amended record: RELAXING while it has a trailing part, ACTIVE otherwise (R53). -/
theorem amended_state (s : State) (r : Restriction) (sequence : Option Byte) (p : NewPart) :
    (amended s r sequence p).state =
      if (amended s r sequence p).trailing = none then .active else .relaxing := by
  unfold Restriction.state
  rw [show (amended s r sequence p).inForce = some p.inForce from rfl]
  cases (amended s r sequence p).trailing <;> rfl

/-! ### Revocation (R59) -/

theorem revoked_of_none {s : State} {r : Restriction} (h : r.inForce = none) : revoked s r = some { r with life := none } := by
  simp only [revoked, h]

/-- A revocation of a record in force: retired or left to its trailing part when the car is clear of its zone, otherwise
trailing with its zone (R59). -/
theorem revoked_of_inForce {s : State} {r : Restriction} {old : InForcePart} (h : r.inForce = some old) :
    revoked s r =
      if clearOf s old.zoneStart old.zoneEnd = true then
        if r.trailing = none then none else some { r with inForce := none, life := none }
      else
        some { r with
          inForce := none, life := none,
          trailing := some (mergeTrailing (asTrailing r.appliesTo old) r.trailing) } := by
  simp only [revoked, h, Option.isSome_iff_ne_none, ne_eq, ite_not]

/-! ### Nothing uncleared is released -/

/-- The old in-force part of a record as the trailing part it becomes holds what it held (R57, R59). -/
theorem asTrailing_holds {a : AppliesTo} {old : InForcePart} {x : Nat} {w : Way} (h1 : old.zoneStart ≤ x)
    (h2 : x < old.zoneEnd) (hw : a.includes w = true) : (asTrailing a old).Holds x w old.limit :=
  ⟨h1, h2, Nat.le_refl _, hw⟩

/-- What a trailing part held, some trailing part of the record holds after an amendment (R57). -/
theorem amendedTrailing_holds {s : State} {r : Restriction} {p : NewPart} {old : TrailingPart}
    (h : r.trailing = some old) {x : Nat} {w : Way} {limit : Nat} (hold : old.Holds x w limit) :
    ∃ q, amendedTrailing s r p = some q ∧ q.Holds x w limit := by
  cases hforce : r.inForce with
  | none => exact ⟨old, by rw [amendedTrailing_of_none hforce, h], hold⟩
  | some old' =>
    rw [amendedTrailing_of_inForce hforce, h]
    split
    · exact ⟨old, rfl, hold⟩
    · exact ⟨_, rfl, hold.merged_into _⟩

/-- What a trailing part held, some trailing part of the record holds after a revocation (R59). -/
theorem revoked_holds_trailing (s : State) {r : Restriction} {old : TrailingPart}
    (h : r.trailing = some old) {x : Nat} {w : Way} {limit : Nat} (hold : old.Holds x w limit) :
    ∃ c, revoked s r = some c ∧ ∃ q, c.trailing = some q ∧ q.Holds x w limit := by
  cases hforce : r.inForce with
  | none => exact ⟨_, revoked_of_none hforce, old, h, hold⟩
  | some old' =>
    rw [revoked_of_inForce hforce, h]
    split
    · exact ⟨_, rfl, old, rfl, hold⟩
    · exact ⟨_, rfl, _, rfl, hold.merged_into _⟩

/-- Settles O16, clause by clause; the last one by the merge of R58, which holds what either of its two parts held. -/
theorem amendmentAndRevocation : Obligations.AmendmentAndRevocation := by
  refine ⟨clearOf_iff, fun a b => ⟨rfl, rfl, rfl, AppliesTo.includes_union _ _, rfl⟩, ?_, ?_, ?_⟩
  · intro s r sequence p
    refine ⟨rfl, rfl, rfl, rfl, rfl, rfl, fun h => ?_, fun h => ?_, amendedTrailing_of_none, fun old hold => ?_⟩
    · rw [amended_state, if_pos h]
    · rw [amended_state, if_neg h]
    · simp only [← covers_iff]
      exact ⟨fun h => (amendedTrailing_of_inForce hold).trans (if_pos h),
        fun hcovers hclear => (amendedTrailing_of_inForce hold).trans (if_neg (not_or.2 ⟨hcovers, hclear⟩))⟩
  · exact fun s r => ⟨revoked_of_none, fun old => revoked_of_inForce⟩
  · intro s r sequence p x w
    refine ⟨fun old hold hclear h1 h2 hw => ⟨?_, ?_⟩, fun old hold h1 h2 hw => ⟨.inr ?_, ?_⟩⟩
    · by_cases hcovers : p.covers r.appliesTo old = true
      · obtain ⟨hstart, hend, hlimit, hways⟩ := (covers_iff p r.appliesTo old).1 hcovers
        exact .inl ⟨_, rfl, Nat.le_trans hstart h1, Nat.lt_of_lt_of_le h2 hend, hlimit, hways w hw⟩
      · refine .inr ⟨_, (amendedTrailing_of_inForce hold).trans (if_neg ?_), (asTrailing_holds h1 h2 hw).merged _⟩
        simp [hcovers, hclear]
    · exact ⟨_, (revoked_of_inForce hold).trans (if_neg (by simp [hclear])),
        .inr ⟨_, rfl, (asTrailing_holds h1 h2 hw).merged _⟩⟩
    · exact amendedTrailing_holds hold ⟨h1, h2, Nat.le_refl _, hw⟩
    · obtain ⟨c, hc, hq⟩ := revoked_holds_trailing s hold ⟨h1, h2, Nat.le_refl _, hw⟩
      exact ⟨c, hc, .inr hq⟩

end Sys2Proof.Machine
end

section
/-! Chapter 4: ADD_, AMEND_ and REVOKE_RESTRICTION, judged in order (R56, R67 to R70). -/

namespace Sys2Proof.Machine

/-- A request whose owner leaves HLP alone answers, and of the rest leaves what its owner leaves (R194, R196). -/
theorem request_taken {s t : State} (h : s.resetting = false) (q : Byte) {owner : State → Reply × State} {r : Reply}
    (ho : owner s = (r, t)) (hhlp : t.hlp = s.hlp) :
    request q owner s = { t with hlp := { s.hlp with sdo := [], slot := answer s q r } } := by
  rw [request_eq q owner s h, ho, ← hhlp]
  simp only [answer, ← hhlp]
  rfl

/-- A cab request by the checks of R67 in turn, and with those passed by what its own checks make of it. -/
theorem cabRequest_checked {s x : State} (hr : s.resetting = false) (code : Byte) {origin : Byte} {id : Half}
    {owner : State → Reply × State} (herror : ∀ r, cabCheck s origin id = .error r → owner s = (r, s))
    (hok : cabCheck s origin id = .ok id.toNat → request code owner s = x) :
    request code owner s =
      if s.sld.status = .loading then answered s code (refuse .refusedBusy)
      else if origin = 1 then answered s code (refuse .refusedNotOwner)
      else if origin ≠ 2 ∨ id.toNat < 1 ∨ 255 < id.toNat then answered s code (refuse .refusedRange)
      else x := by
  have hcheck := cabCheck_eq s origin id
  split
  · rename_i hload
    exact request_answered hr code (herror _ (hcheck.trans (if_pos hload)))
  rename_i hload
  rw [if_neg hload] at hcheck
  split
  · rename_i hdispatch
    exact request_answered hr code (herror _ (hcheck.trans (if_pos hdispatch)))
  rename_i hdispatch
  rw [if_neg hdispatch] at hcheck
  split
  · rename_i hid
    exact request_answered hr code (herror _ (hcheck.trans (if_pos hid)))
  rename_i hid
  exact hok (hcheck.trans (if_neg hid))

/-! ### The part of a cab request (R68) -/

theorem clampedLife_lifeOf (lifeFlag : Byte) (life : Half) :
    clampedLife (lifeOf lifeFlag life) = if lifeFlag = 0 then none else some (max life.toNat 1) := by
  unfold clampedLife lifeOf
  split <;> rfl

theorem lifeOf_eq_zero {lifeFlag : Byte} {life : Half} :
    lifeOf lifeFlag life = some 0 ↔ lifeFlag ≠ 0 ∧ life = 0 := by
  unfold lifeOf
  split
  · simp_all
  · rename_i h
    simp only [Option.some.injEq, ne_eq, h, not_false_eq_true, true_and]
    exact ⟨fun hl => BitVec.eq_of_toNat_eq hl, fun hl => by rw [hl]; rfl⟩

/-- The part a cab request asks for, as the record takes it (R68). -/
def cabNewPart (s : State) (q : RestrictionRequest) (a : AppliesTo) : NewPart :=
  ⟨min q.zoneStart.toNat (lineLength s), min q.zoneEnd.toNat (lineLength s),
    min q.limit.toNat (paramValue s.cmc.params 1), a, if q.lifeFlag = 0 then none else some (max q.life.toNat 1)⟩

/-- A value of a cab request is clipped or clamped (R68). -/
abbrev cabClamps (s : State) (q : RestrictionRequest) : Prop :=
  min q.zoneStart.toNat (lineLength s) ≠ q.zoneStart.toNat ∨ min q.zoneEnd.toNat (lineLength s) ≠ q.zoneEnd.toNat ∨
  paramValue s.cmc.params 1 < q.limit.toNat ∨ q.lifeFlag ≠ 0 ∧ q.life = 0

theorem cabPart_of_none {s : State} {q : RestrictionRequest}
    (h : AppliesTo.ofCode q.appliesTo = none ∨
      min q.zoneEnd.toNat (lineLength s) ≤ min q.zoneStart.toNat (lineLength s)) : cabPart s q = none := by
  rw [cabPart_eq]
  cases ha : AppliesTo.ofCode q.appliesTo with
  | none => rfl
  | some a => exact if_pos (h.resolve_left (by simp [ha]))

/-- A cab request with an applies-to and a zone brings its part, marked when a value was clipped or clamped. -/
theorem cabPart_of_some {s : State} {q : RestrictionRequest} {a : AppliesTo}
    (ha : AppliesTo.ofCode q.appliesTo = some a)
    (hzone : ¬min q.zoneEnd.toNat (lineLength s) ≤ min q.zoneStart.toNat (lineLength s)) :
    ∃ clamped : Bool, cabPart s q = some (cabNewPart s q a, clamped) ∧ (clamped = true ↔ cabClamps s q) := by
  have hpart := cabPart_eq s q
  rw [ha] at hpart
  simp only [if_neg hzone, clampedLife_lifeOf] at hpart
  refine ⟨_, hpart, ?_⟩
  simp only [cabClamps, Bool.or_eq_true, bne_iff_ne, decide_eq_true_eq, beq_iff_eq, lifeOf_eq_zero, or_assoc]
  rfl

theorem doneOrClamped_eq {clamped : Bool} {p : Prop} [Decidable p] (h : clamped = true ↔ p) (body : List Byte) :
    doneOrClamped clamped body = { code := if p then .doneClamped else .done, body := body } := by
  simp only [doneOrClamped, h]

/-! ### The three requests -/

/-- With its common checks passed, ADD_RESTRICTION is refused for its pair, its applies-to or its zone (R68). -/
theorem judgeAdd_refused {s : State} {q : RestrictionRequest} (hid : cabCheck s q.origin q.id = .ok q.id.toNat)
    (h : findRecord s .cab q.id.toNat ≠ none ∨ AppliesTo.ofCode q.appliesTo = none ∨
      min q.zoneEnd.toNat (lineLength s) ≤ min q.zoneStart.toNat (lineLength s)) :
    judgeAdd q s = (refuse .refusedRange, s) := by
  by_cases hfound : findRecord s .cab q.id.toNat = none
  · have hpart := cabPart_of_none (h.resolve_left (not_not.2 hfound))
    simp [judgeAdd, hid, hfound, hpart, refused]
  · simp [judgeAdd, hid, Option.isSome_iff_ne_none.2 hfound, refused]

/-- The outcome octet of a revocation (R70). -/
theorem revokeOutcome_eq (before : Restriction) (after : Option Restriction) :
    revokeOutcome before after = if before.inForce = none then 3 else if after = none then 1 else 2 := by
  unfold revokeOutcome
  cases before.inForce <;> cases after <;> rfl

/-- Settles O18: the common checks of R67, then each request's own in turn; a request that passes changes one slot and the
change count. -/
theorem cabRestrictionsJudgedInOrder : Obligations.CabRestrictionsJudgedInOrder := by
  refine ⟨fun s q hr => congrArg Host.Outcome.next ?_, fun s q origin id hr =>
    ⟨congrArg Host.Outcome.next ?_, congrArg Host.Outcome.next ?_⟩⟩
  · by_cases hrange : findRecord s .cab q.id.toNat ≠ none ∨ AppliesTo.ofCode q.appliesTo = none ∨
        min q.zoneEnd.toNat (lineLength s) ≤ min q.zoneStart.toNat (lineLength s)
    · refine (cabRequest_checked hr 0x13 (origin := q.origin) (id := q.id) (fun r h => by simp [judgeAdd, h, refused]) fun hid =>
        request_answered hr _ (judgeAdd_refused hid hrange)).trans ?_
      simp only [hrange, or_true, if_true, ite_self]
    · simp only [not_or, ne_eq, not_not] at hrange
      obtain ⟨hnew, happlies, hzone⟩ := hrange
      obtain ⟨a, ha⟩ := Option.ne_none_iff_exists'.1 happlies
      obtain ⟨clamped, hpart, hclamped⟩ := cabPart_of_some ha hzone
      simp only [hnew, happlies, hzone, ne_eq, not_true_eq_false, or_false]
      refine cabRequest_checked hr 0x13 (fun r h => by simp [judgeAdd, h, refused]) fun hid => ?_
      rw [ha]
      cases hfree : freeSlot s with
      | none => exact request_answered hr _ (by simp [judgeAdd, hid, hnew, hpart, hfree, refused])
      | some i =>
        refine (request_taken hr _ (r := doneOrClamped clamped _) (by
          simp only [judgeAdd, hid, hnew, hpart, hfree]; rfl) (by simp)).trans ?_
        rw [doneOrClamped_eq hclamped]
        rfl
  · refine (cabRequest_checked hr 0x14 (origin := q.origin) (id := q.id) (fun r h => by simp [judgeAmend, h, refused])
      fun hid => ?_).trans rfl
    cases hfound : findRecord s .cab q.id.toNat with
    | none => exact request_answered hr _ (by simp [judgeAmend, hid, hfound, refused])
    | some x =>
      obtain ⟨i, old⟩ := x
      cases ha : AppliesTo.ofCode q.appliesTo with
      | none =>
        exact request_answered hr _ (by simp [judgeAmend, hid, hfound, cabPart_of_none (.inl ha), refused])
      | some a =>
        dsimp only
        split
        · rename_i hzone
          exact request_answered hr _ (by simp [judgeAmend, hid, hfound, cabPart_of_none (.inr hzone), refused])
        · rename_i hzone
          obtain ⟨clamped, hpart, hclamped⟩ := cabPart_of_some ha hzone
          refine (request_taken hr _ (r := doneOrClamped clamped _) (by
            simp only [judgeAmend, hid, hfound, hpart]; rfl) (by simp)).trans ?_
          rw [doneOrClamped_eq hclamped]
          rfl
  · refine (cabRequest_checked hr 0x15 (origin := origin) (id := id) (fun r h => by simp [judgeRevoke, h, refused])
      fun hid => ?_).trans rfl
    cases hfound : findRecord s .cab id.toNat with
    | none => exact request_answered hr _ (by simp [judgeRevoke, hid, hfound, refused])
    | some x =>
      obtain ⟨i, old⟩ := x
      refine (request_taken hr _ (by simp only [judgeRevoke, hid, hfound]; rfl) (by simp)).trans ?_
      rw [revokeOutcome_eq]
      rfl

end Sys2Proof.Machine
end

section
/-! Chapter 4: the lives at SECOND_TICK and RESTRICTION_EXPIRY (R51, R54, R59). -/

namespace Sys2Proof.Machine

/-- With no record that changes by `c`, the records are mapped and nothing is noted. -/
theorem changeRecords_unnoted {c : Restriction → Bool} (f : Restriction → Option Restriction) {s : State}
    (h : ¬∃ i r, slotRecord s i = some r ∧ c r = true) :
    changeRecords c f s = { s with rtb.slots := s.rtb.slots.map fun o => o.bind f } := by
  unfold changeRecords
  exact if_neg (mt heldRecords_any.1 h)

/-- A change of several records moves RESTRICTION alone of HLP (R54). -/
theorem changeRecords_attention (c : Restriction → Bool) (f : Restriction → Option Restriction) (s : State) :
    (changeRecords c f s).hlp =
      { s.hlp with
        attention := { s.hlp.attention with restriction := (changeRecords c f s).hlp.attention.restriction } } := by
  unfold changeRecords
  dsimp only
  split
  · rw [noteChange_hlp]
    split <;> rfl
  · rfl

theorem expiresNow_iff {r : Restriction} : expiresNow r = true ↔ ∃ l, r.life = some l ∧ l ≤ 1 := by
  simp [expiresNow, Option.any_eq_true]

/-- A record at a tick, by its life (R59). -/
theorem tickedRecord_eq (s : State) (r : Restriction) :
    tickedRecord s r =
      match r.life with
      | none => some r
      | some l => if l ≤ 1 then revoked s r else some { r with life := some (l - 1) } := by
  obtain ⟨origin, id, sequence, appliesTo, inForce, trailing, life⟩ := r
  cases life with
  | none => rfl
  | some l => simp only [tickedRecord, expiresNow, Option.any_some, decide_eq_true_eq, Option.map_some]

/-- The second counter restarted (R59). -/
def secondRestarted (s : State) : State := { s with rtb.secondLeft := 1000 }

/-- A tick restarts the second counter and is one change of several records. -/
theorem tickSecond_eq (s : State) : tickSecond s = changeRecords expiresNow (tickedRecord s) (secondRestarted s) := rfl

theorem tickSecond_header (s : State) :
    (tickSecond s).rtb.overflow = s.rtb.overflow ∧ (tickSecond s).rtb.overflowCount = s.rtb.overflowCount ∧
    (tickSecond s).rtb.secondLeft = 1000 := by
  rw [tickSecond_eq, changeRecords_header]
  exact ⟨rfl, rfl, rfl⟩

/-- A record expires at this tick in some slot. -/
theorem expires_iff {s : State} {p : Restriction → Prop} :
    (∃ i r, slotRecord s i = some r ∧ expiresNow r = true ∧ p r) ↔
      ∃ i r l, slotRecord s i = some r ∧ p r ∧ r.life = some l ∧ l ≤ 1 := by
  simp only [expiresNow_iff]
  constructor
  · rintro ⟨i, r, hr, ⟨l, hl, h1⟩, hp⟩
    exact ⟨i, r, l, hr, hp, hl, h1⟩
  · rintro ⟨i, r, l, hr, hp, hl, h1⟩
    exact ⟨i, r, hr, ⟨l, hl, h1⟩, hp⟩

/-- The expiry of a slot's record revokes it and notes the change (R51, R54, R59). -/
theorem expireSlot_of_life {s : State} {i : Nat} {r : Restriction} (hr : slotRecord s i = some r) (hl : r.life ≠ none) :
    expireSlot i s = noteChange (r.origin == .dispatch) (putSlot i (revoked s r) s) := by
  simp only [expireSlot, hr, Option.isSome_iff_ne_none.2 hl, if_true]

theorem expireSlot_of_none {s : State} {i : Nat} (h : ∀ r, slotRecord s i = some r → r.life = none) :
    expireSlot i s = s := by
  unfold expireSlot
  split
  · rfl
  · rename_i r hr
    rw [h r hr]
    rfl

/-- Settles O19: a tick is a change of every record at once, and an expiry one of one slot. -/
theorem livesRunOut : Obligations.LivesRunOut := by
  intro s
  obtain ⟨hslot, hrestriction⟩ := changeRecords_hlp expiresNow (tickedRecord s) (secondRestarted s)
  obtain ⟨hoverflow, hcount, hsecond⟩ := tickSecond_header s
  obtain ⟨hcmc, hodo, hlps, hssv, hbrc, hdrc, hvrl, hsld, hpending⟩ := tickSecond_keeps s
  refine ⟨⟨tickSecond s, rfl, fun i => ?_, fun h => ?_, fun i r l hr hl h1 => ?_,
    changeRecords_attention _ _ (secondRestarted s), hrestriction.trans (or_congr_right expires_iff), hoverflow, hcount,
    hsecond, hcmc, hodo, hlps, hssv, hbrc, hdrc, hvrl, hslot, hsld, hpending⟩, fun slot r hr hl => ?_, fun slot h => ?_⟩
  · refine (changeRecords_slotRecord _ _ (secondRestarted s) i).trans ?_
    change (slotRecord s i).bind (tickedRecord s) = _
    cases slotRecord s i with
    | none => rfl
    | some r => exact tickedRecord_eq s r
  · have hidle := changeRecords_unnoted (s := secondRestarted s) (tickedRecord s) (by
      rintro ⟨i, r, hr, hexpires⟩
      obtain ⟨l, hl, h1⟩ := expiresNow_iff.1 hexpires
      exact absurd (h i r l hr hl) (Nat.not_lt.2 h1))
    rw [tickSecond_eq, hidle]
    exact ⟨rfl, rfl⟩
  · exact changeRecords_counts (s := secondRestarted s) _ ⟨i, r, hr, expiresNow_iff.2 ⟨l, hl, h1⟩⟩
  · refine congrArg Host.Outcome.next ((expireSlot_of_life hr hl).trans ?_)
    cases r.origin <;> rfl
  · exact congrArg Host.Outcome.next (expireSlot_of_none h)

end Sys2Proof.Machine
end

section
/-! SUPPORT. A telegram that reaches its owner, and the entries and pages of the restriction list (R72, R167 to R169, R188). -/

namespace Sys2Proof.Machine

/-! ### A telegram that reaches the car (R167, R168) -/

/-- A telegram with a header for the car and fields in range goes to its owner, once VRL has noted it. -/
theorem telegramArrives_of_reaches {s : State} {h : Header} (hr : reaches h s) {t : Telegram}
    (ht : t.fieldsInRange = true) (listFirst : Bool) :
    telegramArrives h t listFirst s = handTelegram h.source listFirst t { s with vrl := noted h s } := by
  obtain ⟨hquiet, hdestination, hsource⟩ := hr
  have haddressed : addressed { s with vrl.receiver := emptySearch } h.destination = true := by
    simpa [addressed, carNumber] using hdestination
  unfold telegramArrives
  rw [if_neg (by simp [State.transmitting, hquiet])]
  unfold judgeHeader
  simp only [haddressed, Bool.not_true, Bool.false_eq_true, if_false]
  rw [if_neg (by simp [Nat.not_lt.2 hsource, ht])]
  rfl

/-! ### The list (R72, R188) -/

/-- The list ascends by id. -/
abbrev entryLe (a b : ListEntry) : Prop := a.id ≤ b.id

/-- The entry of a record held. -/
def entryOf (x : Nat × Restriction) : ListEntry := ⟨x.2.id, x.2.sequence.getD 0⟩

theorem insertEntry_eq (e : ListEntry) (l : List ListEntry) : insertEntry e l = l.orderedInsert entryLe e := by
  induction l with
  | nil => rfl
  | cons x rest ih => simp only [insertEntry, List.orderedInsert_cons, ih]

/-- The list is the entries of the DISPATCH records, sorted by id. -/
theorem listEntries_eq (s : State) :
    listEntries s =
      (((heldRecords s).filter fun x => x.2.origin == .dispatch).map entryOf).insertionSort entryLe := by
  unfold listEntries
  induction (heldRecords s).filter fun x => x.2.origin == .dispatch with
  | nil => rfl
  | cons x rest ih => rw [List.foldr_cons, ih, insertEntry_eq]; rfl

theorem listEntries_ascend (s : State) : (listEntries s).Pairwise fun a b => a.id ≤ b.id := by
  have : Std.Total entryLe := ⟨fun a b => Nat.le_total a.id b.id⟩
  have : IsTrans ListEntry entryLe := ⟨fun _ _ _ => Nat.le_trans⟩
  rw [listEntries_eq]
  exact List.pairwise_insertionSort entryLe _

theorem mem_listEntries {s : State} {e : ListEntry} :
    e ∈ listEntries s ↔ ∃ x ∈ heldRecords s, x.2.origin = .dispatch ∧ entryOf x = e := by
  rw [listEntries_eq, List.mem_insertionSort]
  simp only [List.mem_map, List.mem_filter, beq_iff_eq, and_assoc]

theorem listEntries_length (s : State) :
    (listEntries s).length = ((heldRecords s).filter fun x => x.2.origin == .dispatch).length := by
  rw [listEntries_eq, List.length_insertionSort, List.length_map]

theorem pages_of_le {q : Byte} {l : List ListEntry} (h : l.length ≤ 16) :
    pages q l = [[1, 1, q, BitVec.ofNat 8 l.length] ++ l.flatMap fun e => octets2 e.id ++ [e.sequence]] :=
  if_pos h

theorem pages_of_gt {q : Byte} {l : List ListEntry} (h : 16 < l.length) :
    pages q l =
      [[1, 2, q, 16] ++ (l.take 16).flatMap (fun e => octets2 e.id ++ [e.sequence]),
       [2, 2, q, BitVec.ofNat 8 (l.length - 16)] ++ (l.drop 16).flatMap fun e => octets2 e.id ++ [e.sequence]] := by
  unfold pages
  rw [if_neg (Nat.not_le.2 h)]
  unfold pageBody
  rw [List.length_take_of_le (Nat.le_of_lt h), List.length_drop]
  rfl

end Sys2Proof.Machine
end

section
/-! Chapters 4 and 11: the uplink queue's list, ALARM and DOOR_STATE (R72, R177, R185, R188). -/

namespace Sys2Proof.Machine

/-! ### The queue (R177) -/

theorem queuedKind_iff {kind : UplinkKind} {q : List UplinkEntry} :
    queuedKind kind q = true ↔ ∃ e ∈ q, e.kind = kind := by
  simp [queuedKind]

theorem queuedKind_eq_false {kind : UplinkKind} {q : List UplinkEntry} (h : ∀ e ∈ q, e.kind ≠ kind) :
    queuedKind kind q = false := by
  simpa [queuedKind] using h

/-- A refresh of the one queued telegram of a kind leaves the others and their places (R177). -/
theorem refreshEntry_map {kind : UplinkKind} {before after : List UplinkEntry} {e : UplinkEntry} (he : e.kind = kind)
    (h : ∀ x ∈ before ++ after, x.kind ≠ kind) (sequence : Byte) (body : List Byte → List Byte) :
    (before ++ [e] ++ after).map (refreshEntry kind sequence body) =
      before ++ [⟨kind, sequence, 0, body e.body⟩] ++ after := by
  have hother : ∀ l : List UplinkEntry, (∀ x ∈ l, x.kind ≠ kind) → l.map (refreshEntry kind sequence body) = l :=
    fun l hl => (List.map_congr_left fun x hx => if_neg (hl x hx)).trans (List.map_id l)
  rw [List.map_append, List.map_append, hother before fun x hx => h x (List.mem_append_left _ hx),
    hother after fun x hx => h x (List.mem_append_right _ hx)]
  subst he
  simp [refreshEntry]

/-! ### ALARM (R177, R185) -/

theorem handAlarm_frame (c : AlarmCause) (s : State) :
    handAlarm c s =
      { s with vrl.queue := (handAlarm c s).vrl.queue, vrl.uplinkCounter := s.vrl.uplinkCounter + 1 } := by
  unfold handAlarm
  split <;> rfl

theorem handAlarm_new {c : AlarmCause} {s : State} (h : ∀ e ∈ s.vrl.queue, e.kind ≠ .alarm) :
    (handAlarm c s).vrl.queue = placeAlarm ⟨.alarm, s.vrl.uplinkCounter + 1, 0, alarmBody c⟩ s.vrl.queue := by
  unfold handAlarm
  rw [queuedKind_eq_false h]
  rfl

theorem handAlarm_queued_at {c : AlarmCause} {s : State} {before after : List UplinkEntry} {e : UplinkEntry}
    (hq : s.vrl.queue = before ++ [e] ++ after) (he : e.kind = .alarm) (h : ∀ x ∈ before ++ after, x.kind ≠ .alarm) :
    (handAlarm c s).vrl.queue =
      before ++ [⟨.alarm, s.vrl.uplinkCounter + 1, 0, alarmUnion c e.body⟩] ++ after := by
  unfold handAlarm
  rw [if_pos (queuedKind_iff.2 ⟨e, by rw [hq]; simp, he⟩)]
  change s.vrl.queue.map _ = _
  rw [hq]
  exact refreshEntry_map he h _ _

/-- A new cause in the emergency latch hands VRL its alarm and nothing else (R123, R177). -/
theorem addLatchCause_vrl {c : LatchCause} {s : State} (h : s.brc.latch.has c = false) :
    (addLatchCause c s).vrl = (handAlarm (.latch c) s).vrl := by
  have hcongr : ∀ t : State, t.vrl = s.vrl → (handAlarm (.latch c) t).vrl = (handAlarm (.latch c) s).vrl := by
    intro t ht
    unfold handAlarm
    rw [ht]
    split <;> simp only [refreshKind, ht]
  unfold addLatchCause
  rw [if_neg (by simp [h]), (settle_keeps _).2.2.2.2.2.2.1, (abortTest_keeps _ _).2.2.2.2.2.2.1]
  exact hcongr _ rfl

/-! ### DOOR_STATE (R177, R185) -/

theorem handDoorState_frame (s : State) :
    handDoorState s =
      { s with vrl.queue := (handDoorState s).vrl.queue, vrl.uplinkCounter := s.vrl.uplinkCounter + 1 } := by
  unfold handDoorState
  split <;> rfl

theorem handDoorState_new {s : State} (h : ∀ e ∈ s.vrl.queue, e.kind ≠ .doorState) :
    (handDoorState s).vrl.queue =
      s.vrl.queue ++ [⟨.doorState, s.vrl.uplinkCounter + 1, 0, doorStateBody s.drc⟩] := by
  unfold handDoorState
  rw [queuedKind_eq_false h]
  rfl

theorem handDoorState_queued_at {s : State} {before after : List UplinkEntry} {e : UplinkEntry}
    (hq : s.vrl.queue = before ++ [e] ++ after) (he : e.kind = .doorState)
    (h : ∀ x ∈ before ++ after, x.kind ≠ .doorState) :
    (handDoorState s).vrl.queue =
      before ++ [⟨.doorState, s.vrl.uplinkCounter + 1, 0, doorStateBody s.drc⟩] ++ after := by
  unfold handDoorState
  rw [if_pos (queuedKind_iff.2 ⟨e, by rw [hq]; simp, he⟩)]
  change s.vrl.queue.map _ = _
  rw [hq]
  exact refreshEntry_map he h _ _

/-- What the queue becomes depends on the queue, the counter and the body handed. -/
theorem handDoorState_congr {s t : State} (hv : t.vrl.queue = s.vrl.queue)
    (hc : t.vrl.uplinkCounter = s.vrl.uplinkCounter) (hd : doorStateBody t.drc = doorStateBody s.drc) :
    (handDoorState t).vrl.queue = (handDoorState s).vrl.queue := by
  unfold handDoorState
  rw [hv, hd]
  split
  · simp only [refreshKind, hv, hc]
  · simp only [enqueueTail, hv, hc]

theorem leafOctets_length (l : Option Leaf) : (leafOctets l).length = 7 := by
  cases l <;> rfl

theorem doorStateBody_length (drc : Doors) : (doorStateBody drc).length = 37 := by
  have hrelease : ∀ b o, (releaseOctets b o).length = 5 := fun b o => by cases o <;> rfl
  have hrefused : ∀ o, (refusedOctets o).length = 4 := fun o => by cases o <;> rfl
  simp only [doorStateBody, List.length_append, leafOctets_length, hrelease, hrefused]

/-! ### A refused radio release (R146, R162) -/

/-- An event of DRC that moves no leaf and no line comes to door hold and the DOOR_STATE alone. -/
theorem drcEvent_of_same_leaves {f : State → State} {s : State} (hl : (f s).drc.leaves = s.drc.leaves)
    (hi : (f s).drc.inputs = s.drc.inputs) : drcEvent f s = flushReport (followDoorHold (f s)) := by
  have hstays : leafCameUnlocked s.drc (f s).drc = false := by
    simp [leafCameUnlocked, driveUnlocked, hl, hi]
  unfold drcEvent
  simp only [hstays, Bool.and_false]
  rfl

/-- A DOOR_STATE that is due is handed with DRC's state as it then is. -/
theorem flushReport_queue {s : State} (h : s.drc.reportDue = true) :
    (flushReport s).vrl.queue = (handDoorState { s with drc := (flushReport s).drc }).vrl.queue := by
  unfold flushReport
  rw [if_pos h, (handDoorState_keeps _).2.2.2.2.2.2.1]

/-- A radio release that fails a check of R146 hands DRC's state. -/
theorem takeDoorRelease_refused {s : State} {station sideCode : Byte} {reason : RefusedReason}
    (h : radioReleaseFault s station sideCode = some reason) :
    (takeDoorRelease station sideCode s).vrl.queue =
      (handDoorState { s with drc := (takeDoorRelease station sideCode s).drc }).vrl.queue := by
  unfold takeDoorRelease
  rw [h]
  dsimp only
  rw [drcEvent_of_same_leaves rfl rfl, flushReport_queue (by rw [followDoorHold_drc]; rfl)]
  exact handDoorState_congr (by simp) (by simp) rfl

/-- Settles O43: the list sorted by id, the two telegrams placed or refreshed, and the two commands that hand them. -/
theorem uplinkTelegramsQueued : Obligations.UplinkTelegramsQueued := by
  refine ⟨fun s q => ⟨listEntries_ascend s, fun id => ?_, fun x hx ho sequence hs => ?_, listEntries_length s, pages_of_le,
    pages_of_gt⟩, fun s c => ?_, fun s => ?_, fun s h station sideCode => ⟨fun hr hlatch => ?_, fun hr hmode => ?_⟩⟩
  · simp only [List.mem_map, mem_listEntries]
    constructor
    · rintro ⟨_, ⟨x, hx, ho, rfl⟩, rfl⟩
      exact ⟨x, hx, ho, rfl⟩
    · rintro ⟨x, hx, ho, rfl⟩
      exact ⟨entryOf x, ⟨x, hx, ho, rfl⟩, rfl⟩
  · exact mem_listEntries.2 ⟨x, hx, ho, by simp [entryOf, hs]⟩
  · intro bit high low t next alarm
    have hbody : alarmBody c = [high, low] := by
      cases c with
      | latch c => cases c <;> rfl
      | _ => rfl
    refine ⟨handAlarm_frame c s, fun h => ?_, fun before after a b attempts sequence hq h => ?_⟩
    · refine (handAlarm_new h).trans ?_
      rw [hbody]
      cases s.vrl.queue <;> rfl
    · refine (handAlarm_queued_at hq rfl h).trans ?_
      rw [alarmUnion, hbody]
      rfl
  · intro leaf release refused body t next
    have hleaf : ∀ l, leafOctets l = leaf l := by
      rintro (_ | ⟨side, index, state, profile, timer, lockLost⟩)
      · rfl
      · cases state with
        | isolated cause => cases cause <;> rfl
        | _ => rfl
    have hrelease : releaseOctets s.drc.inForce.isSome s.drc.release = release := by
      change _ = match s.drc.release with | none => _ | some r => _
      cases s.drc.release with
      | none => rfl
      | some r => cases s.drc.inForce <;> rfl
    have hrefused : refusedOctets s.drc.lastRefused = refused := by
      change _ = match s.drc.lastRefused with | none => _ | some r => _
      cases s.drc.lastRefused <;> rfl
    have hbody : doorStateBody s.drc = body := by
      rw [doorStateBody, hrelease, hrefused, hleaf, hleaf, hleaf, hleaf]
    refine ⟨handDoorState_frame s, hbody ▸ doorStateBody_length s.drc, fun h => ?_, fun before after e hq he h => ?_⟩
    · rw [← hbody]
      exact handDoorState_new h
    · rw [← hbody]
      exact handDoorState_queued_at hq he h
  · exact ⟨_, rfl, (request_blocks hr _ _).2.2.2.2.2.2.2.1.trans (addLatchCause_vrl hlatch)⟩
  · refine ⟨_, congrArg Host.Outcome.next (telegramArrives_of_reaches hr rfl false), ?_⟩
    have hfault : radioReleaseFault { s with vrl := noted h s } station sideCode = some .mode := if_pos hmode
    refine (takeDoorRelease_refused hfault).trans ?_
    exact handDoorState_congr rfl rfl rfl

end Sys2Proof.Machine
end

section
/-! SUPPORT. The parts, the limits and the records at a place, as LOOKUP_LIMIT gives them (R46, R71, R74). -/

namespace Sys2Proof.Machine

/-! ### The parts at a place (R71, R74) -/

/-- The parts of one record that apply to a direction and contain a place. -/
def recordPartsAt (w : Way) (x : Nat) (y : Nat × Restriction) : List AppliedPart :=
  (recordParts w y.1 y.2).filter fun p => p.zoneStart ≤ x && x < p.zoneEnd

theorem partsAt_eq (s : State) (w : Way) (x : Nat) : partsAt s w x = (heldRecords s).flatMap (recordPartsAt w x) :=
  List.filter_flatMap ..

theorem mem_partsAt {s : State} {w : Way} {x : Nat} {p : AppliedPart} :
    p ∈ partsAt s w x ↔ p ∈ appliedParts s w ∧ p.zoneStart ≤ x ∧ x < p.zoneEnd := by
  simp [partsAt]

/-- The parts of a record bear its slot, its origin and its id. -/
theorem recordPartsAt_name {w : Way} {x : Nat} {y : Nat × Restriction} {p : AppliedPart} (h : p ∈ recordPartsAt w x y) :
    (p.name.slot, p.name.origin, p.name.id) = (y.1, y.2.origin, y.2.id) := by
  obtain ⟨slot, origin, id, sequence, appliesTo, inForce, trailing, life⟩ := y
  have hp := (List.mem_filter.1 h).1
  simp only [recordParts, List.mem_append] at hp
  rcases hp with hp | hp
  · cases inForce with
    | none => cases hp
    | some q => dsimp only at hp; split at hp <;> simp_all
  · cases trailing with
    | none => cases hp
    | some q => dsimp only at hp; split at hp <;> simp_all

/-- The limits of a record at a place: its in-force part's, then its trailing part's, each where it applies and contains the
place. -/
theorem recordPartsAt_limits (w : Way) (x : Nat) (y : Nat × Restriction) :
    (recordPartsAt w x y).map AppliedPart.limit =
      ((y.2.inForce.filter fun p =>
        decide (p.zoneStart ≤ x) && decide (x < p.zoneEnd) && y.2.appliesTo.includes w).map InForcePart.limit).toList ++
      ((y.2.trailing.filter fun p =>
        decide (p.zoneStart ≤ x) && decide (x < p.zoneEnd) && p.appliesTo.includes w).map TrailingPart.limit).toList := by
  obtain ⟨slot, origin, id, sequence, appliesTo, inForce, trailing, life⟩ := y
  simp only [recordPartsAt, recordParts, List.filter_append, List.map_append]
  congr 1
  · cases inForce with
    | none => rfl
    | some q =>
      cases hw : appliesTo.includes w
      · simp
      · by_cases hx : q.zoneStart ≤ x ∧ x < q.zoneEnd <;> simp [hx, Option.filter]
  · cases trailing with
    | none => rfl
    | some q =>
      cases hw : q.appliesTo.includes w
      · simp [hw]
      · by_cases hx : q.zoneStart ≤ x ∧ x < q.zoneEnd <;> simp [hx, hw, Option.filter]

theorem restrictionLimit_eq (s : State) (w : Way) (x : Nat) :
    restrictionLimit s w x =
      ((heldRecords s).flatMap fun y => (recordPartsAt w x y).map AppliedPart.limit).min? := by
  rw [restrictionLimit, partsAt_eq, List.map_flatMap]

/-! ### The records that give the limit (R74) -/

/-- A part's name joins the list unless the name at its head is of the same slot. -/
def addName (p : AppliedPart) (l : List PartName) : List PartName :=
  match l with
  | n :: _ => if n.slot = p.name.slot then l else p.name :: l
  | [] => [p.name]

/-- What LOOKUP_LIMIT lists of a part's name. -/
def nameKey (n : PartName) : Nat × Origin × Nat := (n.slot, n.origin, n.id)

/-- What LOOKUP_LIMIT lists of a record. -/
def recordKey (y : Nat × Restriction) : Nat × Origin × Nat := (y.1, y.2.origin, y.2.id)

theorem addName_of_other {p : AppliedPart} {l : List PartName} (h : ∀ n ∈ l, n.slot ≠ p.name.slot) :
    addName p l = p.name :: l := by
  cases l with
  | nil => rfl
  | cons n rest => exact if_neg (h n List.mem_cons_self)

theorem addName_of_same {p : AppliedPart} {n : PartName} (l : List PartName) (h : n.slot = p.name.slot) :
    addName p (n :: l) = n :: l := if_pos h

/-- The parts of one record add one name to a list of other slots' names. -/
theorem foldr_addName_record {y : Nat × Restriction} {l : List PartName} (hl : ∀ n ∈ l, n.slot ≠ y.1)
    {ps : List AppliedPart} (hp : ∀ p ∈ ps, nameKey p.name = recordKey y) (hne : ps ≠ []) :
    ∃ n, ps.foldr addName l = n :: l ∧ nameKey n = recordKey y := by
  induction ps with
  | nil => exact absurd rfl hne
  | cons p ps ih =>
    have hkey := hp p List.mem_cons_self
    have hslot : p.name.slot = y.1 := congrArg Prod.fst hkey
    rw [List.foldr_cons]
    by_cases hps : ps = []
    · exact ⟨p.name, by rw [hps]; exact addName_of_other (hslot ▸ hl), hkey⟩
    · obtain ⟨n, hn, hnkey⟩ := ih (fun q hq => hp q (List.mem_cons_of_mem _ hq)) hps
      exact ⟨n, by rw [hn]; exact addName_of_same l ((congrArg Prod.fst hnkey).trans hslot.symm), hnkey⟩

/-- The parts of records in different slots give the names of the records that have any, once each. -/
theorem foldr_addName_flatMap {g : Nat × Restriction → List AppliedPart}
    (hg : ∀ y, ∀ p ∈ g y, nameKey p.name = recordKey y) {l : List (Nat × Restriction)} (hl : (l.map Prod.fst).Nodup) :
    ((l.flatMap g).foldr addName []).map nameKey = (l.filter fun y => !(g y).isEmpty).map recordKey := by
  induction l with
  | nil => rfl
  | cons y rest ih =>
    obtain ⟨hnew, hrest⟩ := List.nodup_cons.1 hl
    rw [List.flatMap_cons, List.foldr_append]
    by_cases hy : g y = []
    · rw [hy, List.foldr_nil, List.filter_cons_of_neg (by simp [hy]), ih hrest]
    · have hother : ∀ n ∈ (rest.flatMap g).foldr addName [], n.slot ≠ y.1 := by
        intro n hn hslot
        have hkey : nameKey n ∈ (rest.filter fun y => !(g y).isEmpty).map recordKey :=
          ih hrest ▸ List.mem_map_of_mem hn
        obtain ⟨z, hz, hzkey⟩ := List.mem_map.1 hkey
        have hzslot : z.1 = y.1 := (congrArg Prod.fst hzkey).trans hslot
        exact hnew (hzslot ▸ List.mem_map_of_mem (List.mem_of_mem_filter hz))
      obtain ⟨n, hn, hnkey⟩ := foldr_addName_record hother (hg y) hy
      rw [hn, List.map_cons, hnkey, ih hrest, List.filter_cons_of_pos (by simp [hy]), List.map_cons]

/-- Each slot is listed once. -/
theorem heldRecords_slots_nodup (s : State) : ((heldRecords s).map Prod.fst).Nodup := by
  rw [List.nodup_map_iff_inj_on (show (heldRecords s).Nodup from heldFrom_nodup 0 _)]
  rintro ⟨i, r⟩ hr ⟨j, q⟩ hq rfl
  exact Prod.ext rfl (Option.some.inj ((mem_heldRecords.1 hr).symm.trans (mem_heldRecords.1 hq)))

/-- The records that LOOKUP_LIMIT names are those that give the restriction limit, in ascending slot order (R74). -/
theorem limitingParts_keys (s : State) (w : Way) (x : Nat) :
    (limitingParts s w x).map nameKey =
      ((heldRecords s).filter fun y => ((recordPartsAt w x y).map AppliedPart.limit).any fun l =>
        restrictionLimit s w x == some l).map recordKey := by
  unfold limitingParts
  cases restrictionLimit s w x with
  | none => simp
  | some v =>
    have hparts : ((partsAt s w x).filter fun p => p.limit == v) =
        (heldRecords s).flatMap fun y => (recordPartsAt w x y).filter fun p => p.limit == v := by
      rw [partsAt_eq, List.filter_flatMap]
    change (((partsAt s w x).filter fun p => p.limit == v).foldr addName []).map nameKey = _
    rw [hparts]
    refine (foldr_addName_flatMap (fun y p hp => recordPartsAt_name (List.mem_of_mem_filter hp))
      (heldRecords_slots_nodup s)).trans ?_
    congr 2
    funext y
    rw [Bool.eq_iff_iff, Bool.not_eq_true', List.isEmpty_eq_false_iff_exists_mem]
    simp [@eq_comm _ v]

/-! ### The lowest limit (R74) -/

/-- The line maximum, the base limit of the containing segment, the lowest limit of a part, and the limits of the active
blankets, each where there is one. -/
def limitsAt (s : State) (w : Way) (x : Nat) : List Nat :=
  [paramValue s.cmc.params 1] ++ (profileLimit s w x).toList ++ (restrictionLimit s w x).toList ++
  (Blanket.all.filter (seenBlankets s).has).map (blanketLimit s.cmc.params)

theorem lowestLimit_eq_min? (start : Nat) (l : List LocalLimit) :
    (start :: l.map LocalLimit.limit).min? = some (lowestLimit start l) := by
  rw [List.min?_cons', List.foldl_map]
  rfl

/-- The combined limit is the lowest of the limits at the place. -/
theorem combinedLimit_eq_min? (s : State) (w : Way) (x : Nat) : (limitsAt s w x).min? = some (combinedLimit s w x) := by
  have hglobal := lowestLimit_eq_min? (lineMaximum s.cmc.params) (globalLimits s)
  rw [List.min?_eq_some_iff] at hglobal ⊢
  obtain ⟨hmem, hle⟩ := hglobal
  have hblankets : (globalLimits s).map LocalLimit.limit =
      paramValue s.cmc.params 1 :: (Blanket.all.filter (seenBlankets s).has).map (blanketLimit s.cmc.params) := by
    simp [globalLimits, lineMaximum, Function.comp_def]
  rw [hblankets] at hmem hle
  have hoption : ∀ (o : Option Nat), o.getD (lineMaximum s.cmc.params) ∈ paramValue s.cmc.params 1 :: o.toList := by
    rintro (_ | l) <;> simp [lineMaximum]
  have hmin : combinedLimit s w x = (profileLimit s w x).getD (lineMaximum s.cmc.params) ∨
      combinedLimit s w x = (restrictionLimit s w x).getD (lineMaximum s.cmc.params) ∨
      combinedLimit s w x = lowestLimit (lineMaximum s.cmc.params) (globalLimits s) := by
    unfold combinedLimit
    omega
  have hbelow : combinedLimit s w x ≤ (profileLimit s w x).getD (lineMaximum s.cmc.params) ∧
      combinedLimit s w x ≤ (restrictionLimit s w x).getD (lineMaximum s.cmc.params) ∧
      combinedLimit s w x ≤ lowestLimit (lineMaximum s.cmc.params) (globalLimits s) := by
    unfold combinedLimit
    omega
  obtain ⟨hprofile, hrestriction, hlowest⟩ := hbelow
  have hp := hoption (profileLimit s w x)
  have hr := hoption (restrictionLimit s w x)
  simp only [limitsAt, List.mem_append, List.mem_cons, List.not_mem_nil, or_false] at hmem hp hr ⊢
  constructor
  · rcases hmin with h | h | h <;> rw [h] <;> tauto
  · rintro l (((rfl | hl) | hl) | hl)
    · exact hlowest.trans (hle _ List.mem_cons_self)
    · rw [Option.mem_toList.1 hl] at hprofile
      exact hprofile
    · rw [Option.mem_toList.1 hl] at hrestriction
      exact hrestriction
    · exact hlowest.trans (hle _ (List.mem_cons_of_mem _ (List.mem_cons_of_mem _ hl)))

theorem containing_of_not_valid {s : State} (h : s.lps.status ≠ .valid) (x : Nat) : containing s x = none := by
  simp [containing, segments, State.profileValid, h]

end Sys2Proof.Machine
end

section
/-! Chapter 4: READ_RESTRICTION, FIND_RESTRICTION and LOOKUP_LIMIT (R73, R74). -/

namespace Sys2Proof.Machine

/-- A limit that is in force at a place, for a direction: the line maximum, the base limit of the containing segment, that of a
part that applies and contains the place, or that of an active blanket (R74). -/
def LimitAt (s : State) (w : Way) (x l : Nat) : Prop :=
  l = paramValue s.cmc.params 1 ∨ (∃ g, containing s x = some g ∧ l = g.record.limit w) ∨
  (∃ p ∈ appliedParts s w, p.zoneStart ≤ x ∧ x < p.zoneEnd ∧ l = p.limit) ∨
  (∃ b, (seenBlankets s).has b = true ∧ l = blanketLimit s.cmc.params b)

theorem limitAt_of_mem {s : State} {w : Way} {x l : Nat} (h : l ∈ limitsAt s w x) : LimitAt s w x l := by
  simp only [limitsAt, List.mem_append, List.mem_singleton, Option.mem_toList, List.mem_map, List.mem_filter] at h
  rcases h with ((h | h) | h) | ⟨b, ⟨-, hb⟩, rfl⟩
  · exact .inl h
  · obtain ⟨g, hg, rfl⟩ := Option.map_eq_some_iff.1 h
    exact .inr (.inl ⟨g, hg, rfl⟩)
  · obtain ⟨p, hp, rfl⟩ := List.mem_map.1 (List.min?_eq_some_iff.1 h).1
    obtain ⟨hpart, h1, h2⟩ := mem_partsAt.1 hp
    exact .inr (.inr (.inl ⟨p, hpart, h1, h2, rfl⟩))
  · exact .inr (.inr (.inr ⟨b, hb, rfl⟩))

/-- The combined limit is one of the limits at the place (R74). -/
theorem limitAt_combinedLimit (s : State) (w : Way) (x : Nat) : LimitAt s w x (combinedLimit s w x) :=
  limitAt_of_mem (List.min?_eq_some_iff.1 (combinedLimit_eq_min? s w x)).1

/-- No limit at the place lies below the combined limit (R74). -/
theorem combinedLimit_le {s : State} {w : Way} {x l : Nat} (h : LimitAt s w x l) : combinedLimit s w x ≤ l := by
  have hle := (List.min?_eq_some_iff.1 (combinedLimit_eq_min? s w x)).2
  simp only [limitsAt, List.mem_append, List.mem_singleton, Option.mem_toList, List.mem_map, List.mem_filter] at hle
  rcases h with rfl | ⟨g, hg, rfl⟩ | ⟨p, hpart, h1, h2, rfl⟩ | ⟨b, hb, rfl⟩
  · exact hle _ (.inl (.inl (.inl rfl)))
  · exact hle _ (.inl (.inl (.inr (by simp [profileLimit, hg]))))
  · have hmem : p.limit ∈ (partsAt s w x).map AppliedPart.limit := List.mem_map_of_mem (mem_partsAt.2 ⟨hpart, h1, h2⟩)
    cases hlowest : restrictionLimit s w x with
    | none => rw [List.min?_eq_none_iff.1 hlowest] at hmem; cases hmem
    | some m => exact (hle m (.inl (.inr hlowest))).trans ((List.min?_eq_some_iff.1 hlowest).2 _ hmem)
  · exact hle _ (.inr ⟨b, ⟨by cases b <;> decide, hb⟩, rfl⟩)

/-! ### The requests -/

/-- The body of LOOKUP_LIMIT, with the records it names listed as records (R74). -/
theorem lookupBody_of_keys {s : State} {w : Way} {x : Nat} {records : List (Nat × Restriction)}
    (h : (limitingParts s w x).map nameKey = records.map recordKey) :
    lookupBody s w x =
      headerOctets s ++ optionalOctets 2 ((profileLimit s w x).map octets2) ++
      optionalOctets 2 ((restrictionLimit s w x).map octets2) ++ octets1 (min records.length 8) ++
      ((records.take 8).flatMap fun y => [y.2.origin.code] ++ octets2 y.2.id ++ octets1 y.1) ++ octets1 records.length ++
      octets1 (Blanket.all.filter (seenBlankets s).has).length ++
      ((Blanket.all.filter (seenBlankets s).has).flatMap fun b => [b.code] ++ octets2 (blanketLimit s.cmc.params b)) ++
      octets2 (combinedLimit s w x) := by
  have hlength : (limitingParts s w x).length = records.length := by simpa using congrArg List.length h
  have hlisted : ((limitingParts s w x).take 8).flatMap (fun n => [n.origin.code] ++ octets2 n.id ++ octets1 n.slot) =
      (records.take 8).flatMap fun y => [y.2.origin.code] ++ octets2 y.2.id ++ octets1 y.1 := by
    have hkeys := congrArg (fun l : List (Nat × Origin × Nat) =>
      (l.take 8).flatMap fun k => [k.2.1.code] ++ octets2 k.2.2 ++ octets1 k.1) h
    simp only [← List.map_take, List.flatMap_map] at hkeys
    exact hkeys
  rw [lookupBody, lookupPlaces, hlisted, List.length_take, hlength, Nat.min_comm]

/-- R73 refuses a FIND_RESTRICTION whose origin is none, or whose id is outside its origin's range. -/
abbrev findRefused (origin : Byte) (id : Half) : Prop :=
  (origin ≠ 1 ∧ origin ≠ 2) ∨ id.toNat < 1 ∨ (origin = 1 ∧ 4095 < id.toNat) ∨ (origin = 2 ∧ 255 < id.toNat)

theorem originOfCode_eq {origin : Byte} {o : Origin} :
    Origin.ofCode origin = some o ↔ (origin = 1 ∨ origin = 2) ∧ o = if origin = 1 then .dispatch else .cab := by
  unfold Origin.ofCode
  by_cases h1 : origin = 1
  · simp [h1, eq_comm]
  · by_cases h2 : origin = 2
    · rw [if_neg h1, if_pos h2, if_neg h1]
      simp [h2, eq_comm]
    · rw [if_neg h1, if_neg h2]
      exact ⟨fun h => (Option.some_ne_none o h.symm).elim, fun h => (h.1.elim h1 h2).elim⟩

theorem findRefused_iff (origin : Byte) (id : Half) :
    findRefused origin id ↔ ∀ o, Origin.ofCode origin = some o → idAllowed o id = false := by
  simp only [originOfCode_eq, and_imp]
  unfold findRefused
  by_cases h1 : origin = 1
  · have h2 : origin ≠ 2 := by rw [h1]; decide
    simp only [h1, true_or, if_true, forall_const, forall_eq, idAllowed, dispatchId_iff]
    simp
  · by_cases h2 : origin = 2
    · simp only [h2, or_true, forall_const, forall_eq]
      simp [idAllowed]
      omega
    · exact iff_of_true (Or.inl ⟨h1, h2⟩) fun o ho => (ho.elim h1 h2).elim

theorem judgeFindRestriction_refused {s : State} {origin : Byte} {id : Half} (h : findRefused origin id) :
    judgeFindRestriction origin id s = (refuse .refusedRange, s) := by
  unfold judgeFindRestriction
  split
  · rfl
  · rename_i o ho
    rw [(findRefused_iff origin id).1 h o ho]
    rfl

/-- With an id of its origin, FIND_RESTRICTION looks the pair up (R73). -/
theorem judgeFindRestriction_found {s : State} {origin : Byte} {id : Half} (h : ¬findRefused origin id) :
    (findRecord s (if origin = 1 then .dispatch else .cab) id.toNat = none →
      judgeFindRestriction origin id s = (refuse .refusedNotFound, s)) ∧
    ∀ i r, findRecord s (if origin = 1 then .dispatch else .cab) id.toNat = some (i, r) →
      judgeFindRestriction origin id s =
        ({ code := .done, body := headerOctets s ++ octets1 i ++ recordWithState r }, s) := by
  rw [findRefused_iff] at h
  push Not at h
  obtain ⟨o, ho, hid⟩ := h
  have hallowed : idAllowed o id = true := by simpa using hid
  rw [← (originOfCode_eq.1 ho).2]
  constructor
  · intro hfound
    simp [judgeFindRestriction, ho, hallowed, hfound, refused]
  · intro i r hfound
    simp [judgeFindRestriction, ho, hallowed, hfound]

/-- Settles O20: each judgement by its own checks, the parts at a place taken record by record, and the combined limit as the
least of the limits there. -/
theorem restrictionReadsAndLookup : Obligations.RestrictionReadsAndLookup := by
  refine ⟨fun s slot origin id hr => ⟨?_, ?_⟩, fun s position direction hr => ?_⟩
  · refine congrArg Host.Outcome.next ?_
    by_cases hslot : 31 < slot.toNat
    · rw [if_pos hslot]
      exact request_answered hr _ (by simp [judgeReadRestriction, hslot, refused])
    · rw [if_neg hslot]
      cases hrecord : slotRecord s slot.toNat with
      | none => exact request_answered hr _ (by simp only [judgeReadRestriction, hslot, hrecord]; rfl)
      | some r => exact request_answered hr _ (by simp only [judgeReadRestriction, hslot, hrecord]; rfl)
  · refine congrArg Host.Outcome.next ?_
    by_cases hrefused : findRefused origin id
    · rw [if_pos hrefused]
      exact request_answered hr _ (judgeFindRestriction_refused hrefused)
    · rw [if_neg hrefused]
      obtain ⟨hnone, hsome⟩ := judgeFindRestriction_found (s := s) hrefused
      cases hfound : findRecord s (if origin = 1 then .dispatch else .cab) id.toNat with
      | none => exact request_answered hr _ (hnone hfound)
      | some y => exact request_answered hr _ (hsome y.1 y.2 hfound)
  · cases hw : Way.ofCode direction with
    | none => exact congrArg Host.Outcome.next (request_answered hr _ (by simp [judgeLookupLimit, hw, refused]))
    | some w =>
      dsimp -zeta only
      intro x limits covers limitsOf profile restriction names blankets opt v
      have hlimits : ∀ y, (recordPartsAt w x y).map AppliedPart.limit = limitsOf y.2 := recordPartsAt_limits w x
      have hrestriction : restrictionLimit s w x = restriction := by
        rw [restrictionLimit_eq]; simp only [hlimits]; rfl
      have hkeys : (limitingParts s w x).map nameKey = names.map recordKey := by
        rw [limitingParts_keys, hrestriction]; simp only [hlimits]; rfl
      have hv : v = combinedLimit s w x := by
        have hmin := combinedLimit_eq_min? s w x
        rw [limitsAt, hrestriction] at hmin
        exact congrArg (·.getD 0) hmin
      refine ⟨fun h => by simp [profile, containing_of_not_valid h], hv ▸ limitAt_combinedLimit s w x,
        fun l hl => hv ▸ combinedLimit_le hl, ?_⟩
      have hopt : ∀ o : Option Nat, optionalOctets 2 (o.map octets2) = opt o := by
        rintro (_ | l) <;> rfl
      refine congrArg Host.Outcome.next (request_answered hr _ ?_)
      simp only [judgeLookupLimit, hw]
      rw [doneOrClamped_eq decide_eq_true_iff, lookupBody_of_keys hkeys, hrestriction, hopt, hopt, hv]
      rfl

end Sys2Proof.Machine
end

section
/-! SUPPORT. The list VRL builds and the dialogue at a NAK FULL, with all they leave of VRL (R177, R188, R189). -/

namespace Sys2Proof.Machine

/-- VRL apart from the uplink queue with its counter, and the dialogue with its list. -/
def RadioLink.exceptUplink (v : RadioLink) : RadioLink :=
  { v with queue := [], uplinkCounter := 0, dialogue := .unjoined, listCounter := 0, currentList := none }

theorem heard_iff {h : Header} {s t : State} : heard h s t ↔ t.vrl.exceptUplink = (noted h s).exceptUplink := by
  constructor
  · intro ht
    rw [heard] at ht
    rw [ht]
    rfl
  · intro ht
    exact congrArg (fun v : RadioLink =>
      { v with
        queue := t.vrl.queue, uplinkCounter := t.vrl.uplinkCounter, dialogue := t.vrl.dialogue,
        listCounter := t.vrl.listCounter, currentList := t.vrl.currentList }) ht

@[simp] theorem enqueueTail_exceptUplink (k : UplinkKind) (b : List Byte) (s : State) :
    (enqueueTail k b s).vrl.exceptUplink = s.vrl.exceptUplink := rfl

/-! ### The pages (R177, R188) -/

theorem counter_add (c : Byte) (m n : Nat) : c + BitVec.ofNat 8 m + BitVec.ofNat 8 n = c + BitVec.ofNat 8 (m + n) := by
  rw [BitVec.add_assoc, BitVec.ofNat_add]

/-- Bodies queued one after another take the sequences after `c`, the first of them at place `k`. -/
theorem enqueueAll_eq (bodies : List (List Byte)) (c : Byte) (k : Nat) {s : State}
    (hc : s.vrl.uplinkCounter = c + BitVec.ofNat 8 k) :
    bodies.foldl (fun s body => enqueueTail .restrictList body s) s =
      { s with
        vrl.uplinkCounter := c + BitVec.ofNat 8 (k + bodies.length),
        vrl.queue := s.vrl.queue ++
          (bodies.zipIdx k).map fun x => ⟨.restrictList, c + BitVec.ofNat 8 (x.2 + 1), 0, x.1⟩ } := by
  induction bodies generalizing k s with
  | nil => simp [← hc]
  | cons body rest ih =>
    have hnext : s.vrl.uplinkCounter + 1#8 = c + BitVec.ofNat 8 (k + 1) := by rw [hc]; exact counter_add c k 1
    rw [List.foldl_cons, ih (k + 1) hnext]
    simp [enqueueTail, hnext, Nat.add_right_comm k 1, Nat.add_assoc]

/-- A list built: the pages of an older one leave the queue, and its own join in page order (R177, R188). -/
theorem buildList_eq (s : State) :
    buildList s =
      let q := s.vrl.listCounter + 1
      { s with
        vrl.listCounter := q, vrl.currentList := some q,
        vrl.uplinkCounter := s.vrl.uplinkCounter + BitVec.ofNat 8 (pages q (listEntries s)).length,
        vrl.queue := (s.vrl.queue.filter fun e => e.kind != .restrictList) ++
          queuedPages s.vrl.uplinkCounter q (listEntries s) } := by
  refine (enqueueAll_eq _ s.vrl.uplinkCounter 0 (by simp [dropPages])).trans ?_
  simp only [Nat.zero_add]
  rfl

/-! ### The dialogue at a NAK FULL (R189) -/

theorem dialogueNakFull_unjoined {s : State} (h : s.vrl.dialogue = .unjoined) : dialogueNakFull s = s := by
  rw [dialogueNakFull, h]

/-- Away from UNJOINED a NAK FULL leaves the dialogue REPORTING, with a new list queued (R189). -/
theorem dialogueNakFull_vrl {s : State} (h : s.vrl.dialogue ≠ .unjoined) :
    (dialogueNakFull s).vrl =
      let q := s.vrl.listCounter + 1
      { s.vrl with
        dialogue := .reporting, listCounter := q, currentList := some q,
        uplinkCounter := s.vrl.uplinkCounter + BitVec.ofNat 8 (pages q (listEntries s)).length,
        queue := (s.vrl.queue.filter fun e => e.kind != .restrictList) ++
          queuedPages s.vrl.uplinkCounter q (listEntries s) } := by
  unfold dialogueNakFull
  cases hd : s.vrl.dialogue with
  | unjoined => exact absurd hd h
  | reporting => simp only [buildList_eq, ← hd]
  | joined => exact congrArg State.vrl (buildList_eq _)

@[simp] theorem dialogueNakFull_exceptUplink (s : State) :
    (dialogueNakFull s).vrl.exceptUplink = s.vrl.exceptUplink := by
  by_cases h : s.vrl.dialogue = .unjoined
  · rw [dialogueNakFull_unjoined h]
  · rw [dialogueNakFull_vrl h]
    rfl

@[simp] theorem dialogueNakFull_slot (s : State) : (dialogueNakFull s).hlp.slot = s.hlp.slot := by
  unfold dialogueNakFull
  split <;> simp [enterReporting]

end Sys2Proof.Machine
end

section
/-! Chapter 4: RESTRICT and REVOKE telegrams, from the gate to the reply (R61 to R66, R177, R178, R189). -/

namespace Sys2Proof.Machine

/-! ### The gate (R178) -/

/-- The state in which a valid telegram's owner takes it: VRL has noted the telegram (R168, R171). -/
abbrev withNoted (h : Header) (s : State) : State := { s with vrl := noted h s }

theorem exec_restrict_open {s : State} {h : Header} (hr : reaches h s) (hgate : countKind .restrictReply s.vrl.queue < 6)
    (f : RestrictFields) (listFirst : Bool) :
    exec (.restrict h f listFirst) s = .next (takeRestrictTelegram f listFirst (withNoted h s)) :=
  congrArg Host.Outcome.next ((telegramArrives_of_reaches hr rfl listFirst).trans (if_pos hgate))

theorem exec_restrict_closed {s : State} {h : Header} (hr : reaches h s)
    (hgate : 6 ≤ countKind .restrictReply s.vrl.queue) (f : RestrictFields) (listFirst : Bool) :
    exec (.restrict h f listFirst) s =
      .next { s with vrl := { noted h s with gateCount := min (s.vrl.gateCount + 1) 65535 } } :=
  congrArg Host.Outcome.next ((telegramArrives_of_reaches hr rfl listFirst).trans (if_neg (Nat.not_lt.2 hgate)))

theorem exec_revoke_open {s : State} {h : Header} (hr : reaches h s) (hgate : countKind .restrictReply s.vrl.queue < 6)
    (id : Half) (sequence : Byte) :
    exec (.revoke h id sequence) s = .next (takeRevokeTelegram id sequence (withNoted h s)) :=
  congrArg Host.Outcome.next ((telegramArrives_of_reaches hr rfl false).trans (if_pos hgate))

theorem exec_revoke_closed {s : State} {h : Header} (hr : reaches h s)
    (hgate : 6 ≤ countKind .restrictReply s.vrl.queue) (id : Half) (sequence : Byte) :
    exec (.revoke h id sequence) s =
      .next { s with vrl := { noted h s with gateCount := min (s.vrl.gateCount + 1) 65535 } } :=
  congrArg Host.Outcome.next ((telegramArrives_of_reaches hr rfl false).trans (if_neg (Nat.not_lt.2 hgate)))

/-! ### The sequence (R63) -/

theorem judgeSequence_eq (stored sequence : Byte) :
    judgeSequence (some stored) sequence =
      let d := (sequence.toNat + 256 - stored.toNat) % 256
      if d = 0 then .duplicate else if d ≤ 127 then .newer else .stale := by
  have hd : (sequence - stored).toNat = (sequence.toNat + 256 - stored.toNat) % 256 := by
    have := stored.isLt
    rw [BitVec.toNat_sub]
    omega
  simp only [judgeSequence, hd, Nat.lt_succ_iff]

/-! ### RTB's judgement (R64 to R66) -/

theorem takeRestrict_invalid {s : State} {f : RestrictFields} (h : restrictPart s f = none) :
    takeRestrict f s = (.nak .invalid, s) := by
  simp only [takeRestrict, h]

theorem takeRestrict_stored {s : State} {f : RestrictFields} {p : NewPart} {i : Nat} (hp : restrictPart s f = some p)
    (hnew : findRecord s .dispatch f.id.toNat = none) (hfree : freeSlot s = some i) :
    takeRestrict f s =
      (.ack, noteChange true (putSlot i (some (admitted .dispatch f.id.toNat (some f.sequence) p)) s)) := by
  simp only [takeRestrict, hp, hnew, hfree]

theorem takeRestrict_full {s : State} {f : RestrictFields} {p : NewPart} (hp : restrictPart s f = some p)
    (hnew : findRecord s .dispatch f.id.toNat = none) (hfree : freeSlot s = none) :
    takeRestrict f s = (.nak .full, setOverflow s) := by
  simp only [takeRestrict, hp, hnew, hfree]

/-- A telegram for a record held, by its sequence: `new` is what a newer one makes of the record. -/
def judgeHeld (stored sequence : Byte) (i : Nat) (new : Option Restriction) (s : State) : ReplyOutcome × State :=
  let d := (sequence.toNat + 256 - stored.toNat) % 256
  if d = 0 then (.ack, s) else if d ≤ 127 then (.ack, noteChange true (putSlot i new s)) else (.nak .stale, s)

theorem judgeHeld_ne_full (stored sequence : Byte) (i : Nat) (new : Option Restriction) (s : State) :
    (judgeHeld stored sequence i new s).1 ≠ .nak .full := by
  simp only [judgeHeld]
  split_ifs <;> simp

theorem takeRestrict_held {s : State} {f : RestrictFields} {p : NewPart} {i : Nat} {r : Restriction} {stored : Byte}
    (hp : restrictPart s f = some p) (hheld : findRecord s .dispatch f.id.toNat = some (i, r))
    (hs : r.sequence = some stored) :
    takeRestrict f s = judgeHeld stored f.sequence i (some (amended s r (some f.sequence) p)) s := by
  simp only [takeRestrict, hp, hheld, hs, judgeSequence_eq, judgeHeld]
  split_ifs <;> rfl

theorem takeRevoke_invalid {id : Half} (h : id.toNat < 1 ∨ 4095 < id.toNat) (sequence : Byte) (s : State) :
    takeRevoke id sequence s = (.nak .invalid, s) := by
  simp [takeRevoke, (dispatchId_iff id).2 h]

theorem takeRevoke_absent {s : State} {id : Half} (h : ¬(id.toNat < 1 ∨ 4095 < id.toNat)) (sequence : Byte)
    (hnew : findRecord s .dispatch id.toNat = none) : takeRevoke id sequence s = (.ack, s) := by
  have hid : dispatchId id = true := by simpa using mt (dispatchId_iff id).1 h
  simp [takeRevoke, hid, hnew]

theorem takeRevoke_held {s : State} {id : Half} (h : ¬(id.toNat < 1 ∨ 4095 < id.toNat)) {sequence : Byte} {i : Nat}
    {r : Restriction} {stored : Byte} (hheld : findRecord s .dispatch id.toNat = some (i, r))
    (hs : r.sequence = some stored) :
    takeRevoke id sequence s = judgeHeld stored sequence i (revoked s { r with sequence := some sequence }) s := by
  have hid : dispatchId id = true := by simpa using mt (dispatchId_iff id).1 h
  simp only [takeRevoke, hid, hheld, hs, judgeSequence_eq, judgeHeld, Bool.not_true, Bool.false_eq_true, if_false]
  split_ifs <;> rfl

/-! ### The reply (R177) -/

/-- A RESTRICT with any answer but NAK FULL queues its reply, and the dialogue takes no part. -/
theorem takeRestrictTelegram_replied {s t : State} {f : RestrictFields} {o : ReplyOutcome}
    (h : takeRestrict f s = (o, t)) (ho : o ≠ .nak .full) (listFirst : Bool) :
    takeRestrictTelegram f listFirst s = enqueueTail .restrictReply (replyBody f.id f.sequence o) t := by
  simp only [takeRestrictTelegram, h, if_neg ho]

theorem takeRestrictTelegram_full {s t : State} {f : RestrictFields} (h : takeRestrict f s = (.nak .full, t))
    (listFirst : Bool) :
    takeRestrictTelegram f listFirst s =
      if listFirst then enqueueTail .restrictReply (replyBody f.id f.sequence (.nak .full)) (dialogueNakFull t)
      else dialogueNakFull (enqueueTail .restrictReply (replyBody f.id f.sequence (.nak .full)) t) := by
  simp only [takeRestrictTelegram, h, if_true]

theorem takeRevokeTelegram_replied {s t : State} {id : Half} {sequence : Byte} {o : ReplyOutcome}
    (h : takeRevoke id sequence s = (o, t)) :
    takeRevokeTelegram id sequence s = enqueueTail .restrictReply (replyBody id sequence o) t := by
  simp only [takeRevokeTelegram, h]

@[simp] theorem takeRestrictTelegram_exceptUplink (f : RestrictFields) (listFirst : Bool) (s : State) :
    (takeRestrictTelegram f listFirst s).vrl.exceptUplink = s.vrl.exceptUplink := by
  simp only [takeRestrictTelegram]
  repeat' split
  all_goals simp

@[simp] theorem takeRevokeTelegram_exceptUplink (id : Half) (sequence : Byte) (s : State) :
    (takeRevokeTelegram id sequence s).vrl.exceptUplink = s.vrl.exceptUplink := by
  simp [takeRevokeTelegram]

theorem takeRestrict_slot (f : RestrictFields) (s : State) : (takeRestrict f s).2.hlp.slot = s.hlp.slot := by
  unfold takeRestrict
  repeat' split
  all_goals simp

theorem takeRevoke_slot (id : Half) (sequence : Byte) (s : State) :
    (takeRevoke id sequence s).2.hlp.slot = s.hlp.slot := by
  unfold takeRevoke
  repeat' split
  all_goals simp

@[simp] theorem takeRestrictTelegram_slot (f : RestrictFields) (listFirst : Bool) (s : State) :
    (takeRestrictTelegram f listFirst s).hlp.slot = s.hlp.slot := by
  simp only [takeRestrictTelegram]
  repeat' split
  all_goals simp [takeRestrict_slot]

@[simp] theorem takeRevokeTelegram_slot (id : Half) (sequence : Byte) (s : State) :
    (takeRevokeTelegram id sequence s).hlp.slot = s.hlp.slot := by
  simp [takeRevokeTelegram, takeRevoke_slot]

/-- A reply joins the tail of the queue and takes the next sequence; it touches neither the dialogue nor SSV. -/
theorem reply_queued {s t : State} (hv : t.vrl = s.vrl) (hssv : t.ssv = s.ssv) (body : List Byte) :
    (enqueueTail .restrictReply body t).vrl.queue =
      s.vrl.queue ++ [⟨.restrictReply, s.vrl.uplinkCounter + 1, 0, body⟩] ∧
    (enqueueTail .restrictReply body t).vrl.uplinkCounter = s.vrl.uplinkCounter + 1 ∧
    (enqueueTail .restrictReply body t).vrl.dialogue = s.vrl.dialogue ∧
    (enqueueTail .restrictReply body t).ssv = s.ssv := by
  simp [hv, hssv]

/-- A change of one record's slot, noted as a DISPATCH record's (R51, R54). -/
theorem dispatch_slot_changed {s : State} {i : Nat} (hi : i < 32) (o : Option Restriction) :
    let t := noteChange true (putSlot i o s)
    slotRecord t i = o ∧ (∀ j, j ≠ i → slotRecord t j = slotRecord s j) ∧
    t.rtb.changeCount = s.rtb.changeCount + 1 ∧ t.hlp.attention.restriction = true := by
  refine ⟨?_, fun j hj => ?_, ?_, ?_⟩
  · rw [slotRecord_noteChange, slotRecord_putSlot_self hi]
  · rw [slotRecord_noteChange, slotRecord_putSlot_other hj]
  · rw [noteChange_rtb]; rfl
  · rw [noteChange_hlp]; rfl

/-- The dialogue's part and the reply leave RTB and SSV as the overflow left them (R65). -/
theorem takeRestrictTelegram_full_blocks {s t : State} {f : RestrictFields} (h : takeRestrict f s = (.nak .full, t))
    (listFirst : Bool) :
    (takeRestrictTelegram f listFirst s).rtb = t.rtb ∧ (takeRestrictTelegram f listFirst s).ssv = t.ssv := by
  rw [takeRestrictTelegram_full h]
  cases listFirst <;> simp

/-- A dialogue that is UNJOINED takes no part in a NAK FULL (R189). -/
theorem takeRestrictTelegram_full_unjoined {s t : State} {f : RestrictFields} (h : takeRestrict f s = (.nak .full, t))
    (hd : t.vrl.dialogue = .unjoined) (listFirst : Bool) :
    takeRestrictTelegram f listFirst s =
      enqueueTail .restrictReply (replyBody f.id f.sequence (.nak .full)) t := by
  rw [takeRestrictTelegram_full h, dialogueNakFull_unjoined hd, dialogueNakFull_unjoined (by simpa using hd), ite_self]

/-- With the table full: the reply and the new list's pages, in the order the command gives (R65, R177, R189). -/
theorem takeRestrictTelegram_full_vrl {s t : State} {f : RestrictFields} (h : takeRestrict f s = (.nak .full, t))
    (hv : t.vrl = s.vrl) (hslots : t.rtb.slots = s.rtb.slots) (hd : s.vrl.dialogue ≠ .unjoined) (listFirst : Bool) :
    let c := s.vrl.uplinkCounter
    let q := s.vrl.listCounter + 1
    let n := BitVec.ofNat 8 (pages q (listEntries s)).length
    let kept := s.vrl.queue.filter fun e => e.kind != .restrictList
    let answer := fun (sequence : Byte) =>
      UplinkEntry.mk .restrictReply sequence 0 (replyBody f.id f.sequence (.nak .full))
    (takeRestrictTelegram f listFirst s).vrl =
      { s.vrl with
        dialogue := .reporting, listCounter := q, currentList := some q, uplinkCounter := c + n + 1,
        queue :=
          if listFirst = true then kept ++ queuedPages c q (listEntries s) ++ [answer (c + n + 1)]
          else kept ++ [answer (c + 1)] ++ queuedPages (c + 1) q (listEntries s) } := by
  intro c q n kept answer
  have hlist : ∀ u : State, u.rtb = t.rtb → listEntries u = listEntries s := fun u hu => by
    simp only [listEntries, heldRecords, hu, hslots]
  rw [takeRestrictTelegram_full h]
  cases listFirst with
  | true =>
    have hvrl := dialogueNakFull_vrl (s := t) (by rw [hv]; exact hd)
    rw [hlist t rfl, hv] at hvrl
    simp only [if_true, enqueueTail, hvrl]
    rfl
  | false =>
    have hvrl := dialogueNakFull_vrl
      (s := enqueueTail .restrictReply (replyBody f.id f.sequence (.nak .full)) t) (by simpa [hv] using hd)
    rw [hlist _ (by simp)] at hvrl
    simp only [Bool.false_eq_true, if_false, hvrl]
    simp only [enqueueTail, hv, List.filter_append]
    have hn : c + 1 + n = c + n + 1 := by rw [BitVec.add_assoc, BitVec.add_comm 1 n, BitVec.add_assoc]
    rw [← hn]
    rfl

/-- A record held, by the sequence: the record, and the reply of which `Q` tells how it is queued (R63, R64, R66). -/
theorem judgeHeld_replied {s : State} {Q : State → List Byte → Prop}
    (hQ : ∀ t body, t.vrl = s.vrl → t.ssv = s.ssv → Q (enqueueTail .restrictReply body t) body) {i : Nat} (hi : i < 32)
    (new : Option Restriction) (id : Half) (stored sequence : Byte) :
    let d := (sequence.toNat + 256 - stored.toNat) % 256
    let out := judgeHeld stored sequence i new s
    let t := enqueueTail .restrictReply (replyBody id sequence out.1) out.2
    if d = 0 then t.rtb = s.rtb ∧ Q t (replyBody id sequence .ack)
    else if d ≤ 127 then
      slotRecord t i = new ∧ (∀ j, j ≠ i → slotRecord t j = slotRecord s j) ∧
      t.rtb.changeCount = s.rtb.changeCount + 1 ∧ t.hlp.attention.restriction = true ∧ Q t (replyBody id sequence .ack)
    else t.rtb = s.rtb ∧ Q t (replyBody id sequence (.nak .stale)) := by
  intro d out t
  by_cases hduplicate : d = 0
  · have hout : out = (.ack, s) := if_pos hduplicate
    rw [if_pos hduplicate]
    simp only [t, hout]
    exact ⟨by simp, hQ _ _ rfl rfl⟩
  rw [if_neg hduplicate]
  by_cases hnewer : d ≤ 127
  · have hout : out = (.ack, noteChange true (putSlot i new s)) := (if_neg hduplicate).trans (if_pos hnewer)
    rw [if_pos hnewer]
    simp only [t, hout]
    obtain ⟨hslot, hothers, hcount, hraised⟩ := dispatch_slot_changed hi new
    exact ⟨hslot, hothers, hcount, hraised, hQ _ _ (by simp) (by simp)⟩
  · have hout : out = (.nak .stale, s) := (if_neg hduplicate).trans (if_neg hnewer)
    rw [if_neg hnewer]
    simp only [t, hout]
    exact ⟨by simp, hQ _ _ rfl rfl⟩

/-- Settles O17: the gate, then RTB's judgement case by case with its reply; at a full table the dialogue's list joins the
queue on either side of the reply. -/
theorem restrictAndRevokeTelegrams : Obligations.RestrictAndRevokeTelegrams := by
  refine ⟨fun s h f listFirst hr hgate => ?_, fun s h id sequence hr =>
    ⟨fun hgate => ⟨exec_revoke_closed hr hgate id sequence, exec_restrict_closed hr hgate⟩, fun hgate => ?_⟩⟩
  · intro id zs ze life limit reply queued
    let u := withNoted h s
    obtain ⟨hcmc, hodo, hlps, hbrc, hdrc, hsld, hpending⟩ := takeRestrictTelegram_keeps f listFirst u
    refine ⟨takeRestrictTelegram f listFirst u, exec_restrict_open hr hgate f listFirst,
      heard_iff.2 (takeRestrictTelegram_exceptUplink f listFirst u), hcmc, hodo, hlps, hbrc, hdrc,
      takeRestrictTelegram_slot f listFirst u, hsld, hpending, ?_⟩
    have hqueued : ∀ t body, t.vrl = u.vrl → t.ssv = u.ssv → queued (enqueueTail .restrictReply body t) body :=
      fun t body hv hssv => reply_queued hv hssv body
    have hinvalid : restrictPart u f = none → (takeRestrictTelegram f listFirst u).rtb = s.rtb ∧
        queued (takeRestrictTelegram f listFirst u) (reply 1 1) := fun hpart => by
      rw [takeRestrictTelegram_replied (takeRestrict_invalid hpart) (by decide)]
      exact ⟨by simp [u], hqueued _ _ rfl rfl⟩
    have hpart := restrictPart_eq u f
    cases ha : AppliesTo.ofCode f.appliesTo with
    | none => exact hinvalid (by rw [hpart, ha])
    | some a =>
      rw [ha] at hpart
      dsimp only
      split
      · rename_i hbad
        exact hinvalid (hpart.trans (if_pos hbad))
      rename_i hgood
      replace hpart : restrictPart u f = some ⟨zs, ze, limit, a, life⟩ := hpart.trans (if_neg hgood)
      cases hfound : findRecord s .dispatch id with
      | none =>
        cases hfree : freeSlot s with
        | some i =>
          rw [takeRestrictTelegram_replied (takeRestrict_stored hpart hfound hfree) (by decide)]
          obtain ⟨hslot, hothers, hcount, hraised⟩ := dispatch_slot_changed (s := u) (freeSlot_some hfree).1
            (some (admitted .dispatch id (some f.sequence) ⟨zs, ze, limit, a, life⟩))
          exact ⟨hslot, hothers, hcount, by simp [putSlot, u], by simp [putSlot, u], hraised,
            hqueued _ _ (by simp) (by simp)⟩
        | none =>
          have hfull := takeRestrict_full (s := u) hpart hfound hfree
          obtain ⟨hrtb, hssv⟩ := takeRestrictTelegram_full_blocks hfull listFirst
          refine ⟨slotRecord_congr (by rw [hrtb]; rfl), by rw [hrtb]; rfl, by rw [hrtb]; rfl, by rw [hrtb]; rfl, hssv,
            ?_⟩
          split
          · rename_i hd
            rw [takeRestrictTelegram_full_unjoined hfull (t := setOverflow u) hd]
            exact ⟨hd, rfl, rfl, rfl, rfl⟩
          · rename_i hd
            rw [takeRestrictTelegram_full_vrl hfull (by simp) rfl hd]
            exact ⟨rfl, rfl, rfl, rfl, rfl⟩
      | some y =>
        obtain ⟨i, r⟩ := y
        intro stored hstored
        have hheld := takeRestrict_held (s := u) hpart hfound hstored
        have hi := lt_of_slotRecord (findRecord_some hfound).1
        rw [takeRestrictTelegram_replied hheld (judgeHeld_ne_full _ _ _ _ _)]
        exact judgeHeld_replied hqueued hi _ f.id stored f.sequence
  · intro reply queued
    let u := withNoted h s
    obtain ⟨hcmc, hodo, hlps, hssv, hbrc, hdrc, hsld, hpending⟩ := takeRevokeTelegram_keeps id sequence u
    refine ⟨takeRevokeTelegram id sequence u, exec_revoke_open hr hgate id sequence,
      heard_iff.2 (takeRevokeTelegram_exceptUplink id sequence u), ?_, hcmc, hodo, hlps, hssv, hbrc, hdrc,
      takeRevokeTelegram_slot id sequence u, hsld, hpending, ?_⟩
    · simp [takeRevokeTelegram, u, noted]
    have hqueued : ∀ t body, t.vrl = u.vrl → t.ssv = u.ssv → queued (enqueueTail .restrictReply body t) body :=
      fun t body hv hssv => (reply_queued hv hssv body).1
    split
    · rename_i hbad
      rw [takeRevokeTelegram_replied (takeRevoke_invalid hbad sequence u)]
      exact ⟨rfl, hqueued _ _ rfl rfl⟩
    rename_i hgood
    cases hfound : findRecord s .dispatch id.toNat with
    | none =>
      rw [takeRevokeTelegram_replied (takeRevoke_absent (s := u) hgood sequence hfound)]
      exact ⟨rfl, hqueued _ _ rfl rfl⟩
    | some y =>
      obtain ⟨i, r⟩ := y
      intro stored hstored
      have hi := lt_of_slotRecord (findRecord_some hfound).1
      rw [takeRevokeTelegram_replied (takeRevoke_held (s := u) hgood hfound hstored)]
      exact judgeHeld_replied hqueued hi _ id stored sequence

end Sys2Proof.Machine
end

section
/-! SUPPORT. Which targets a direction has, each with its place, speed, distance, braking span and item (R82 to R84,
R86). -/

namespace Sys2Proof.Machine

/-- The target for UP at a place: its distance is from high, and its braking span runs from low (R82, R86). -/
def upTarget (low high place limit : Nat) (item : Governing) : Target := ⟨place, limit, place - high, low, place, item⟩

/-- The target for DOWN at a place: its distance is from low, and its braking span runs to high (R83, R86). -/
def downTarget (low high place limit : Nat) (item : Governing) : Target := ⟨place, limit, low - place, place, high, item⟩

theorem mem_targetAt_up {s : State} {low high place limit : Nat} {item : Governing} {t : Target} :
    t ∈ targetAt s .up low high place limit item ↔
      (high < place ∧ place ≤ high + lookahead s.cmc.params) ∧ t = upTarget low high place limit item := by
  simp only [targetAt, upTarget]
  split <;> simp [*]

theorem mem_targetAt_down {s : State} {low high place limit : Nat} {item : Governing} {t : Target} :
    t ∈ targetAt s .down low high place limit item ↔
      (low ≤ place + lookahead s.cmc.params ∧ place ≤ low) ∧ t = downTarget low high place limit item := by
  simp only [targetAt, downTarget]
  split <;> simp [*]

/-- The targets for UP: the line end within the lookahead, and the segment starts and zone starts ahead of high within it
(R82, R84). -/
theorem mem_targets_up {s : State} {low high : Nat} {t : Target} :
    t ∈ targets s .up low high ↔
      (lineLength s ≤ high + lookahead s.cmc.params ∧ t = upTarget low high (lineLength s) 0 .lineEnd) ∨
      (∃ g ∈ segments s, (high < g.start ∧ g.start ≤ high + lookahead s.cmc.params) ∧
        t = upTarget low high g.start (g.record.limit .up) (.segment g.index)) ∨
      (∃ p ∈ appliedParts s .up, (high < p.zoneStart ∧ p.zoneStart ≤ high + lookahead s.cmc.params) ∧
        t = upTarget low high p.zoneStart p.limit (.part p.name)) := by
  have hend : t ∈ endTarget s .up low high ↔
      lineLength s ≤ high + lookahead s.cmc.params ∧ t = upTarget low high (lineLength s) 0 .lineEnd := by
    simp only [endTarget, upTarget]
    split <;> simp [*]
  simp only [targets, segmentTargets, partTargets, List.mem_append, List.mem_flatMap, mem_targetAt_up, hend, or_assoc]

/-- The targets for DOWN: position 0 within the lookahead, and the segment ends and zone ends at or below low within it; the
last segment has no end (R83, R84). -/
theorem mem_targets_down {s : State} {low high : Nat} {t : Target} :
    t ∈ targets s .down low high ↔
      (low ≤ lookahead s.cmc.params ∧ t = downTarget low high 0 0 .lineEnd) ∨
      (∃ g ∈ segments s, g.last = false ∧ (low ≤ g.finish + lookahead s.cmc.params ∧ g.finish ≤ low) ∧
        t = downTarget low high g.finish (g.record.limit .down) (.segment g.index)) ∨
      (∃ p ∈ appliedParts s .down, (low ≤ p.zoneEnd + lookahead s.cmc.params ∧ p.zoneEnd ≤ low) ∧
        t = downTarget low high p.zoneEnd p.limit (.part p.name)) := by
  have hend : t ∈ endTarget s .down low high ↔
      low ≤ lookahead s.cmc.params ∧ t = downTarget low high 0 0 .lineEnd := by
    simp only [endTarget, downTarget]
    split <;> simp [*]
  have hsegment : ∀ g : Located,
      t ∈ (if g.last then [] else targetAt s .down low high g.finish (g.record.limit .down) (.segment g.index)) ↔
        g.last = false ∧ (low ≤ g.finish + lookahead s.cmc.params ∧ g.finish ≤ low) ∧
          t = downTarget low high g.finish (g.record.limit .down) (.segment g.index) := by
    intro g
    cases g.last <;> simp [mem_targetAt_down]
  simp only [targets, segmentTargets, partTargets, List.mem_append, List.mem_flatMap, mem_targetAt_down, hend,
    hsegment, or_assoc]

/-- The braking span of a target for UP runs from low to its place (R86). -/
theorem targets_up_span {s : State} {low high : Nat} {t : Target} (h : t ∈ targets s .up low high) :
    t.spanLow = low ∧ t.spanHigh = t.position := by
  rcases mem_targets_up.1 h with ⟨-, rfl⟩ | ⟨g, -, -, rfl⟩ | ⟨p, -, -, rfl⟩ <;> exact ⟨rfl, rfl⟩

/-- The braking span of a target for DOWN runs from its place to high (R86). -/
theorem targets_down_span {s : State} {low high : Nat} {t : Target} (h : t ∈ targets s .down low high) :
    t.spanLow = t.position ∧ t.spanHigh = high := by
  rcases mem_targets_down.1 h with ⟨-, rfl⟩ | ⟨g, -, -, -, rfl⟩ | ⟨p, -, -, rfl⟩ <;> exact ⟨rfl, rfl⟩

end Sys2Proof.Machine
end

section
/-! Chapter 5: the targets of a direction (R82 to R84, R86). -/

namespace Sys2Proof.Machine

/-- Settles O21, by what makes a target of either direction: each source of targets gives its place, speed and distance. -/
theorem targetsAhead : Obligations.TargetsAhead := by
  intro s low high x v d a line
  refine ⟨fun t => targets_up_span, fun t => targets_down_span, ⟨?_, ?_⟩, ⟨?_, ?_⟩⟩
  · rintro ⟨t, ht, rfl, rfl, rfl⟩
    rcases mem_targets_up.1 ht with ⟨ha, rfl⟩ | ⟨g, hg, ⟨h1, h2⟩, rfl⟩ | ⟨p, hp, ⟨h1, h2⟩, rfl⟩
    · exact .inl ⟨rfl, rfl, rfl, ha⟩
    · exact .inr (.inl ⟨g, hg, rfl, rfl, rfl, h1, h2⟩)
    · exact .inr (.inr ⟨p, hp, rfl, rfl, rfl, h1, h2⟩)
  · rintro (⟨rfl, rfl, rfl, ha⟩ | ⟨g, hg, rfl, rfl, rfl, h1, h2⟩ | ⟨p, hp, rfl, rfl, rfl, h1, h2⟩)
    · exact ⟨_, mem_targets_up.2 (.inl ⟨ha, rfl⟩), rfl, rfl, rfl⟩
    · exact ⟨_, mem_targets_up.2 (.inr (.inl ⟨g, hg, ⟨h1, h2⟩, rfl⟩)), rfl, rfl, rfl⟩
    · exact ⟨_, mem_targets_up.2 (.inr (.inr ⟨p, hp, ⟨h1, h2⟩, rfl⟩)), rfl, rfl, rfl⟩
  · rintro ⟨t, ht, rfl, rfl, rfl⟩
    rcases mem_targets_down.1 ht with ⟨ha, rfl⟩ | ⟨g, hg, hlast, ⟨h1, h2⟩, rfl⟩ | ⟨p, hp, ⟨h1, h2⟩, rfl⟩
    · exact .inl ⟨rfl, rfl, rfl, ha⟩
    · exact .inr (.inl ⟨g, hg, hlast, rfl, rfl, rfl, h2, h1⟩)
    · exact .inr (.inr ⟨p, hp, rfl, rfl, rfl, h2, h1⟩)
  · rintro (⟨rfl, rfl, rfl, ha⟩ | ⟨g, hg, hlast, rfl, rfl, rfl, h2, h1⟩ | ⟨p, hp, rfl, rfl, rfl, h2, h1⟩)
    · exact ⟨_, mem_targets_down.2 (.inl ⟨ha, rfl⟩), rfl, rfl, rfl⟩
    · exact ⟨_, mem_targets_down.2 (.inr (.inl ⟨g, hg, hlast, ⟨h1, h2⟩, rfl⟩)), rfl, rfl, rfl⟩
    · exact ⟨_, mem_targets_down.2 (.inr (.inr ⟨p, hp, ⟨h1, h2⟩, rfl⟩)), rfl, rfl, rfl⟩

end Sys2Proof.Machine
end

section
/-! SUPPORT. The integer square root, and the figures of a target's braking curve (R86 to R90). -/

namespace Sys2Proof.Machine

/-! ### The integer square root (R90) -/

/-- With the root of `n` between `root` and `root + 2 ^ k`, the search below bit `k` ends at the root. -/
theorem rootFrom_bounds {n : Nat} : ∀ {k root : Nat}, root * root ≤ n → n < (root + 2 ^ k) * (root + 2 ^ k) →
    rootFrom n k root * rootFrom n k root ≤ n ∧ n < (rootFrom n k root + 1) * (rootFrom n k root + 1)
  | 0, _, hle, hlt => ⟨hle, hlt⟩
  | k + 1, root, hle, hlt => by
    rw [rootFrom]
    split
    · next hbit =>
      refine rootFrom_bounds hbit ?_
      rwa [add_assoc, ← two_mul, ← pow_succ']
    · next hbit => exact rootFrom_bounds hle (not_le.1 hbit)

/-- Below 48 bits the search from bit 24 on finds the greatest number whose square does not exceed `n`. -/
theorem squareRoot_eq_sqrt {n : Nat} (h : n < 2 ^ 48) : squareRoot n = Nat.sqrt n := by
  obtain ⟨hle, hlt⟩ := rootFrom_bounds (n := n) (k := 24) (root := 0) (Nat.zero_le n) (by simpa using h)
  exact Nat.eq_sqrt.2 ⟨hle, hlt⟩

/-! ### The curve speed (R90) -/

/-- The radicand of a target's curve (R90). -/
def radicandOf (target effectiveDistance : Nat) (effective : Int) : Nat :=
  target ^ 2 + 2 * effective.toNat * effectiveDistance

theorem curveSpeed_eq (floor maximum target distance : Nat) (effective : Int) :
    curveSpeed floor maximum target distance effective =
      if effective < floor then target
      else if maximum ^ 2 ≤ radicandOf target distance effective then maximum
      else squareRoot (radicandOf target distance effective) := by
  simp only [radicandOf, pow_two]
  rfl

theorem curveSpeed_below_floor {floor : Nat} {effective : Int} (h : effective < floor) (maximum target distance : Nat) :
    curveSpeed floor maximum target distance effective = target := if_pos h

theorem curveSpeed_capped {floor maximum target distance : Nat} {effective : Int} (h : floor ≤ effective)
    (hcap : maximum ^ 2 ≤ radicandOf target distance effective) :
    curveSpeed floor maximum target distance effective = maximum := by
  rw [curveSpeed_eq, if_neg (not_lt.2 h), if_pos hcap]

theorem curveSpeed_root {floor maximum target distance : Nat} {effective : Int} (hmax : maximum ≤ 12500)
    (h : floor ≤ effective) (hcap : radicandOf target distance effective < maximum ^ 2) :
    curveSpeed floor maximum target distance effective = Nat.sqrt (radicandOf target distance effective) := by
  have hbits : maximum ^ 2 < 2 ^ 48 := (Nat.pow_le_pow_left hmax 2).trans_lt (by norm_num)
  rw [curveSpeed_eq, if_neg (not_lt.2 h), if_neg (not_le.2 hcap), squareRoot_eq_sqrt (hcap.trans hbits)]

/-- With no distance left to brake in, a target below the line maximum gives its own speed. -/
theorem curveSpeed_no_distance {floor maximum target : Nat} {effective : Int} (hmax : maximum ≤ 12500)
    (htarget : target < maximum) : curveSpeed floor maximum target 0 effective = target := by
  rcases lt_or_ge effective floor with h | h
  · exact curveSpeed_below_floor h ..
  · have hradicand : radicandOf target 0 effective = target ^ 2 := by simp [radicandOf]
    rw [curveSpeed_root hmax h (hradicand ▸ Nat.pow_lt_pow_left htarget two_ne_zero), hradicand, Nat.sqrt_eq']

/-! ### Gradient, gravity and deceleration (R86 to R88) -/

theorem worstGradient_eq_min? (w : Way) (span : List Located) :
    worstGradient w span = ((span.map fun g => directedGradient w g.record).min?).getD 0 := by
  cases span with
  | nil => rfl
  | cons g rest => rw [List.map_cons, List.min?_cons', List.foldl_map]; rfl

theorem worstGradient_le {w : Way} {span : List Located} {g : Located} (h : g ∈ span) :
    worstGradient w span ≤ directedGradient w g.record := by
  have hg : directedGradient w g.record ∈ span.map fun g => directedGradient w g.record := List.mem_map_of_mem h
  rw [worstGradient_eq_min?]
  cases hmin : (span.map fun g => directedGradient w g.record).min? with
  | none => rw [List.min?_eq_none_iff.1 hmin] at hg; cases hg
  | some z => exact (List.min?_eq_some_iff.1 hmin).2 _ hg

theorem worstGradient_attained {w : Way} {span : List Located} (h : span ≠ []) :
    ∃ g ∈ span, worstGradient w span = directedGradient w g.record := by
  rw [worstGradient_eq_min?]
  cases hmin : (span.map fun g => directedGradient w g.record).min? with
  | none => exact absurd (List.map_eq_nil_iff.1 (List.min?_eq_none_iff.1 hmin)) h
  | some z =>
    obtain ⟨g, hg, hz⟩ := List.mem_map.1 (List.min?_eq_some_iff.1 hmin).1
    exact ⟨g, hg, hz.symm⟩

/-- The gravity term is 9.81 for each per mille of descent, rounded up, and 0 without a descent. -/
theorem gravityTerm_bounds (worst : Int) :
    -worst * 981 ≤ gravityTerm worst * 100 ∧
    (0 < gravityTerm worst → (gravityTerm worst : Int) * 100 < -worst * 981 + 100) := by
  unfold gravityTerm
  omega

theorem decelerationKind_eq (health : Health) (adhesion : Bool) :
    decelerationKind health adhesion =
      if health = .failed ∨ health = .untested then
        if adhesion then .adhesionEmergency else .rackEmergency
      else if adhesion then .adhesionService else .rackService := by
  cases health <;> cases adhesion <;> rfl

theorem usedDeceleration_ok (p : Table Nat 52) (adhesion : Bool) :
    usedDeceleration p .ok adhesion = if adhesion then paramValue p 4 else paramValue p 2 := by
  cases adhesion <;> rfl

theorem usedDeceleration_degraded (p : Table Nat 52) (adhesion : Bool) :
    usedDeceleration p .degraded adhesion =
      (if adhesion then paramValue p 4 else paramValue p 2) * paramValue p 6 / 100 := by
  cases adhesion <;> rfl

theorem usedDeceleration_failed (p : Table Nat 52) (adhesion : Bool) :
    usedDeceleration p .failed adhesion = if adhesion then paramValue p 5 else paramValue p 3 := by
  cases adhesion <;> rfl

theorem usedDeceleration_untested (p : Table Nat 52) (adhesion : Bool) :
    usedDeceleration p .untested adhesion = if adhesion then paramValue p 5 else paramValue p 3 := by
  cases adhesion <;> rfl

/-! ### The reaction distance (R89) -/

theorem reactionDistance_eq (p : Table Nat 52) (v : Nat) :
    reactionDistance p v =
      if v * paramValue p 7 % 1000 = 0 then v * paramValue p 7 / 1000 else v * paramValue p 7 / 1000 + 1 := by
  rw [reactionDistance, reactionTime]
  split <;> omega

theorem reactionDistance_zero (p : Table Nat 52) : reactionDistance p 0 = 0 := by simp [reactionDistance]

end Sys2Proof.Machine
end

section
/-! Chapter 5: the braking curve of a target (R86 to R90, R94). -/

namespace Sys2Proof.Machine

/-- The figures of a target's curve: gradient, gravity, kind and effective deceleration (R86, R87, R88). -/
theorem curve_record_deceleration (s : State) (w : Way) (v : Nat) (t : Target) :
    let c := (curve s w v t).record
    let adhesion := (overlapping s t.spanLow t.spanHigh).any fun g => g.record.track == some .adhesion
    c.worstGradient = worstGradient w (overlapping s t.spanLow t.spanHigh) ∧ c.gravity = gravityTerm c.worstGradient ∧
    c.kind = decelerationKind s.brc.service.health adhesion ∧
    c.effectiveDeceleration = (usedDeceleration s.cmc.params s.brc.service.health adhesion : Int) - c.gravity :=
  ⟨rfl, rfl, rfl, rfl⟩

/-- The speed of a target's curve, from what its record holds (R90). -/
theorem curve_speed (s : State) (w : Way) (v : Nat) (t : Target) :
    (curve s w v t).speed =
      curveSpeed (paramValue s.cmc.params 8) (paramValue s.cmc.params 1) t.speed
        (curve s w v t).record.effectiveDistance (curve s w v t).record.effectiveDeceleration := rfl

theorem curve_effectiveDistance (s : State) (w : Way) (v : Nat) (t : Target) :
    (curve s w v t).record.effectiveDistance = t.distance - reactionDistance s.cmc.params v := rfl

theorem curve_floorApplied (s : State) (w : Way) (v : Nat) (t : Target) :
    (curve s w v t).record.floorApplied =
      decide ((curve s w v t).record.effectiveDeceleration < paramValue s.cmc.params 8) := rfl

/-- Settles O22: the record's figures one by one, and the cases of the curve speed with the integer square root. -/
theorem brakingCurveOfTarget : Obligations.BrakingCurveOfTarget := by
  refine ⟨fun s w v t => ?_, fun s w v t hmax => ?_⟩
  · intro c span directed adhesion p
    have hdirected : ∀ g, directed g = directedGradient w g.record := fun g => by cases w <;> rfl
    obtain ⟨hworst, hgravity, hkind, heffective⟩ := curve_record_deceleration s w v t
    refine ⟨fun g hg => ?_, fun hspan => ?_, ?_, rfl, rfl, rfl, hkind.trans (decelerationKind_eq ..), ?_⟩
    · rw [hdirected]
      exact worstGradient_le hg
    · simp only [hdirected]
      exact worstGradient_attained hspan
    · exact gravityTerm_bounds c.worstGradient
    · refine heffective.trans (congrArg (· - (c.gravity : Int)) ?_)
      cases s.brc.service.health with
      | ok => rw [usedDeceleration_ok]; exact Nat.cast_ite ..
      | degraded => rw [usedDeceleration_degraded]
      | failed => rw [usedDeceleration_failed]; exact Nat.cast_ite ..
      | untested => rw [usedDeceleration_untested]; exact Nat.cast_ite ..
  · intro c run reaction a radicand top
    refine ⟨?_, fun hv => ?_, ?_, fun hfloor => ?_, fun hfloor hcap => ?_, fun hfloor hcap => ?_, fun hzero htarget => ?_⟩
    · exact (curve_effectiveDistance ..).trans (congrArg (t.distance - ·) (reactionDistance_eq ..))
    · subst hv
      rw [curve_effectiveDistance, reactionDistance_zero, Nat.sub_zero]
    · rw [curve_floorApplied, decide_eq_true_iff]
    · exact curveSpeed_below_floor hfloor ..
    · exact curveSpeed_capped hfloor hcap
    · have hspeed : c.speed = Nat.sqrt radicand := curveSpeed_root hmax hfloor hcap
      rw [hspeed]
      exact ⟨Nat.sqrt_le' _, Nat.lt_succ_sqrt' _, Nat.sqrt_lt'.2 hcap⟩
    · rw [curve_speed, hzero]
      exact curveSpeed_no_distance hmax htarget

end Sys2Proof.Machine
end

section
/-! SUPPORT. The order in which limits and targets are judged: line maximum, blanket causes, segments by index, parts by slot
with the in-force part first; at equal distance the line end, segments, parts by slot (R94). -/

namespace Sys2Proof.Machine

/-! ### Lists in order -/

/-- In a list in order, the first item found comes before or with every other item that meets the condition. -/
theorem first_of_find? {α : Type} {R : α → α → Prop} (hrefl : ∀ a, R a a) {l : List α} (hl : l.Pairwise R)
    {p : α → Bool} {a : α} (h : l.find? p = some a) : ∀ b ∈ l, p b = true → R a b := by
  obtain ⟨-, before, after, rfl, hbefore⟩ := List.find?_eq_some_iff_append.1 h
  obtain ⟨-, hafter, -⟩ := List.pairwise_append.1 hl
  intro b hb hpb
  rcases List.mem_append.1 hb with hb | hb
  · exact absurd hpb (by simpa using hbefore b hb)
  · rcases List.mem_cons.1 hb with rfl | hb
    · exact hrefl _
    · exact List.rel_of_pairwise_cons hafter hb

/-- In a list in ascending order of a rank, an item found earlier has no higher rank. -/
theorem rank_le_of_idxOf_le {α : Type} [DecidableEq α] {rank : α → Nat} {l : List α}
    (hl : l.Pairwise fun a b => rank a ≤ rank b) {a b : α} (ha : a ∈ l) (hb : b ∈ l) (h : l.idxOf a ≤ l.idxOf b) :
    rank a ≤ rank b := by
  rcases h.lt_or_eq with hlt | heq
  · simpa using List.pairwise_iff_getElem.1 hl _ _ (List.idxOf_lt_length_iff.2 ha) (List.idxOf_lt_length_iff.2 hb) hlt
  · rw [(List.idxOf_inj ha).1 heq]

/-! ### Segments, records and parts in order (R36, R71) -/

theorem locate_index_ge {length i : Nat} {l : List SegmentRecord} {g : Located} (h : g ∈ locate length i l) :
    i ≤ g.index := by
  fun_induction locate length i l with
  | case1 => cases h
  | case2 => rw [List.mem_singleton.1 h]
  | case3 i r r' rest ih =>
    rcases List.mem_cons.1 h with rfl | h
    · exact le_rfl
    · exact (Nat.le_succ i).trans (ih h)

theorem locate_ascending (length i : Nat) (l : List SegmentRecord) :
    (locate length i l).Pairwise fun a b => a.index ≤ b.index := by
  fun_induction locate length i l with
  | case1 => exact List.Pairwise.nil
  | case2 => exact List.pairwise_singleton ..
  | case3 i r r' rest ih => exact List.Pairwise.cons (fun g hg => (Nat.le_succ i).trans (locate_index_ge hg)) ih

theorem overlapping_ascending (s : State) (low high : Nat) :
    (overlapping s low high).Pairwise fun a b => a.index ≤ b.index := by
  have hsegments : (segments s).Pairwise fun a b => a.index ≤ b.index := by
    unfold segments
    split
    · exact locate_ascending ..
    · exact List.Pairwise.nil
  unfold overlapping
  split
  · exact hsegments.filter _
  · exact List.Pairwise.nil

theorem heldFrom_ascending (i : Nat) (l : List (Option Restriction)) :
    (heldFrom i l).Pairwise fun a b => a.1 < b.1 := by
  fun_induction heldFrom i l with
  | case1 => exact List.Pairwise.nil
  | case2 i rest ih => exact ih
  | case3 i r rest ih =>
    refine List.Pairwise.cons (fun y hy => ?_) ih
    obtain ⟨n, hn, -⟩ := mem_heldFrom.1 hy
    dsimp only
    omega

/-- A part comes before or with another: a lower slot first, and in a slot the in-force part first (R94). -/
def PartName.Precedes (n m : PartName) : Prop :=
  n.slot < m.slot ∨ n.slot = m.slot ∧ (n.inForce = true ∨ m.inForce = false)

theorem PartName.Precedes.refl (n : PartName) : n.Precedes n := .inr ⟨rfl, by cases n.inForce <;> simp⟩

theorem PartName.Precedes.slot_le {n m : PartName} (h : n.Precedes m) : n.slot ≤ m.slot := by
  rcases h with h | ⟨h, -⟩ <;> omega

/-- A record's parts that apply: its in-force part if any, then its trailing part if any, each with its name (R71). -/
theorem recordParts_split (w : Way) (slot : Nat) (r : Restriction) :
    ∃ held left, recordParts w slot r = held ++ left ∧ (∀ p ∈ held, p.name = ⟨slot, r.origin, r.id, true⟩) ∧
      ∀ p ∈ left, p.name = ⟨slot, r.origin, r.id, false⟩ := by
  obtain ⟨origin, id, sequence, appliesTo, inForce, trailing, life⟩ := r
  refine ⟨_, _, rfl, fun p hp => ?_, fun p hp => ?_⟩
  · cases inForce with
    | none => cases hp
    | some q => dsimp only at hp; split at hp <;> simp_all
  · cases trailing with
    | none => cases hp
    | some q => dsimp only at hp; split at hp <;> simp_all

theorem recordParts_slot {w : Way} {slot : Nat} {r : Restriction} {p : AppliedPart} (h : p ∈ recordParts w slot r) :
    p.name.slot = slot := by
  obtain ⟨held, left, heq, hheld, hleft⟩ := recordParts_split w slot r
  rw [heq] at h
  rcases List.mem_append.1 h with h | h
  · rw [hheld p h]
  · rw [hleft p h]

theorem recordParts_inOrder (w : Way) (slot : Nat) (r : Restriction) :
    (recordParts w slot r).Pairwise fun p q => p.name.Precedes q.name := by
  obtain ⟨held, left, heq, hheld, hleft⟩ := recordParts_split w slot r
  rw [heq, List.pairwise_append]
  refine ⟨List.pairwise_of_forall_mem_list fun p hp q hq => ?_, List.pairwise_of_forall_mem_list fun p hp q hq => ?_,
    fun p hp q hq => ?_⟩
  · rw [hheld p hp, hheld q hq]; exact .inr ⟨rfl, .inl rfl⟩
  · rw [hleft p hp, hleft q hq]; exact .inr ⟨rfl, .inr rfl⟩
  · rw [hheld p hp, hleft q hq]; exact .inr ⟨rfl, .inl rfl⟩

theorem appliedParts_inOrder (s : State) (w : Way) :
    (appliedParts s w).Pairwise fun p q => p.name.Precedes q.name := by
  refine List.pairwise_flatMap.2 ⟨fun y _ => recordParts_inOrder w y.1 y.2, ?_⟩
  refine (heldFrom_ascending 0 _).imp fun hslot p hp q hq => .inl ?_
  rwa [recordParts_slot hp, recordParts_slot hq]

/-! ### Limits in order (R94) -/

/-- The place of a blanket cause in the order of R94. -/
def Blanket.place : Blanket → Nat
  | .linkSilence => 0
  | .tableOverflow => 1
  | .position => 2
  | .brake => 3
  | .noProfile => 4

/-- An item that sets a local limit comes before or with another in the order of R94. -/
def Governing.Precedes : Governing → Governing → Prop
  | .lineMaximum, _ => True
  | .blanket b, .blanket c => b.place ≤ c.place
  | .blanket _, .segment _ => True
  | .blanket _, .part _ => True
  | .segment i, .segment j => i ≤ j
  | .segment _, .part _ => True
  | .part n, .part m => n.Precedes m
  | .lineEnd, .lineEnd => True
  | _, _ => False

theorem Governing.Precedes.refl : ∀ item : Governing, item.Precedes item
  | .lineMaximum => trivial
  | .blanket _ => Nat.le_refl _
  | .segment _ => Nat.le_refl _
  | .part n => PartName.Precedes.refl n
  | .lineEnd => trivial

/-- Limits in the order of R94. -/
def LimitsInOrder (l : List LocalLimit) : Prop := l.Pairwise fun a b => a.item.Precedes b.item

theorem globalLimits_inOrder (s : State) : LimitsInOrder (globalLimits s) := by
  have hall : Blanket.all.Pairwise fun b c => b.place ≤ c.place := by decide
  exact List.Pairwise.cons (fun _ _ => trivial) ((hall.filter _).map _ fun _ _ h => h)

theorem segmentLimits_inOrder (s : State) (w : Way) (low high : Nat) : LimitsInOrder (segmentLimits s w low high) :=
  (overlapping_ascending s low high).map _ fun _ _ h => h

theorem partLimits_inOrder (s : State) (w : Way) (low high : Nat) : LimitsInOrder (partLimits s w low high) :=
  ((appliedParts_inOrder s w).filter _).map _ fun _ _ h => h

/-! ### Targets in order (R94) -/

/-- The rank of a target's item at equal distance: the line end, the segments, the parts by slot. -/
def Governing.rank : Governing → Nat
  | .lineEnd => 0
  | .segment _ => 1
  | .part n => 2 + n.slot
  | .lineMaximum => 0
  | .blanket _ => 0

theorem targetAt_item {s : State} {w : Way} {low high place limit : Nat} {item : Governing} {t : Target}
    (h : t ∈ targetAt s w low high place limit item) : t.item = item := by
  cases w with
  | up => obtain ⟨-, rfl⟩ := mem_targetAt_up.1 h; rfl
  | down => obtain ⟨-, rfl⟩ := mem_targetAt_down.1 h; rfl

theorem endTarget_item {s : State} {w : Way} {low high : Nat} {t : Target} (h : t ∈ endTarget s w low high) :
    t.item = .lineEnd := by
  cases w <;> simp only [endTarget] at h <;> split at h <;> simp_all

theorem segmentTargets_item {s : State} {w : Way} {low high : Nat} {t : Target} (h : t ∈ segmentTargets s w low high) :
    ∃ i, t.item = .segment i := by
  obtain ⟨g, -, ht⟩ := List.mem_flatMap.1 h
  cases w with
  | up => exact ⟨_, targetAt_item ht⟩
  | down =>
    dsimp only at ht
    split at ht
    · cases ht
    · exact ⟨_, targetAt_item ht⟩

/-- Where a part's target lies: the zone start for UP, the zone end for DOWN (R82, R83). -/
def AppliedPart.place (p : AppliedPart) : Way → Nat
  | .up => p.zoneStart
  | .down => p.zoneEnd

theorem partTargets_eq (s : State) (w : Way) (low high : Nat) :
    partTargets s w low high =
      (appliedParts s w).flatMap fun p => targetAt s w low high (p.place w) p.limit (.part p.name) := by
  cases w <;> rfl

theorem partTargets_item {s : State} {w : Way} {low high : Nat} {t : Target} (h : t ∈ partTargets s w low high) :
    ∃ n, t.item = .part n := by
  rw [partTargets_eq] at h
  obtain ⟨p, -, ht⟩ := List.mem_flatMap.1 h
  exact ⟨p.name, targetAt_item ht⟩

theorem partTargets_ranked (s : State) (w : Way) (low high : Nat) :
    (partTargets s w low high).Pairwise fun a b => a.item.rank ≤ b.item.rank := by
  rw [partTargets_eq, List.pairwise_flatMap]
  refine ⟨fun p _ => List.pairwise_of_forall_mem_list fun a ha b hb => ?_, ?_⟩
  · rw [targetAt_item ha, targetAt_item hb]
  · refine (appliedParts_inOrder s w).imp fun h a ha b hb => ?_
    rw [targetAt_item ha, targetAt_item hb]
    exact Nat.add_le_add_left h.slot_le 2

/-- The targets of a direction stand in the order that decides at equal distance (R94). -/
theorem targets_ranked (s : State) (w : Way) (low high : Nat) :
    (targets s w low high).Pairwise fun a b => a.item.rank ≤ b.item.rank := by
  refine List.pairwise_append.2 ⟨List.pairwise_append.2 ⟨List.pairwise_of_forall_mem_list fun a ha b hb => ?_,
    List.pairwise_of_forall_mem_list fun a ha b hb => ?_, fun a ha b hb => ?_⟩, partTargets_ranked s w low high,
    fun a ha b hb => ?_⟩
  · rw [endTarget_item ha, endTarget_item hb]
  · obtain ⟨i, hi⟩ := segmentTargets_item ha
    obtain ⟨j, hj⟩ := segmentTargets_item hb
    rw [hi, hj]
    exact Nat.le_refl 1
  · rw [endTarget_item ha]
    exact Nat.zero_le _
  · obtain ⟨n, hn⟩ := partTargets_item hb
    rw [hn]
    rcases List.mem_append.1 ha with ha | ha
    · rw [endTarget_item ha]
      exact Nat.zero_le _
    · obtain ⟨i, hi⟩ := segmentTargets_item ha
      rw [hi]
      change 1 ≤ 2 + n.slot
      omega

end Sys2Proof.Machine
end

section
/-! SUPPORT. The computation of V_perm for one direction: the limits and the targets it takes, the lowest of them, and what
governs (R81, R91 to R94). -/

namespace Sys2Proof.Machine

/-! ### What a pass takes (R81, R92, R93) -/

/-- The limits that a pass takes of the profile and of the table: in SHUNT the parts alone and with status VALID alone, and
none without a position. -/
def spanLimits (s : State) (w : Way) : List LocalLimit :=
  match carSpan s with
  | none => []
  | some (low, high) =>
    if s.cmc.mode = .shunt then
      if s.odo.status = .valid then partLimits s w low high else []
    else segmentLimits s w low high ++ partLimits s w low high

/-- The limits that a pass takes, in the order of R94. -/
def passLimits (s : State) (w : Way) : List LocalLimit := globalLimits s ++ spanLimits s w

/-- V_loc of a pass. -/
def localLimitOf (s : State) (w : Way) : Nat := lowestLimit (lineMaximum s.cmc.params) (passLimits s w)

/-- The targets that a pass takes: those below V_loc, none in SHUNT and none without a position (R85, R92, R93). -/
def passTargets (s : State) (w : Way) : List Target :=
  match carSpan s with
  | none => []
  | some (low, high) =>
    if s.cmc.mode = .shunt then [] else (targets s w low high).filter fun t => t.speed < localLimitOf s w

/-- How a pass is evaluated (R94). -/
def passEvaluation (s : State) : Evaluation :=
  if s.cmc.mode = .shunt then .shunt else if carSpan s = none then .noPosition else .full

theorem computePass_eq (s : State) (v : Nat) (w : Way) :
    computePass s v w =
      passRecord (passEvaluation s) w v (passLimits s w) (lineMaximum s.cmc.params)
        ((passTargets s w).map (curve s w v)) := by
  unfold computePass passEvaluation passTargets localLimitOf passLimits spanLimits
  by_cases hshunt : s.cmc.mode = .shunt
  · cases s.odo.status <;> cases carSpan s <;> simp [hshunt]
  · cases carSpan s <;> simp [hshunt]

theorem mem_globalLimits {s : State} {x : LocalLimit} :
    x ∈ globalLimits s ↔ x = ⟨paramValue s.cmc.params 1, .lineMaximum⟩ ∨
      ∃ b, (seenBlankets s).has b = true ∧ x = ⟨blanketLimit s.cmc.params b, .blanket b⟩ := by
  have hall : ∀ b, b ∈ Blanket.all := fun b => by cases b <;> decide
  simp [globalLimits, lineMaximum, hall, eq_comm (b := x)]

theorem mem_segmentLimits {s : State} {w : Way} {low high : Nat} {x : LocalLimit} :
    x ∈ segmentLimits s w low high ↔
      ∃ g ∈ overlapping s low high, x = ⟨g.record.limit w, .segment g.index⟩ := by
  simp [segmentLimits, eq_comm (b := x)]

theorem mem_partLimits {s : State} {w : Way} {low high : Nat} {x : LocalLimit} :
    x ∈ partLimits s w low high ↔
      ∃ p ∈ appliedParts s w, p.zoneStart ≤ high ∧ low < p.zoneEnd ∧ x = ⟨p.limit, .part p.name⟩ := by
  simp [partLimits, meets, and_assoc, eq_comm (b := x)]

theorem mem_spanLimits {s : State} {w : Way} {x : LocalLimit} :
    x ∈ spanLimits s w ↔
      (s.cmc.mode ≠ .shunt ∧ ∃ low high, carSpan s = some (low, high) ∧
        ∃ g ∈ overlapping s low high, x = ⟨g.record.limit w, .segment g.index⟩) ∨
      ((s.cmc.mode = .shunt → s.odo.status = .valid) ∧ ∃ low high, carSpan s = some (low, high) ∧
        ∃ p ∈ appliedParts s w, p.zoneStart ≤ high ∧ low < p.zoneEnd ∧ x = ⟨p.limit, .part p.name⟩) := by
  simp only [← mem_segmentLimits, ← mem_partLimits, spanLimits]
  rcases carSpan s with _ | ⟨low, high⟩
  · simp
  · by_cases hshunt : s.cmc.mode = .shunt
    · by_cases hvalid : s.odo.status = .valid <;> simp [hshunt, hvalid]
    · simp [hshunt]

theorem mem_passLimits {s : State} {w : Way} {x : LocalLimit} :
    x ∈ passLimits s w ↔
      x = ⟨paramValue s.cmc.params 1, .lineMaximum⟩ ∨
      (∃ b, (seenBlankets s).has b = true ∧ x = ⟨blanketLimit s.cmc.params b, .blanket b⟩) ∨
      (s.cmc.mode ≠ .shunt ∧ ∃ low high, carSpan s = some (low, high) ∧
        ∃ g ∈ overlapping s low high, x = ⟨g.record.limit w, .segment g.index⟩) ∨
      ((s.cmc.mode = .shunt → s.odo.status = .valid) ∧ ∃ low high, carSpan s = some (low, high) ∧
        ∃ p ∈ appliedParts s w, p.zoneStart ≤ high ∧ low < p.zoneEnd ∧ x = ⟨p.limit, .part p.name⟩) := by
  rw [passLimits, List.mem_append, mem_globalLimits, mem_spanLimits, or_assoc]

theorem spanLimits_inOrder (s : State) (w : Way) : LimitsInOrder (spanLimits s w) := by
  unfold spanLimits
  rcases carSpan s with _ | ⟨low, high⟩
  · exact List.Pairwise.nil
  · dsimp only
    split
    · split
      · exact partLimits_inOrder s w low high
      · exact List.Pairwise.nil
    · refine List.pairwise_append.2 ⟨segmentLimits_inOrder s w low high, partLimits_inOrder s w low high, ?_⟩
      intro x hx y hy
      obtain ⟨g, -, rfl⟩ := mem_segmentLimits.1 hx
      obtain ⟨p, -, -, -, rfl⟩ := mem_partLimits.1 hy
      trivial

theorem passLimits_inOrder (s : State) (w : Way) : LimitsInOrder (passLimits s w) := by
  refine List.pairwise_append.2 ⟨globalLimits_inOrder s, spanLimits_inOrder s w, fun x hx y hy => ?_⟩
  rcases mem_globalLimits.1 hx with rfl | ⟨b, -, rfl⟩
  · trivial
  · rcases mem_spanLimits.1 hy with ⟨-, _, _, -, _, -, rfl⟩ | ⟨-, _, _, -, _, -, -, -, rfl⟩ <;> trivial

theorem mem_passTargets {s : State} {w : Way} {t : Target} :
    t ∈ passTargets s w ↔
      s.cmc.mode ≠ .shunt ∧ ∃ low high, carSpan s = some (low, high) ∧
        t ∈ targets s w low high ∧ t.speed < localLimitOf s w := by
  unfold passTargets
  rcases carSpan s with _ | ⟨low, high⟩
  · simp
  · by_cases hshunt : s.cmc.mode = .shunt <;> simp [hshunt]

theorem passTargets_ranked (s : State) (w : Way) :
    (passTargets s w).Pairwise fun a b => a.item.rank ≤ b.item.rank := by
  unfold passTargets
  cases carSpan s with
  | none => exact List.Pairwise.nil
  | some span =>
    dsimp only
    split
    · exact List.Pairwise.nil
    · exact (targets_ranked s w span.1 span.2).filter _

theorem passTargets_of_shunt {s : State} (h : s.cmc.mode = .shunt) (w : Way) : passTargets s w = [] :=
  List.eq_nil_iff_forall_not_mem.2 fun _ ht => (mem_passTargets.1 ht).1 h

theorem passTargets_of_no_span {s : State} (h : carSpan s = none) (w : Way) : passTargets s w = [] := by
  rw [passTargets, h]

theorem passTargets_of_span {s : State} {low high : Nat} (hshunt : s.cmc.mode ≠ .shunt)
    (h : carSpan s = some (low, high)) (w : Way) :
    passTargets s w = (targets s w low high).filter fun t => t.speed < localLimitOf s w := by
  rw [passTargets, h]
  exact if_neg hshunt

/-! ### V_loc and V_perm (R81, R91) -/

theorem localLimitOf_mem (s : State) (w : Way) : ∃ x ∈ passLimits s w, x.limit = localLimitOf s w := by
  have hlowest := (List.min?_eq_some_iff.1 (lowestLimit_eq_min? (lineMaximum s.cmc.params) (passLimits s w))).1
  rcases List.mem_cons.1 hlowest with h | h
  · exact ⟨_, mem_passLimits.2 (.inl rfl), h.symm⟩
  · exact List.mem_map.1 h

theorem localLimitOf_le {s : State} {w : Way} {x : LocalLimit} (h : x ∈ passLimits s w) :
    localLimitOf s w ≤ x.limit :=
  (List.min?_eq_some_iff.1 (lowestLimit_eq_min? (lineMaximum s.cmc.params) (passLimits s w))).2 _
    (List.mem_cons_of_mem _ (List.mem_map_of_mem h))

/-- The evaluation, the direction, the speed and the number of targets in the record of a pass (R94). -/
theorem computePass_fields (s : State) (v : Nat) (w : Way) :
    (computePass s v w).evaluation = passEvaluation s ∧ (computePass s v w).direction = w ∧
    (computePass s v w).speed = v ∧ (computePass s v w).targets = (passTargets s w).length := by
  rw [computePass_eq]
  exact ⟨rfl, rfl, rfl, List.length_map _⟩

theorem computePass_localLimit (s : State) (v : Nat) (w : Way) : (computePass s v w).localLimit = localLimitOf s w := by
  rw [computePass_eq]
  rfl

/-- V_perm of a pass is the lowest of V_loc and of the curves of the targets it takes. -/
theorem computePass_permitted_min? (s : State) (v : Nat) (w : Way) :
    (localLimitOf s w :: (passTargets s w).map fun t => (curve s w v t).speed).min? =
      some (computePass s v w).permitted := by
  rw [computePass_eq, List.min?_cons', List.foldl_map, passRecord, List.foldl_map]
  rfl

theorem computePass_permitted_le (s : State) (v : Nat) (w : Way) : (computePass s v w).permitted ≤ localLimitOf s w :=
  (List.min?_eq_some_iff.1 (computePass_permitted_min? s v w)).2 _ List.mem_cons_self

theorem computePass_permitted_le_curve {s : State} {w : Way} {t : Target} (h : t ∈ passTargets s w) (v : Nat) :
    (computePass s v w).permitted ≤ (curve s w v t).speed :=
  (List.min?_eq_some_iff.1 (computePass_permitted_min? s v w)).2 _ (List.mem_cons_of_mem _ (List.mem_map_of_mem h))

theorem computePass_permitted_attained (s : State) (v : Nat) (w : Way) :
    (computePass s v w).permitted = localLimitOf s w ∨
      ∃ t ∈ passTargets s w, (curve s w v t).speed = (computePass s v w).permitted :=
  (List.mem_cons.1 (List.min?_eq_some_iff.1 (computePass_permitted_min? s v w)).1).imp_right List.mem_map.1

/-! ### What governs (R94) -/

theorem governingCurve_eq_argmin (curves : List Curve) (v : Nat) :
    governingCurve curves v = (curves.filter fun c => c.speed == v).argmin fun c => c.record.distance := by
  unfold governingCurve List.argmin
  congr 1
  funext best c
  cases best <;> rfl

/-- Where some curve of a list in order of rank has the speed, the governing one does, and of those it is the one of least
distance, at equal distance of least rank. -/
theorem governingCurve_nearest {curves : List Curve} {v : Nat} (horder : curves.Pairwise fun a b => a.item.rank ≤ b.item.rank)
    (h : ∃ c ∈ curves, c.speed = v) :
    ∃ c ∈ curves, governingCurve curves v = some c ∧ c.speed = v ∧ ∀ c' ∈ curves, c'.speed = v →
      c.record.distance < c'.record.distance ∨
      c.record.distance = c'.record.distance ∧ c.item.rank ≤ c'.item.rank := by
  have hmem : ∀ {c}, c ∈ curves.filter (fun c => c.speed == v) ↔ c ∈ curves ∧ c.speed = v := by simp
  rw [governingCurve_eq_argmin]
  cases hnearest : (curves.filter fun c => c.speed == v).argmin fun c => c.record.distance with
  | none =>
    obtain ⟨c, hc⟩ := h
    rw [List.argmin_eq_none.1 hnearest] at hmem
    cases hmem.2 hc
  | some c =>
    have hc := List.argmin_mem hnearest
    refine ⟨c, (hmem.1 hc).1, rfl, (hmem.1 hc).2, fun c' hc' hv => ?_⟩
    replace hc' := hmem.2 ⟨hc', hv⟩
    rcases (List.le_of_mem_argmin hc' hnearest).lt_or_eq with hlt | heq
    · exact .inl hlt
    · have hfirst := List.index_of_argmin hnearest hc' heq.ge
      exact .inr ⟨heq, rank_le_of_idxOf_le (rank := fun c => c.item.rank) (horder.filter _) hc hc' hfirst⟩

/-- The curve that governs a pass: none where V_perm is V_loc. -/
def passCurve (s : State) (v : Nat) (w : Way) : Option Curve :=
  if (computePass s v w).permitted = localLimitOf s w then none
  else governingCurve ((passTargets s w).map (curve s w v)) (computePass s v w).permitted

theorem computePass_target (s : State) (v : Nat) (w : Way) :
    (computePass s v w).target = (passCurve s v w).map Curve.record := by
  rw [passCurve, computePass_eq]
  rfl

theorem computePass_governing (s : State) (v : Nat) (w : Way) :
    (computePass s v w).governing =
      (passCurve s v w).elim (firstItem (passLimits s w) (localLimitOf s w)) fun c => some c.item := by
  have h : (computePass s v w).governing = match passCurve s v w with
      | none => firstItem (passLimits s w) (localLimitOf s w)
      | some c => some c.item := by
    rw [passCurve, computePass_eq]
    rfl
  rw [h]
  cases passCurve s v w <;> rfl

/-- The first limit that equals V_loc sets it, and every other item that does comes later in the order of R94. -/
theorem firstItem_governs (s : State) (w : Way) :
    ∃ item, firstItem (passLimits s w) (localLimitOf s w) = some item ∧
      ⟨localLimitOf s w, item⟩ ∈ passLimits s w ∧
      ∀ item', ⟨localLimitOf s w, item'⟩ ∈ passLimits s w → item.Precedes item' := by
  unfold firstItem
  cases hfirst : (passLimits s w).find? fun x => x.limit == localLimitOf s w with
  | none =>
    obtain ⟨x, hx, hlimit⟩ := localLimitOf_mem s w
    exact absurd hlimit (by simpa using List.find?_eq_none.1 hfirst x hx)
  | some x =>
    have hlimit : x.limit = localLimitOf s w := by simpa using List.find?_some hfirst
    refine ⟨x.item, rfl, ?_, fun item' hitem => ?_⟩
    · rw [← hlimit]
      exact List.mem_of_find?_eq_some hfirst
    · have horder : (passLimits s w).Pairwise fun a b => a.item.Precedes b.item := passLimits_inOrder s w
      exact first_of_find? (fun x => Governing.Precedes.refl x.item) horder hfirst ⟨_, item'⟩ hitem (beq_self_eq_true _)

/-- Where V_perm is V_loc, no target is recorded, and the first limit that equals V_loc in the order of R94 governs. -/
theorem computePass_governing_local {s : State} {v : Nat} {w : Way}
    (h : (computePass s v w).permitted = localLimitOf s w) :
    (computePass s v w).target = none ∧
      (computePass s v w).governing = firstItem (passLimits s w) (localLimitOf s w) := by
  rw [computePass_target, computePass_governing, passCurve, if_pos h]
  exact ⟨rfl, rfl⟩

/-- Where V_perm lies below V_loc, the nearest target whose curve is V_perm governs and is recorded. -/
theorem computePass_governing_target {s : State} {v : Nat} {w : Way}
    (h : (computePass s v w).permitted < localLimitOf s w) :
    ∃ t ∈ passTargets s w, (curve s w v t).speed = (computePass s v w).permitted ∧
      (computePass s v w).governing = some t.item ∧ (computePass s v w).target = some (curve s w v t).record ∧
      ∀ t' ∈ passTargets s w, (curve s w v t').speed = (computePass s v w).permitted →
        t.distance < t'.distance ∨ t.distance = t'.distance ∧ t.item.rank ≤ t'.item.rank := by
  have horder : ((passTargets s w).map (curve s w v)).Pairwise fun a b => a.item.rank ≤ b.item.rank :=
    (passTargets_ranked s w).map _ fun _ _ h => h
  obtain ⟨t, ht, hspeed⟩ := (computePass_permitted_attained s v w).resolve_left h.ne
  obtain ⟨c, hc, hgoverns, hperm, hnearest⟩ := governingCurve_nearest horder ⟨_, List.mem_map_of_mem ht, hspeed⟩
  obtain ⟨t, ht, rfl⟩ := List.mem_map.1 hc
  have hcurve : passCurve s v w = some (curve s w v t) := (if_neg h.ne).trans hgoverns
  refine ⟨t, ht, hperm, ?_, ?_, fun t' ht' hspeed' => hnearest _ (List.mem_map_of_mem ht') hspeed'⟩
  · rw [computePass_governing, hcurve]
    rfl
  · rw [computePass_target, hcurve]
    rfl

end Sys2Proof.Machine
end

section
/-! Chapter 5: the permitted speed of a pass and its record (R81, R85, R91 to R94). -/

namespace Sys2Proof.Machine

/-- A limit that a pass takes: the line maximum, that of an active blanket, that of a segment the car span meets outside
SHUNT, or that of a part it meets, in SHUNT with status VALID alone (R81, R92, R93). -/
def PassLimit (s : State) (w : Way) (l : Nat) : Prop :=
  l = paramValue s.cmc.params 1 ∨ (∃ b, (seenBlankets s).has b = true ∧ l = blanketLimit s.cmc.params b) ∨
  (s.cmc.mode ≠ .shunt ∧ ∃ low high, carSpan s = some (low, high) ∧
    ∃ g ∈ overlapping s low high, l = g.record.limit w) ∨
  ((s.cmc.mode = .shunt → s.odo.status = .valid) ∧ ∃ low high, carSpan s = some (low, high) ∧
    ∃ p ∈ appliedParts s w, p.zoneStart ≤ high ∧ low < p.zoneEnd ∧ l = p.limit)

theorem passLimit_iff {s : State} {w : Way} {l : Nat} : PassLimit s w l ↔ ∃ item, ⟨l, item⟩ ∈ passLimits s w := by
  simp only [mem_passLimits, LocalLimit.mk.injEq]
  constructor
  · rintro (rfl | ⟨b, hb, rfl⟩ | ⟨hshunt, low, high, hspan, g, hg, rfl⟩ |
      ⟨hvalid, low, high, hspan, p, hp, hstart, hend, rfl⟩)
    · exact ⟨_, .inl ⟨rfl, rfl⟩⟩
    · exact ⟨_, .inr (.inl ⟨b, hb, rfl, rfl⟩)⟩
    · exact ⟨_, .inr (.inr (.inl ⟨hshunt, low, high, hspan, g, hg, rfl, rfl⟩))⟩
    · exact ⟨_, .inr (.inr (.inr ⟨hvalid, low, high, hspan, p, hp, hstart, hend, rfl, rfl⟩))⟩
  · rintro ⟨item, ⟨rfl, -⟩ | ⟨b, hb, rfl, -⟩ | ⟨hshunt, low, high, hspan, g, hg, rfl, -⟩ |
      ⟨hvalid, low, high, hspan, p, hp, hstart, hend, rfl, -⟩⟩
    · exact .inl rfl
    · exact .inr (.inl ⟨b, hb, rfl⟩)
    · exact .inr (.inr (.inl ⟨hshunt, low, high, hspan, g, hg, rfl⟩))
    · exact .inr (.inr (.inr ⟨hvalid, low, high, hspan, p, hp, hstart, hend, rfl⟩))

/-- A blanket that sets the limit `l`. -/
def BlanketSets (s : State) (l : Nat) (b : Blanket) : Prop :=
  (seenBlankets s).has b = true ∧ blanketLimit s.cmc.params b = l

/-- A segment index that sets the limit `l` (R81, R92). -/
def SegmentSets (s : State) (w : Way) (l i : Nat) : Prop :=
  s.cmc.mode ≠ .shunt ∧ ∃ low high, carSpan s = some (low, high) ∧
    ∃ g ∈ overlapping s low high, g.index = i ∧ g.record.limit w = l

/-- A part that sets the limit `l` (R81, R92). -/
def PartSets (s : State) (w : Way) (l : Nat) (n : PartName) : Prop :=
  (s.cmc.mode = .shunt → s.odo.status = .valid) ∧ ∃ low high, carSpan s = some (low, high) ∧
    ∃ p ∈ appliedParts s w, p.zoneStart ≤ high ∧ low < p.zoneEnd ∧ p.name = n ∧ p.limit = l

theorem passLimits_lineMaximum {s : State} {w : Way} {l : Nat} :
    ⟨l, .lineMaximum⟩ ∈ passLimits s w ↔ l = paramValue s.cmc.params 1 := by
  simp [mem_passLimits]

theorem passLimits_blanket {s : State} {w : Way} {l : Nat} {b : Blanket} :
    ⟨l, .blanket b⟩ ∈ passLimits s w ↔ BlanketSets s l b := by
  simp [mem_passLimits, BlanketSets, eq_comm (b := l)]

theorem passLimits_segment {s : State} {w : Way} {l i : Nat} :
    ⟨l, .segment i⟩ ∈ passLimits s w ↔ SegmentSets s w l i := by
  simp [mem_passLimits, SegmentSets, eq_comm (b := l), eq_comm (b := i), and_comm]

theorem passLimits_part {s : State} {w : Way} {l : Nat} {n : PartName} :
    ⟨l, .part n⟩ ∈ passLimits s w ↔ PartSets s w l n := by
  simp [mem_passLimits, PartSets, eq_comm (b := l), eq_comm (b := n), and_comm]

theorem passLimits_lineEnd {s : State} {w : Way} {l : Nat} : ⟨l, .lineEnd⟩ ∉ passLimits s w := by
  simp [mem_passLimits]

/-- An item governs where V_perm is V_loc: the line maximum where it is V_loc, otherwise the first blanket cause, failing one
the segment of least index, failing one the first part, of those that set V_loc (R94). -/
def GovernsLocal (s : State) (w : Way) (l : Nat) (item : Governing) : Prop :=
  if l = paramValue s.cmc.params 1 then item = .lineMaximum
  else
    match item with
    | .lineMaximum => False
    | .blanket b => BlanketSets s l b ∧ ∀ b', BlanketSets s l b' → b.place ≤ b'.place
    | .segment i => (∀ b, ¬BlanketSets s l b) ∧ SegmentSets s w l i ∧ ∀ i', SegmentSets s w l i' → i ≤ i'
    | .part n =>
      (∀ b, ¬BlanketSets s l b) ∧ (∀ i, ¬SegmentSets s w l i) ∧ PartSets s w l n ∧
      ∀ n', PartSets s w l n' → n.Precedes n'
    | .lineEnd => False

/-- The item of the first limit in the order of R94 governs. -/
theorem governsLocal_of_first {s : State} {w : Way} {l : Nat} {item : Governing} (hmem : ⟨l, item⟩ ∈ passLimits s w)
    (hfirst : ∀ item', ⟨l, item'⟩ ∈ passLimits s w → item.Precedes item') : GovernsLocal s w l item := by
  have hblanket : ∀ b, BlanketSets s l b → item.Precedes (.blanket b) := fun b hb => hfirst _ (passLimits_blanket.2 hb)
  have hsegment : ∀ i, SegmentSets s w l i → item.Precedes (.segment i) :=
    fun i hi => hfirst _ (passLimits_segment.2 hi)
  have hpart : ∀ n, PartSets s w l n → item.Precedes (.part n) := fun n hn => hfirst _ (passLimits_part.2 hn)
  unfold GovernsLocal
  split
  · next hmax =>
    have hline : item.Precedes .lineMaximum := hfirst _ (passLimits_lineMaximum.2 hmax)
    cases item with
    | lineMaximum => rfl
    | blanket | segment | part | lineEnd => exact hline.elim
  · next hmax =>
    cases item with
    | lineMaximum => exact hmax (passLimits_lineMaximum.1 hmem)
    | blanket b => exact ⟨passLimits_blanket.1 hmem, hblanket⟩
    | segment i => exact ⟨hblanket, passLimits_segment.1 hmem, hsegment⟩
    | part n => exact ⟨hblanket, hsegment, passLimits_part.1 hmem, hpart⟩
    | lineEnd => exact passLimits_lineEnd hmem

/-- Settles O23: V_loc and V_perm as the lowest of what the pass takes, and the record from the order of its limits and
targets. -/
theorem permittedSpeedIsLowest : Obligations.PermittedSpeedIsLowest := by
  intro s v w r shunt limits curves
  have hlocal : r.localLimit = localLimitOf s w := computePass_localLimit s v w
  obtain ⟨hevaluation, hdirection, hrecorded, htargets⟩ := computePass_fields s v w
  have hlimits : ∀ l, limits l ↔ ∃ item, ⟨l, item⟩ ∈ passLimits s w := fun _ => passLimit_iff
  have hcurves : ∀ l, curves l ↔ ∃ t ∈ passTargets s w, (curve s w v t).speed = l := by
    intro l
    simp only [curves, hlocal, mem_passTargets]
    constructor
    · rintro ⟨hshunt, low, high, hspan, t, ht, hbelow, rfl⟩
      exact ⟨t, ⟨hshunt, low, high, hspan, ht, hbelow⟩, rfl⟩
    · rintro ⟨t, ⟨hshunt, low, high, hspan, ht, hbelow⟩, rfl⟩
      exact ⟨hshunt, low, high, hspan, t, ht, hbelow, rfl⟩
  have hle : ∀ l, limits l → r.localLimit ≤ l := fun l hl => by
    obtain ⟨item, hitem⟩ := (hlimits l).1 hl
    rw [hlocal]
    exact localLimitOf_le hitem
  have hpermitted : r.permitted ≤ r.localLimit := hlocal ▸ computePass_permitted_le s v w
  refine ⟨?_, hle, hpermitted, ?_, ?_, ?_⟩
  · obtain ⟨x, hx, hlimit⟩ := localLimitOf_mem s w
    exact (hlimits _).2 ⟨x.item, by rw [hlocal, ← hlimit]; exact hx⟩
  · intro l hl
    obtain ⟨t, ht, rfl⟩ := (hcurves l).1 hl
    exact computePass_permitted_le_curve ht v
  · rw [hcurves, hlocal]
    exact computePass_permitted_attained s v w
  intro blanketPlace setBlanket setSegment setPart governsLocal rank
  have hrank : ∀ item, rank item = item.rank := fun item => by cases item <;> rfl
  have hgoverns : ∀ item, GovernsLocal s w r.localLimit item → governsLocal item := fun item h => by
    cases item <;> exact h
  refine ⟨hpermitted.trans (hle _ (.inl rfl)), ?_, ?_, ?_, ?_, ?_, ?_, ?_, ?_⟩
  · intro hshunt
    rw [htargets, passTargets_of_shunt hshunt, List.length_nil]
  · intro hspan
    rw [htargets, passTargets_of_no_span hspan, List.length_nil]
  · exact hdirection
  · exact hrecorded
  · exact hevaluation
  · intro hshunt low high hspan
    rw [htargets, hlocal, passTargets_of_span hshunt hspan]
  · intro h
    obtain ⟨htarget, hgoverning⟩ := computePass_governing_local (h.trans hlocal)
    obtain ⟨item, hitem, hmem, hfirst⟩ := firstItem_governs s w
    refine ⟨htarget, item, hgoverning.trans hitem, hgoverns item ?_⟩
    rw [hlocal]
    exact governsLocal_of_first hmem hfirst
  · intro h
    obtain ⟨t, ht, hspeed, hgoverning, htarget, hnearest⟩ := computePass_governing_target (h.trans_eq hlocal)
    obtain ⟨hshunt, low, high, hspan, hmem, hbelow⟩ := mem_passTargets.1 ht
    rw [← hlocal] at hbelow
    refine ⟨low, high, hspan, t, hmem, hbelow, hspeed, hgoverning, htarget, fun t' ht' hbelow' hspeed' => ?_⟩
    rw [hrank, hrank]
    rw [hlocal] at hbelow'
    exact hnearest t' (mem_passTargets.2 ⟨hshunt, low, high, hspan, ht', hbelow'⟩) hspeed'

end Sys2Proof.Machine
end

section
/-! SUPPORT. What keeps the law of the blanket set (R97 to R99): the operations that touch neither the set nor its causes,
and the few that change a cause together with the set. -/

namespace Sys2Proof.Machine

/-- What holds of the blanket set in `s` holds of it in `t`: the law, and what is left of the law where R76 and R97 part
(assumption log 4). -/
structure BlanketsKept (s t : State) : Prop where
  law : BlanketLaw s → BlanketLaw t
  causes : CausesLaw s → CausesLaw t

/-- The law implies what is left of it. -/
theorem BlanketLaw.causesLaw {s : State} (h : BlanketLaw s) : CausesLaw s :=
  ⟨h.1.1.1, h.1.2, h.2⟩

namespace BlanketsKept

theorem refl (s : State) : BlanketsKept s s := ⟨id, id⟩

theorem trans {s t u : State} (h : BlanketsKept s t) (k : BlanketsKept t u) : BlanketsKept s u :=
  ⟨fun hs => k.law (h.law hs), fun hs => k.causes (h.causes hs)⟩

theorem foldl {α : Type} {f : State → α → State} (h : ∀ s a, BlanketsKept s (f s a)) :
    ∀ (l : List α) (s : State), BlanketsKept s (l.foldl f s)
  | [], s => refl s
  | a :: l, s => (h s a).trans (foldl h l (f s a))

/-- An event that takes one of two operations. -/
theorem ite {s t u : State} (p : Prop) [Decidable p] (ht : BlanketsKept s t) (hu : BlanketsKept s u) :
    BlanketsKept s (if p then t else u) := by
  split
  · exact ht
  · exact hu

/-- The laws read the dialogue, the set, the position status, the SERVICE channel's health and the mode. -/
theorem of_same {s t : State} (hdialogue : t.vrl.dialogue = s.vrl.dialogue) (hset : t.ssv.blankets = s.ssv.blankets)
    (hstatus : t.odo.status = s.odo.status) (hhealth : t.brc.service.health = s.brc.service.health)
    (hmode : t.cmc.mode = s.cmc.mode) : BlanketsKept s t := by
  constructor
  · unfold BlanketLaw JoinedLaw PositionLaw BrakeLaw ShuntLaw
    rw [hdialogue, hset, hstatus, hhealth, hmode]
    exact id
  · unfold CausesLaw PositionLaw BrakeLaw ShuntLaw
    rw [hdialogue, hset, hstatus, hhealth, hmode]
    exact id

/-- An operation on a state that differs from `s` in nothing the laws read. -/
theorem after_same {s x u : State} (h : BlanketsKept x u) (hdialogue : x.vrl.dialogue = s.vrl.dialogue)
    (hset : x.ssv.blankets = s.ssv.blankets) (hstatus : x.odo.status = s.odo.status)
    (hhealth : x.brc.service.health = s.brc.service.health) (hmode : x.cmc.mode = s.cmc.mode) : BlanketsKept s u :=
  (of_same hdialogue hset hstatus hhealth hmode).trans h

/-- An operation that leaves CMC, ODO, SSV, BRC and VRL alone. -/
theorem of_blocks {s t : State}
    (h : t.cmc = s.cmc ∧ t.odo = s.odo ∧ t.ssv = s.ssv ∧ t.brc = s.brc ∧ t.vrl = s.vrl) : BlanketsKept s t := by
  obtain ⟨hcmc, hodo, hssv, hbrc, hvrl⟩ := h
  exact of_same (by rw [hvrl]) (by rw [hssv]) (by rw [hodo]) (by rw [hbrc]) (by rw [hcmc])

/-- An operation of DRC on its leaves, gangs and records. -/
theorem of_doors {s t : State} (h : DoorMove s t) (hssv : t.ssv = s.ssv) : BlanketsKept s t :=
  of_same (by rw [h.links.vrl]) (by rw [hssv]) (by rw [h.odo]) (by rw [h.brc]) (by rw [h.cmc])

/-- An operation of BRC that leaves the channels' healths. -/
theorem of_brakes {s t : State} (h : t.cmc = s.cmc ∧ t.odo = s.odo ∧ t.ssv = s.ssv ∧ t.vrl = s.vrl)
    (hhealth : (t.brc.channel .service).health = (s.brc.channel .service).health) : BlanketsKept s t := by
  obtain ⟨hcmc, hodo, hssv, hvrl⟩ := h
  exact of_same (by rw [hvrl]) (by rw [hssv]) (by rw [hodo]) hhealth (by rw [hcmc])

/-- A request keeps the law where its owner does. -/
theorem request (q : Byte) {owner : State → Reply × State} {s : State} (h : BlanketsKept s (owner s).2) :
    BlanketsKept s (request q owner s) := by
  unfold Machine.request
  split
  · exact of_same rfl rfl rfl rfl rfl
  · exact h.trans (of_same rfl rfl rfl rfl rfl)

/-! ### The brakes and the latch -/

theorem raise (c : Attention) (s : State) : BlanketsKept s (raise c s) := of_same rfl rfl rfl rfl rfl

theorem handAlarm (c : AlarmCause) (s : State) : BlanketsKept s (handAlarm c s) := of_doors (.handAlarm c s) (by simp)

theorem settle (s : State) : BlanketsKept s (settle s) := of_brakes (by simp) (by simp)

theorem setSupervision (c : Channel) (x : Supervision) (s : State) : BlanketsKept s (setSupervision c x s) :=
  of_brakes (by simp) (by cases c <;> rfl)

theorem testOver (r : TestResult) (s : State) : BlanketsKept s (testOver r s) :=
  of_brakes (by simp) (by simp [Machine.testOver, resumeSupervision]; rfl)

theorem abortTest (r : AbortReason) (s : State) : BlanketsKept s (abortTest r s) :=
  of_brakes (by simp) (abortTest_health r .service s)

theorem addLatchCause (c : LatchCause) (s : State) : BlanketsKept s (addLatchCause c s) := by
  unfold Machine.addLatchCause
  split
  · exact refl s
  · have hset : BlanketsKept s { s with brc.latch := s.brc.latch.add c, brc.hostHold := holdAfterLatch s } :=
      of_same rfl rfl rfl rfl rfl
    exact (((hset.trans (raise _ _)).trans (handAlarm _ _)).trans (abortTest _ _)).trans (settle _)

theorem addLatchIf (b : Bool) (c : LatchCause) (s : State) : BlanketsKept s (addLatchIf b c s) :=
  ite _ (addLatchCause c s) (refl s)

theorem testMotion (s : State) : BlanketsKept s (testMotion s) :=
  ite _ ((abortTest _ s).trans (addLatchCause _ _)) (refl s)

theorem emptyLatch (s : State) : BlanketsKept s (emptyLatch s) := by
  have hset : BlanketsKept s { s with brc.latch := LatchSet.empty } := of_same rfl rfl rfl rfl rfl
  have hssv : ∀ t, BlanketsKept t (latchEmptiedAtSsv t) := fun t => ite _ (of_same rfl rfl rfl rfl rfl) (refl t)
  exact ((hset.trans (settle _)).trans (raise _ _)).trans (hssv _)

/-- A changed health of the SERVICE channel brings or removes BRAKE with it (R99, R113). -/
theorem changeHealth (c : Channel) (h : Health) (s : State) : BlanketsKept s (changeHealth c h s) := by
  unfold Machine.changeHealth
  split
  · exact refl s
  · cases c with
    | service =>
      exact ⟨fun ⟨hjoined, hposition, _, hshunt⟩ => ⟨hjoined, hposition, rfl, hshunt⟩,
        fun ⟨hjoined, hunjoined, hposition, _, hshunt⟩ => ⟨hjoined, hunjoined, hposition, rfl, hshunt⟩⟩
    | holding => exact of_same rfl rfl rfl rfl rfl
    | emergency => exact of_same rfl rfl rfl rfl rfl

theorem faultAlarm (c : Channel) (before : Health) (s : State) : BlanketsKept s (faultAlarm c before s) :=
  ite _ (handAlarm _ s) (refl s)

theorem checkFailure (c : Channel) (s : State) : BlanketsKept s (checkFailure c s) := by
  have hworse := (setSupervision c .idle s).trans (changeHealth c (s.brc.channel c).health.worse _)
  refine (hworse.trans (faultAlarm c (s.brc.channel c).health _)).trans ?_
  exact of_brakes ⟨rfl, rfl, rfl, rfl⟩ (by cases c <;> rfl)

/-! ### Events of DRC (R149, R160 to R162) -/

theorem followDoorHold (s : State) : BlanketsKept s (followDoorHold s) := by
  unfold Machine.followDoorHold
  refine ite _ (refl s) (.trans ?_ (settle _))
  have hhold : ∀ b, BlanketsKept s { s with drc.doorHold := b } := fun _ => of_same rfl rfl rfl rfl rfl
  exact ite _ ((hhold _).trans (abortTest _ _)) (hhold _)

theorem flushReport (s : State) : BlanketsKept s (flushReport s) := by
  have hlinks : LinksKept s (Machine.flushReport s) := .flushReport s
  exact of_same (by rw [hlinks.vrl]) (by simp) (by simp) (by simp) (by simp)

/-- An event of DRC keeps the law where its operation does. -/
theorem drcEvent {f : State → State} {s : State} (h : BlanketsKept s (f s)) : BlanketsKept s (drcEvent f s) :=
  ((h.trans (followDoorHold _)).trans (addLatchIf _ _ _)).trans (flushReport _)

theorem judge (s : State) : BlanketsKept s (judge s) := of_doors (.judge s) (by simp)

theorem judgeRelease (s : State) : BlanketsKept s (judgeRelease s) := drcEvent (judge s)

theorem isolateLeaf (d : Drive) (c : IsolationCause) (s : State) : BlanketsKept s (isolateLeaf d c s) :=
  of_doors (.isolateLeaf d c s) (by simp)

theorem startClosing (ds : List Drive) (k : Nat) (s : State) : BlanketsKept s (startClosing ds k s) :=
  of_doors (.startClosing ds k s) (by simp)

theorem closeLeaves (side : Side) (ds : List Drive) (s : State) : BlanketsKept s (closeLeaves side ds s) :=
  of_doors (.closeLeaves side ds s) (by simp)

theorem closeWithGang (d : Drive) (s : State) : BlanketsKept s (closeWithGang d s) := by
  unfold Machine.closeWithGang
  split
  · exact refl s
  · exact ite _ (closeLeaves _ _ s) (closeLeaves _ _ s)

theorem openLeaf (d : Drive) (s : State) : BlanketsKept s (openLeaf d s) := by
  have hopening : BlanketsKept s (enterOpening d s) := of_blocks (by simp)
  unfold Machine.openLeaf
  split
  · exact refl s
  · split
    · exact ite _ (isolateLeaf d _ s) hopening
    · exact hopening
    · exact of_blocks (by simp)
    · exact refl s

theorem openLeaves (ds : List Drive) (s : State) : BlanketsKept s (ds.foldl (fun s d => Machine.openLeaf d s) s) :=
  foldl (fun s d => openLeaf d s) ds s

theorem leaveHeld (d : Drive) (k : Nat) (s : State) : BlanketsKept s (leaveHeld d k s) := by
  have hindex : ∀ side, BlanketsKept s (setGangIndex side k s) := fun side => of_blocks (by simp)
  unfold Machine.leaveHeld
  split
  · exact refl s
  · exact ite _ ((hindex _).trans (startClosing _ k _)) (startClosing _ k s)

theorem restoreLeaf (d : Drive) (s : State) : BlanketsKept s (restoreLeaf d s) :=
  ite _ (of_blocks (by simp)) (startClosing _ 1 s)

theorem storeRelease (r : Release) (s : State) : BlanketsKept s (storeRelease r s) :=
  after_same (judge (dueReport { s with drc.release := some r })) rfl rfl rfl rfl rfl

theorem removeRelease (s : State) : BlanketsKept s (removeRelease s) :=
  after_same (judge (dueReport { s with drc.release := none })) rfl rfl rfl rfl rfl

theorem lineEvent (d : Drive) (level : DoorInputs → DoorInputs) {f : Leaf → State → State}
    (h : ∀ l s, BlanketsKept s (f l s)) (s : State) : BlanketsKept s (lineEvent d level f s) := by
  have hinputs : BlanketsKept s (setInputs d level s) := of_same rfl rfl rfl rfl rfl
  refine drcEvent ?_
  dsimp only
  split
  · exact hinputs
  · exact hinputs.trans (h _ _)

theorem timerEvent (d : Drive) {f : Leaf → State → State} (h : ∀ l s, BlanketsKept s (f l s)) (s : State) :
    BlanketsKept s (timerEvent d f s) := by
  unfold Machine.timerEvent
  split
  · exact refl s
  · exact ite _ (drcEvent (h _ s)) (refl s)

theorem endDrive (d : Drive) (s : State) : BlanketsKept s (endDrive d s) := of_blocks (by simp)

theorem openSwitchMade (d : Drive) (l : Leaf) (s : State) : BlanketsKept s (openSwitchMade d l s) := by
  unfold Machine.openSwitchMade
  split
  · exact of_blocks (by simp)
  · exact endDrive d s

theorem closedSwitchChanged (d : Drive) (made : Bool) (l : Leaf) (s : State) :
    BlanketsKept s (closedSwitchChanged d made l s) := by
  unfold Machine.closedSwitchChanged
  split
  · exact ite _ (of_blocks (by simp)) (refl s)
  · exact ite _ (refl s) (startClosing _ _ s)
  · exact refl s

theorem lockSwitchChanged (d : Drive) (confirms : Bool) (l : Leaf) (s : State) :
    BlanketsKept s (lockSwitchChanged d confirms l s) := by
  unfold Machine.lockSwitchChanged
  split
  · exact ite _ (of_blocks (by simp)) (refl s)
  · exact ite _ (of_blocks (by simp)) (of_blocks (by simp))
  · exact refl s

theorem pressButton (d : Drive) (l : Leaf) (s : State) : BlanketsKept s (pressButton d l s) :=
  ite _ (ite _ (openLeaves _ s) (openLeaf d s)) (refl s)

theorem takeDoorRelease (station side : Byte) (s : State) : BlanketsKept s (takeDoorRelease station side s) := by
  unfold Machine.takeDoorRelease
  split
  · exact drcEvent ((raise _ s).trans (storeRelease _ _))
  · exact drcEvent (of_same rfl rfl rfl rfl rfl)
  · exact refl s

theorem takeDoorWithdraw (station : Byte) (s : State) : BlanketsKept s (takeDoorWithdraw station s) := by
  unfold Machine.takeDoorWithdraw
  split
  · exact ite _ (drcEvent ((raise _ s).trans (removeRelease _))) (refl s)
  · exact refl s

/-! ### New parameter values (R12) -/

theorem formDoors (s : State) : BlanketsKept s (formDoors s) :=
  drcEvent (f := fun s => formGang .right (formGang .left (formLeaves s))) (of_doors (.formBoth s) (by simp))

theorem activate (p : Table Nat 52) (s : State) : BlanketsKept s (activate p s) := by
  have hparams : BlanketsKept s { s with cmc.params := p } := of_same rfl rfl rfl rfl rfl
  have hreceiver : ∀ a b t, BlanketsKept t (restartReceiver a b t) := fun a b t =>
    ite _ (refl t) (of_same rfl rfl rfl rfl rfl)
  exact ((hparams.trans (hreceiver s.cmc.params p _)).trans (settle _)).trans (formDoors _)

theorem applyPendingSet (s : State) : BlanketsKept s (applyPendingSet s) := by
  have hempty : BlanketsKept s { s with cmc.pendingSet := emptyPending } := of_same rfl rfl rfl rfl rfl
  exact ite _ (refl s) (hempty.trans (activate _ _))

end BlanketsKept

end Sys2Proof.Machine
end

section
/-! SUPPORT. What keeps the law of the blanket set, block by block: the brake test, ODO, SSV, CMC and VRL
(R97 to R99, R186). -/

namespace Sys2Proof.Machine

namespace BlanketsKept

/-! ### The brake test and the feedback of BRC (R114, R133 to R137) -/

theorem beginStep (st : TestStep) (s : State) : BlanketsKept s (beginStep st s) :=
  after_same (settle _) rfl rfl rfl rfl rfl

theorem endStep (st : TestStep) (o : StepOutcome) (s : State) : BlanketsKept s (endStep st o s) := by
  have hresult : BlanketsKept s { s with brc.result.steps := s.brc.result.steps.set st o } :=
    of_same rfl rfl rfl rfl rfl
  unfold Machine.endStep
  split
  · exact hresult
  · exact (hresult.trans (changeHealth _ _ _)).trans (faultAlarm _ _ _)

theorem handHoldingHealth (before : Health) (s : State) : BlanketsKept s (handHoldingHealth before s) :=
  ite _ (refl s) (judgeRelease s)

theorem runSteps (steps : List TestStep) (before : Health) (s : State) : BlanketsKept s (runSteps steps before s) := by
  induction steps generalizing before s with
  | nil => exact testOver _ s
  | cons st rest ih =>
    have hbegun := (beginStep st s).trans (handHoldingHealth before _)
    exact ite _ (hbegun.trans ((endStep st _ _).trans (ih _ _))) hbegun

theorem finishStep (t : TestContext) (o : StepOutcome) (s : State) : BlanketsKept s (finishStep t o s) :=
  (endStep t.step o s).trans (runSteps _ _ _)

theorem testFeedback (c : Channel) (s : State) : BlanketsKept s (testFeedback c s) := by
  unfold Machine.testFeedback
  split
  · exact refl s
  · exact ite _ (finishStep _ _ s) (refl s)

theorem startTest (s : State) : BlanketsKept s (startTest s) := by
  have hidle := ((setSupervision .service .idle s).trans (setSupervision .holding .idle _)).trans
    (setSupervision .emergency .idle _)
  exact hidle.trans (after_same (runSteps _ _ _) rfl rfl rfl rfl rfl)

theorem storeFeedback (f : Feedback) (s : State) : BlanketsKept s (storeFeedback f s) := by
  cases f <;> exact of_same rfl rfl rfl rfl rfl

theorem superviseFeedback (c : Channel) (s : State) : BlanketsKept s (superviseFeedback c s) := by
  unfold Machine.superviseFeedback
  split
  · exact refl s
  · exact ite _ (setSupervision c _ s) (refl s)
  · exact ite _ (refl s) (setSupervision c _ s)

theorem confirmHolding (c : Channel) (s : State) : BlanketsKept s (confirmHolding c s) :=
  ite _ (of_same rfl rfl rfl rfl rfl) (refl s)

/-! ### ODO (R15, R19, R98) -/

/-- A position status brings or removes POSITION with it (R19, R98). -/
theorem setStatus (x : PositionStatus) (reason : Option DegradedReason) (s : State) :
    BlanketsKept s (setStatus x reason s) :=
  ⟨fun ⟨hjoined, _, hbrake, hshunt⟩ => ⟨hjoined, rfl, hbrake, hshunt⟩,
    fun ⟨hjoined, hunjoined, _, hbrake, hshunt⟩ => ⟨hjoined, hunjoined, rfl, hbrake, hshunt⟩⟩

theorem setEstimate (n u : Nat) (s : State) : BlanketsKept s (setEstimate n u s) := of_same rfl rfl rfl rfl rfl

theorem discardEstimate (s : State) : BlanketsKept s (discardEstimate s) :=
  after_same (setStatus _ _ _) rfl rfl rfl rfl rfl

theorem moveEstimate (pair : Pair) (way : Way) (s : State) : BlanketsKept s (moveEstimate pair way s) := by
  unfold Machine.moveEstimate
  split
  · exact refl s
  · exact ite _ ((setEstimate _ _ s).trans (setStatus _ _ _)) (setEstimate _ _ s)

theorem anchor (s : State) : BlanketsKept s (anchor s) := by
  unfold Machine.anchor
  split
  · exact refl s
  · split
    · exact (setEstimate _ _ s).trans (setStatus _ _ _)
    · split
      · exact refl s
      · exact (setStatus _ _ s).trans (handAlarm _ _)

theorem anchorAfter (m : Meshing) (way : Way) (s : State) : BlanketsKept s (anchorAfter m way s) := by
  unfold Machine.anchorAfter
  split
  · exact anchor s
  · exact anchor s
  · exact refl s

theorem changeWatch (m : Meshing) (before : Option Nat) (fromSource : Bool) (s : State) :
    BlanketsKept s (changeWatch m before fromSource s) := by
  have hwatch : ∀ w, BlanketsKept s { s with odo.watch := w } := fun _ => of_same rfl rfl rfl rfl rfl
  unfold Machine.changeWatch
  dsimp only
  split
  · exact (hwatch _).trans (addLatchCause _ _)
  · exact hwatch _

theorem accumulate (pair : Pair) (way : Way) (s : State) : BlanketsKept s (accumulate pair way s) := by
  have hsums : ∀ x y, BlanketsKept s { s with odo.windowSum := x, odo.reverse := y } := fun _ _ =>
    of_same rfl rfl rfl rfl rfl
  exact ite _ ((hsums _ _).trans (addLatchIf _ _ _)) (hsums _ _)

theorem becomeMoving (s : State) : BlanketsKept s (becomeMoving s) := by
  have hmoving : BlanketsKept s
      { s with odo.motion := .moving, odo.standstillTimer := some (standstillWindow s.cmc.params) } :=
    of_same rfl rfl rfl rfl rfl
  have hbrakes := (hmoving.trans (testMotion _)).trans (settle _)
  exact ite _ ((hbrakes.trans (addLatchIf _ _ _)).trans (judgeRelease _)) hmoving

theorem meshedCount (pair : Pair) (way : Way) (s : State) : BlanketsKept s (meshedCount pair way s) := by
  have htotal : BlanketsKept s (addTotal pair way s) := by cases pair <;> exact of_same rfl rfl rfl rfl rfl
  have hlatched := htotal.trans (addLatchIf (s.cmc.mode == .stabled) .stabledMotion _)
  exact hlatched.trans (of_same rfl rfl rfl rfl rfl)

theorem countSteps (pair : Pair) (way : Way) (s : State) : BlanketsKept s (countSteps pair way s) := by
  have hmoved : BlanketsKept s (movedCount pair way s) :=
    ite _ ((meshedCount pair way s).trans (moveEstimate _ _ _)) (meshedCount pair way s)
  have hwatched : BlanketsKept s (watchedCount pair way s) :=
    (hmoved.trans (anchorAfter _ _ _)).trans (changeWatch _ _ _ _)
  rw [countSteps_eq]
  exact (ite _ (hwatched.trans (accumulate _ _ _)) hwatched).trans (becomeMoving _)

theorem takePosition (position uncertainty : Nat) (s : State) : BlanketsKept s (takePosition position uncertainty s) := by
  have hidle : BlanketsKept s { s with odo.watch := .idle } := of_same rfl rfl rfl rfl rfl
  have hset := hidle.trans (setEstimate (position * 1000) (takenUncertainty s position uncertainty) _)
  exact ite _ (hset.trans (setStatus _ _ _)) (hset.trans (setStatus _ _ _))

theorem modesStanding (s : State) : BlanketsKept s (modesStanding s) := ite _ (applyPendingSet s) (refl s)

/-! ### The profile and the settings (R21, R45, R49) -/

theorem profileLost (s : State) : BlanketsKept s (profileLost s) := (discardEstimate s).trans (judgeRelease _)

theorem finishLoad (s : State) : BlanketsKept s (finishLoad s) := by
  have hended : BlanketsKept s { s with lps := endLoad s.lps } := of_same rfl rfl rfl rfl rfl
  exact ite _ (hended.trans (judgeRelease _)) hended

theorem takeStoredProfile (b : ProfileBlock) (s : State) : BlanketsKept s (takeStoredProfile b s) :=
  ite _ (refl s) (ite _ (of_same rfl rfl rfl rfl rfl) (after_same (finishLoad _) rfl rfl rfl rfl rfl))

theorem loadImage (image : List Byte) (s : State) : BlanketsKept s (loadImage image s) := by
  have hloaded : BlanketsKept s
      { s with sld.status := .loaded, sld.clampMark := anyClamped (storedValues image) } := of_same rfl rfl rfl rfl rfl
  have hactive := hloaded.trans (activate (loadedParams (storedValues image)) _)
  exact hactive.trans (takeStoredProfile (storedProfile image) _)

theorem endStartUpLoad (image : List Byte) (s : State) : BlanketsKept s (endStartUpLoad image s) :=
  ite _ (of_same rfl rfl rfl rfl rfl) (ite _ (of_same rfl rfl rfl rfl rfl) (loadImage image s))

/-! ### SSV (R100 to R111) -/

theorem setIntervention (x : Intervention) (s : State) : BlanketsKept s (setIntervention x s) :=
  ite _ (refl s) (of_same rfl rfl rfl rfl rfl)

theorem placeDemand (level : Option Nat) (s : State) : BlanketsKept s (placeDemand level s) :=
  after_same (settle _) rfl rfl rfl rfl rfl

theorem enterEmergency (s : State) : BlanketsKept s (enterEmergency s) :=
  ((setIntervention _ s).trans (addLatchCause _ _)).trans (placeDemand _ _)

theorem enterServiceIntervention (s : State) : BlanketsKept s (enterServiceIntervention s) := by
  have hmarks : BlanketsKept s { s with ssv.acknowledged := false, ssv.released := false } :=
    of_same rfl rfl rfl rfl rfl
  exact (hmarks.trans (setIntervention _ _)).trans (placeDemand _ _)

theorem endIntervention (s : State) : BlanketsKept s (endIntervention s) :=
  (setIntervention _ s).trans (placeDemand _ _)

theorem evaluate (v vPerm : Nat) (s : State) : BlanketsKept s (evaluate v vPerm s) := by
  have hover : ∀ x, BlanketsKept s { s with ssv.overspeed := x } := fun _ => of_same rfl rfl rfl rfl rfl
  have hmarked : ∀ x y, BlanketsKept s { s with ssv.overspeed := x, ssv.released := y } := fun _ _ =>
    of_same rfl rfl rfl rfl rfl
  have hfree : ∀ (excess : Bool) (p : Prop) [Decidable p] (q : Prop) [Decidable q],
      BlanketsKept s
        (if excess = true then Machine.enterEmergency { s with ssv.overspeed := excess }
         else if p then
           if serviceUnusable s = true then Machine.enterEmergency { s with ssv.overspeed := excess }
           else Machine.enterServiceIntervention { s with ssv.overspeed := excess }
         else if q then Machine.setIntervention .warning { s with ssv.overspeed := excess }
         else Machine.setIntervention .normal { s with ssv.overspeed := excess }) := fun _ _ _ _ _ =>
    ite _ ((hover _).trans (enterEmergency _))
      (ite _ (ite _ ((hover _).trans (enterEmergency _)) ((hover _).trans (enterServiceIntervention _)))
        (ite _ ((hover _).trans (setIntervention _ _)) ((hover _).trans (setIntervention _ _))))
  unfold Machine.evaluate
  dsimp only
  split
  · exact (hover _).trans (addLatchIf _ _ _)
  · exact ite _ ((hmarked _ _).trans (enterEmergency _))
      (ite _ ((hmarked _ _).trans (endIntervention _)) ((hmarked _ _).trans (placeDemand _ _)))
  · exact hfree _ _ _
  · exact hfree _ _ _

theorem superviseUpdate (s : State) : BlanketsKept s (superviseUpdate s) :=
  ite _ (after_same (evaluate _ _ _) rfl rfl rfl rfl rfl) (refl s)

theorem takeUpdate (rtbFirst : Bool) (s : State) : BlanketsKept s (takeUpdate rtbFirst s) := by
  have hwindow : BlanketsKept s (closeWindow s) := of_same rfl rfl rfl rfl rfl
  have hclear : ∀ t, BlanketsKept t (checkClearance t) := fun t => of_blocks (by simp)
  exact ite _ ((hwindow.trans (hclear _)).trans (superviseUpdate _)) ((hwindow.trans (superviseUpdate _)).trans (hclear _))

theorem clearSupervision (s : State) : BlanketsKept s (clearSupervision s) := by
  obtain ⟨-, -, -, -, -, hset⟩ := clearSupervision_ssv s
  exact of_same (by simp) hset (by simp) (by simp) (by simp)

theorem takeAcknowledgement (s : State) : BlanketsKept s (takeAcknowledgement s) :=
  ite _ (ite _ (endIntervention s) (of_same rfl rfl rfl rfl rfl)) (refl s)

/-! ### CMC (R8, R13, R99) -/

/-- A mode brings or removes NO_PROFILE with it (R8, R99). -/
theorem storeMode (m : Mode) (s : State) : BlanketsKept s (storeMode m s) :=
  ⟨fun ⟨hjoined, hposition, hbrake, _⟩ => ⟨hjoined, hposition, hbrake, rfl⟩,
    fun ⟨hjoined, hunjoined, hposition, hbrake, _⟩ => ⟨hjoined, hunjoined, hposition, hbrake, rfl⟩⟩

theorem changeMode (m : Mode) (s : State) : BlanketsKept s (changeMode m s) := by
  have hended := ((storeMode m s).trans (clearSupervision _)).trans (applyPendingSet _)
  exact ((ite _ hended (storeMode m s)).trans (settle _)).trans (judgeRelease _)

theorem beginReset (s : State) : BlanketsKept s (beginReset s) := by
  have hempty : BlanketsKept s { s with cmc.pendingSet := emptyPending } := of_same rfl rfl rfl rfl rfl
  have hmodes : BlanketsKept s (resetModes s) := ite _ (hempty.trans (changeMode _ _)) hempty
  exact hmodes.trans (of_same rfl rfl rfl rfl rfl)

theorem afterPart (p : ResetParts) (s : State) : BlanketsKept s (afterPart p s) := by
  obtain ⟨hcmc, hodo, -, -, hssv, hbrc, -, hvrl, -⟩ := afterPart_keeps p s
  exact of_same (by rw [hvrl]) (by rw [hssv]) (by rw [hodo]) (by rw [hbrc]) (by rw [hcmc])

/-- An owner's part of a LINE_RESET, taken or not, keeps the law where the part itself does. -/
theorem takePart (outstanding : Bool) (left : ResetParts) {part : State → State} {s : State}
    (h : BlanketsKept s (part s)) : ∃ t, takePart outstanding left part s = .next t ∧ BlanketsKept s t :=
  ⟨_, rfl, ite _ (h.trans (afterPart left _)) (refl s)⟩

theorem resetBrakes (s : State) : BlanketsKept s (resetBrakes s) :=
  (abortTest .lineReset s).trans (after_same (settle _) rfl rfl rfl rfl rfl)

theorem resetDoors (s : State) : BlanketsKept s (resetDoors s) := of_doors (.resetDoors s) (by simp)

/-! ### The dialogue (R97, R186 to R191) -/

/-- POSITION, BRAKE and NO_PROFILE follow their causes still where nothing but the radio causes changed. -/
theorem otherCauses_of_radio {s t : State}
    (hset : ∃ x y, t.ssv.blankets = { s.ssv.blankets with linkSilence := x, tableOverflow := y })
    (hstatus : t.odo.status = s.odo.status) (hhealth : t.brc.service.health = s.brc.service.health)
    (hmode : t.cmc.mode = s.cmc.mode) (h : PositionLaw s ∧ BrakeLaw s ∧ ShuntLaw s) :
    PositionLaw t ∧ BrakeLaw t ∧ ShuntLaw t := by
  obtain ⟨x, y, hset⟩ := hset
  unfold PositionLaw BrakeLaw ShuntLaw
  rw [hset, hstatus, hhealth, hmode]
  exact h

/-- UNJOINED with LINK_SILENCE is lawful, whatever TABLE_OVERFLOW is (R97). -/
theorem of_unjoined {s t : State} (hdialogue : t.vrl.dialogue = .unjoined)
    (hlink : (s.vrl.dialogue = .unjoined → s.ssv.blankets.linkSilence = true) → t.ssv.blankets.linkSilence = true)
    (hset : ∃ x y, t.ssv.blankets = { s.ssv.blankets with linkSilence := x, tableOverflow := y })
    (hstatus : t.odo.status = s.odo.status) (hhealth : t.brc.service.health = s.brc.service.health)
    (hmode : t.cmc.mode = s.cmc.mode) : BlanketsKept s t := by
  have hrest := otherCauses_of_radio hset hstatus hhealth hmode
  have hjoined : t.vrl.dialogue ≠ .joined := by rw [hdialogue]; decide
  refine ⟨fun h => ⟨⟨⟨fun hd => absurd hd hjoined, fun hradio => ?_⟩, fun _ => hlink h.1.2⟩, hrest h.2⟩,
    fun h => ⟨fun hd => absurd hd hjoined, fun _ => hlink h.2.1, hrest h.2.2⟩⟩
  have hstands := hlink h.1.2
  rw [hradio.1] at hstands
  cases hstands

/-- REPORTING with a radio cause standing is lawful, whatever the dialogue was before (R97). -/
theorem of_reporting {s t : State} (hdialogue : t.vrl.dialogue = .reporting)
    (hradio : BlanketLaw s → t.ssv.blankets.linkSilence = true ∨ t.ssv.blankets.tableOverflow = true)
    (hset : ∃ x y, t.ssv.blankets = { s.ssv.blankets with linkSilence := x, tableOverflow := y })
    (hstatus : t.odo.status = s.odo.status) (hhealth : t.brc.service.health = s.brc.service.health)
    (hmode : t.cmc.mode = s.cmc.mode) : BlanketsKept s t := by
  have hrest := otherCauses_of_radio hset hstatus hhealth hmode
  have hjoined : t.vrl.dialogue ≠ .joined := by rw [hdialogue]; decide
  have hunjoined : t.vrl.dialogue ≠ .unjoined := by rw [hdialogue]; decide
  refine ⟨fun h => ⟨⟨⟨fun hd => absurd hd hjoined, fun hnone => ?_⟩, fun hd => absurd hd hunjoined⟩, hrest h.2⟩,
    fun h => ⟨fun hd => absurd hd hjoined, fun hd => absurd hd hunjoined, hrest h.2.2⟩⟩
  have hstands := hradio h
  rw [hnone.1, hnone.2] at hstands
  exact absurd hstands (by decide)

/-- Entry to UNJOINED brings LINK_SILENCE with it (R97, R186). -/
theorem enterUnjoined (s : State) : BlanketsKept s (enterUnjoined s) := by
  unfold Machine.enterUnjoined
  split
  · exact refl s
  · exact of_unjoined rfl (fun _ => rfl) ⟨true, s.ssv.blankets.tableOverflow, rfl⟩ rfl rfl rfl

/-- Entry to JOINED removes both radio causes (R97, R186). -/
theorem enterJoined (s : State) : BlanketsKept s (enterJoined s) := by
  refine ⟨fun ⟨_, hrest⟩ => ⟨⟨?_, ?_⟩, hrest⟩, fun ⟨_, _, hrest⟩ => ⟨fun _ => ⟨rfl, rfl⟩, ?_, hrest⟩⟩
  · exact ⟨fun _ => ⟨rfl, rfl⟩, fun _ => rfl⟩
  · exact fun h => nomatch h
  · exact fun h => nomatch h

theorem enterReporting_dialogue (s : State) : (Machine.enterReporting s).vrl.dialogue = .reporting := by
  rw [Machine.enterReporting, buildList_eq]
  rfl

/-- REPORTING after UNJOINED, where LINK_SILENCE stands (R187). -/
theorem enterReporting {s : State} (h : s.vrl.dialogue = .unjoined) : BlanketsKept s (enterReporting s) := by
  refine of_reporting (enterReporting_dialogue s) (fun hs => .inl ?_)
    ⟨s.ssv.blankets.linkSilence, s.ssv.blankets.tableOverflow, by simp⟩ (by simp) (by simp) (by simp)
  rw [(enterReporting_keeps s).2.2.2.2.1]
  exact hs.1.2 h

theorem chooseTelegram (s : State) : BlanketsKept s (chooseTelegram s) := by
  unfold Machine.chooseTelegram
  refine ite _ (of_same rfl rfl rfl rfl rfl) ?_
  split
  · rename_i h rest _
    have hqueue : ∀ q, BlanketsKept s { s with vrl.queue := q } := fun _ => of_same rfl rfl rfl rfl rfl
    exact ite _ (((hqueue _).trans (enterUnjoined _)).trans (of_same rfl rfl rfl rfl rfl)) (of_same rfl rfl rfl rfl rfl)
  · exact ite _ (of_same rfl rfl rfl rfl rfl) (of_same rfl rfl rfl rfl rfl)

theorem startWindow (s : State) : BlanketsKept s (startWindow s) :=
  ite _ (of_same rfl rfl rfl rfl rfl)
    (ite _ (of_same rfl rfl rfl rfl rfl) (after_same (chooseTelegram _) rfl rfl rfl rfl rfl))

theorem takeBeacon (f : BeaconFields) (s : State) : BlanketsKept s (takeBeacon f s) := by
  have hnoted : ∀ b w, BlanketsKept s { s with vrl.beacon := b, vrl.windowTimer := w } := fun _ _ =>
    of_same rfl rfl rfl rfl rfl
  have hentered : ∀ t, BlanketsKept t (if t.vrl.dialogue = .unjoined then Machine.enterReporting t else t) := by
    intro t
    split
    · rename_i h
      exact enterReporting h
    · exact refl t
  exact ite _ (((hnoted _ _).trans (hentered _)).trans (startWindow _)) ((hnoted _ _).trans (hentered _))

/-- A RESTRICT that RTB refuses with NAK FULL sets the overflow; any other leaves SSV alone (R64, R65). -/
theorem takeRestrict_full_or_ssv (f : RestrictFields) (s : State) :
    (takeRestrict f s).1 = .nak .full ∧ (takeRestrict f s).2 = setOverflow s ∨
    (takeRestrict f s).1 ≠ .nak .full ∧ (takeRestrict f s).2.ssv = s.ssv := by
  unfold takeRestrict
  repeat' split
  all_goals simp

/-- Away from UNJOINED, REPORTING follows a NAK FULL (R189). -/
theorem dialogueNakFull_dialogue (s : State) :
    (dialogueNakFull s).vrl.dialogue = if s.vrl.dialogue = .unjoined then .unjoined else .reporting := by
  split
  · rename_i h
    rw [dialogueNakFull_unjoined h, h]
  · rename_i h
    rw [dialogueNakFull_vrl h]

/-- A NAK FULL brings TABLE_OVERFLOW and leaves LINK_SILENCE; the dialogue is UNJOINED still or REPORTING (R65, R189). -/
theorem takeRestrictTelegram_of_full {f : RestrictFields} {s : State} (h : takeRestrict f s = (.nak .full, setOverflow s))
    (listFirst : Bool) :
    (Machine.takeRestrictTelegram f listFirst s).ssv.blankets = { s.ssv.blankets with tableOverflow := true } ∧
    (Machine.takeRestrictTelegram f listFirst s).vrl.dialogue =
      if s.vrl.dialogue = .unjoined then .unjoined else .reporting := by
  constructor
  · rw [(takeRestrictTelegram_full_blocks h listFirst).2]
    rfl
  · rw [takeRestrictTelegram_full h]
    cases listFirst <;> simp [dialogueNakFull_dialogue, setOverflow]

/-- Any other answer touches neither the dialogue nor SSV. -/
theorem takeRestrictTelegram_of_replied {f : RestrictFields} {s t : State} {o : ReplyOutcome}
    (h : takeRestrict f s = (o, t)) (ho : o ≠ .nak .full) (listFirst : Bool) (hvrl : t.vrl = s.vrl) :
    (Machine.takeRestrictTelegram f listFirst s).ssv = t.ssv ∧
    (Machine.takeRestrictTelegram f listFirst s).vrl.dialogue = s.vrl.dialogue := by
  rw [takeRestrictTelegram_replied h ho]
  simp [hvrl]

theorem takeRestrictTelegram (f : RestrictFields) (listFirst : Bool) (s : State) :
    BlanketsKept s (takeRestrictTelegram f listFirst s) := by
  obtain ⟨hcmc, hodo, -, hbrc, -⟩ := takeRestrictTelegram_keeps f listFirst s
  rcases takeRestrict_full_or_ssv f s with ⟨hfull, hover⟩ | ⟨hother, hssv⟩
  · obtain ⟨hset, hdialogue⟩ := takeRestrictTelegram_of_full (Prod.ext hfull hover) listFirst
    by_cases hd : s.vrl.dialogue = .unjoined
    · rw [if_pos hd] at hdialogue
      exact of_unjoined hdialogue (fun h => by rw [hset]; exact h hd) ⟨s.ssv.blankets.linkSilence, true, hset⟩
        (by rw [hodo]) (by rw [hbrc]) (by rw [hcmc])
    · rw [if_neg hd] at hdialogue
      exact of_reporting hdialogue (fun _ => .inr (by rw [hset])) ⟨s.ssv.blankets.linkSilence, true, hset⟩
        (by rw [hodo]) (by rw [hbrc]) (by rw [hcmc])
  · obtain ⟨hset, hdialogue⟩ := takeRestrictTelegram_of_replied (Prod.eta (takeRestrict f s)).symm hother listFirst
      (takeRestrict_keeps f s).2.2.2.2.2.1
    rw [hssv] at hset
    exact of_same hdialogue (by rw [hset]) (by rw [hodo]) (by rw [hbrc]) (by rw [hcmc])

end BlanketsKept

end Sys2Proof.Machine
end

section
/-! SUPPORT. What keeps the law of the blanket set: the radio, the parts of a LINE_RESET, power-on and the owners of the
requests (R97 to R99, R168, R183, R186). -/

namespace Sys2Proof.Machine

namespace BlanketsKept

/-! ### Telegrams (R168, R169) -/

theorem takeRevokeTelegram (id : Half) (sequence : Byte) (s : State) :
    BlanketsKept s (takeRevokeTelegram id sequence s) := by
  have hdialogue : (Machine.takeRevokeTelegram id sequence s).vrl.dialogue = s.vrl.dialogue := by
    simp [Machine.takeRevokeTelegram]
  exact of_same hdialogue (by simp) (by simp) (by simp) (by simp)

theorem takeSyncDone (answered : Byte) (s : State) : BlanketsKept s (takeSyncDone answered s) :=
  ite _ (enterJoined s) (refl s)

theorem takeAck (sequence : Byte) (s : State) : BlanketsKept s (takeAck sequence s) := by
  unfold Machine.takeAck
  split
  · exact refl s
  · exact ite _ (of_same rfl rfl rfl rfl rfl) (refl s)

theorem latchError (e : RadioError) (s : State) : BlanketsKept s (latchError e s) := of_same rfl rfl rfl rfl rfl

theorem noticeAttention (s : State) : BlanketsKept s (noticeAttention s) := ite _ (raise _ s) (refl s)

theorem takeNotice (source number : Byte) (text : List Byte) (s : State) :
    BlanketsKept s (takeNotice source number text s) :=
  ite _ (refl s)
    (ite _ (after_same (noticeAttention _) rfl rfl rfl rfl rfl)
      (after_same ((latchError _ _).trans (noticeAttention _)) rfl rfl rfl rfl rfl))

theorem throughGate {take : State → State} {s : State} (h : BlanketsKept s (take s)) :
    BlanketsKept s (throughGate take s) :=
  ite _ h (of_same rfl rfl rfl rfl rfl)

theorem handTelegram (source : Byte) (listFirst : Bool) (t : Telegram) (s : State) :
    BlanketsKept s (handTelegram source listFirst t s) :=
  match t with
  | .beacon f => takeBeacon f s
  | .restrict f => throughGate (takeRestrictTelegram f listFirst s)
  | .revoke id q => throughGate (takeRevokeTelegram id q s)
  | .syncDone a => takeSyncDone a s
  | .doorRelease st sd => takeDoorRelease st sd s
  | .doorWithdraw st => takeDoorWithdraw st s
  | .poll => of_same rfl rfl rfl rfl rfl
  | .notice n text => takeNotice source n text s
  | .ack q => takeAck q s

theorem judgeHeader (h : Header) (t : Option Telegram) (listFirst : Bool) (s : State) :
    BlanketsKept s (judgeHeader h t listFirst s) := by
  unfold Machine.judgeHeader
  refine ite _ (of_same rfl rfl rfl rfl rfl) ?_
  split
  · exact of_same rfl rfl rfl rfl rfl
  · exact ite _ (of_same rfl rfl rfl rfl rfl) (after_same (handTelegram _ _ _ _) rfl rfl rfl rfl rfl)

theorem judgeFrame (f : Frame) (s : State) : BlanketsKept s (judgeFrame f s) :=
  ite _ (of_same rfl rfl rfl rfl rfl) (judgeHeader _ _ _ s)

theorem telegramArrives (h : Header) (t : Telegram) (listFirst : Bool) (s : State) :
    BlanketsKept s (telegramArrives h t listFirst s) :=
  ite _ (refl s) (after_same (judgeHeader _ _ _ _) rfl rfl rfl rfl rfl)

/-! ### The receiver (R165, R166) -/

theorem dropBadLength (s : State) : BlanketsKept s (dropBadLength s) := of_same rfl rfl rfl rfl rfl

theorem dropBadCheck (s : State) : BlanketsKept s (dropBadCheck s) := of_same rfl rfl rfl rfl rfl

theorem completeFrame (length : Byte) (octets : List Byte) (crc : Half) (s : State) :
    BlanketsKept s (completeFrame length octets crc s) := by
  unfold Machine.completeFrame
  refine ite _ ?_ (dropBadCheck s)
  split
  · exact after_same (judgeFrame _ _) rfl rfl rfl rfl rfl
  · exact of_same rfl rfl rfl rfl rfl

theorem takeBit (bit : Bool) (s : State) : BlanketsKept s (takeBit bit s) := by
  have hreceiver : ∀ r, BlanketsKept s { s with vrl.receiver := r } := fun _ => of_same rfl rfl rfl rfl rfl
  unfold Machine.takeBit
  split
  · exact hreceiver _
  · exact ite _ (hreceiver _) (ite _ (hreceiver _) (dropBadLength s))
  · exact ite _ (hreceiver _) (ite _ (hreceiver _) (hreceiver _))
  · refine ite _ (hreceiver _) ?_
    split
    · exact hreceiver _
    · exact completeFrame _ _ _ s

/-! ### The parts of a LINE_RESET (R76, R183, R193) -/

theorem resetPosition (s : State) : BlanketsKept s (resetPosition s) := (setStatus _ _ s).trans (judgeRelease _)

theorem endSupervision (s : State) : BlanketsKept s (endSupervision s) := (clearSupervision s).trans (settle _)

/-- VRL's part leaves the car UNJOINED with LINK_SILENCE, whether or not it removes TABLE_OVERFLOW (R183, R186). -/
theorem resetLink (s : State) : BlanketsKept s (resetLink s) := by
  obtain ⟨hvrl, -, hset⟩ := resetLink_parts s
  obtain ⟨hcmc, hodo, -, -, hbrc, -⟩ := resetLink_keeps s
  refine of_unjoined (by rw [hvrl]) (fun h => ?_) ⟨_, _, hset⟩ (by rw [hodo]) (by rw [hbrc]) (by rw [hcmc])
  rw [hset]
  by_cases hd : s.vrl.dialogue = .unjoined
  · simp [h hd]
  · simp [hd]

/-! ### The owners of the requests -/

theorem judgeRelease148 (side : Byte) (s : State) : BlanketsKept s (judgeRelease148 side s).2 := by
  unfold Machine.judgeRelease148
  repeat' split
  · exact refl s
  · exact refl s
  · exact refl s
  · exact refl s
  · exact refl s
  · exact drcEvent (storeRelease _ s)
  · exact refl s
  · exact drcEvent (storeRelease _ s)
  · exact refl s

theorem judgeWithdraw (s : State) : BlanketsKept s (judgeWithdraw s).2 := ite _ (drcEvent (removeRelease s)) (refl s)

theorem judgeOpenSide (side : Byte) (s : State) : BlanketsKept s (judgeOpenSide side s).2 := by
  unfold Machine.judgeOpenSide
  repeat' split
  · exact refl s
  · dsimp only
    exact drcEvent (openLeaves _ s)
  · exact refl s

theorem judgeCloseSide (side : Byte) (s : State) : BlanketsKept s (judgeCloseSide side s).2 := by
  unfold Machine.judgeCloseSide
  split
  · exact refl s
  · exact drcEvent (closeLeaves _ _ s)

theorem judgeForceClose (drive : Byte) (s : State) : BlanketsKept s (judgeForceClose drive s).2 := by
  unfold Machine.judgeForceClose
  repeat' split
  · exact refl s
  · exact drcEvent (leaveHeld _ _ s)
  · exact refl s

theorem judgeIsolate (drive : Byte) (s : State) : BlanketsKept s (judgeIsolate drive s).2 := by
  unfold Machine.judgeIsolate
  repeat' split
  · exact refl s
  · exact refl s
  · exact drcEvent (isolateLeaf _ _ s)
  · exact refl s
  · exact drcEvent (isolateLeaf _ _ s)

theorem judgeRestore (drive : Byte) (s : State) : BlanketsKept s (judgeRestore drive s).2 := by
  unfold Machine.judgeRestore
  repeat' split
  · exact refl s
  · exact drcEvent (restoreLeaf _ s)
  · exact refl s
  · exact refl s

theorem judgeSetPosition (p u : Nat) (s : State) : BlanketsKept s (judgeSetPosition p u s).2 := by
  unfold Machine.judgeSetPosition
  repeat' split
  · exact refl s
  · exact refl s
  · exact (takePosition _ _ s).trans (judgeRelease _)

theorem judgeSetMode (code : Byte) (s : State) : BlanketsKept s (judgeSetMode code s).2 := by
  unfold Machine.judgeSetMode
  split
  · exact refl s
  · repeat' split
    case' h_2 => exact changeMode _ s
    all_goals exact refl s

theorem judgeSetDirection (code : Byte) (s : State) : BlanketsKept s (judgeSetDirection code s).2 := by
  unfold Machine.judgeSetDirection
  repeat' split
  · exact refl s
  · exact refl s
  · exact refl s
  · exact after_same (settle _) rfl rfl rfl rfl rfl

theorem judgeSetParameter (n v : Nat) (s : State) : BlanketsKept s (judgeSetParameter n v s).2 := by
  unfold Machine.judgeSetParameter
  dsimp only
  repeat' split
  case' isFalse.isFalse.isFalse.isFalse.isFalse => exact activate _ s
  all_goals exact of_same rfl rfl rfl rfl rfl

/-- A request to the restriction table touches RTB and HLP alone (R67 to R69). -/
theorem tableRequest (b : Bool) (i : Nat) (r : Option Restriction) (s : State) :
    BlanketsKept s (noteChange b (putSlot i r s)) := of_blocks (by simp)

theorem judgeAdd (q : RestrictionRequest) (s : State) : BlanketsKept s (judgeAdd q s).2 := by
  unfold Machine.judgeAdd
  dsimp only
  repeat' split
  · exact refl s
  · exact refl s
  · exact refl s
  · exact refl s
  · exact tableRequest false _ _ s

theorem judgeAmend (q : RestrictionRequest) (s : State) : BlanketsKept s (judgeAmend q s).2 := by
  unfold Machine.judgeAmend
  dsimp only
  repeat' split
  · exact refl s
  · exact refl s
  · exact refl s
  · exact tableRequest false _ _ s

theorem judgeRevoke (origin : Byte) (id : Half) (s : State) : BlanketsKept s (judgeRevoke origin id s).2 := by
  unfold Machine.judgeRevoke
  dsimp only
  repeat' split
  · exact refl s
  · exact refl s
  · exact tableRequest false _ _ s

theorem judgeResetEmergency (s : State) : BlanketsKept s (judgeResetEmergency s).2 := by
  unfold Machine.judgeResetEmergency
  repeat' split
  · exact refl s
  · exact refl s
  · exact refl s
  · exact refl s
  · exact refl s
  · exact emptyLatch s

theorem judgeDriverBrake (level : Half) (s : State) : BlanketsKept s (judgeDriverBrake level s).2 := by
  unfold Machine.judgeDriverBrake
  split
  · exact refl s
  · exact after_same (settle _) rfl rfl rfl rfl rfl

theorem judgeHoldRequest (value : Byte) (s : State) : BlanketsKept s (judgeHoldRequest value s).2 := by
  unfold Machine.judgeHoldRequest
  repeat' split
  · exact refl s
  · exact refl s
  · exact refl s
  · exact after_same (settle _) rfl rfl rfl rfl rfl

theorem judgeStartTest (s : State) : BlanketsKept s (judgeStartTest s).2 := by
  unfold Machine.judgeStartTest
  repeat' split
  · exact refl s
  · exact refl s
  · exact refl s
  · exact refl s
  · exact refl s
  · exact refl s
  · exact startTest s

theorem judgeProfileBegin (count length : Nat) (s : State) : BlanketsKept s (judgeProfileBegin count length s).2 := by
  have hload : BlanketsKept s (beginLoad count length s) := of_same rfl rfl rfl rfl rfl
  unfold Machine.judgeProfileBegin
  split
  · exact refl s
  · repeat' split
    · exact refl s
    · exact refl s
    · exact hload.trans (profileLost _)
    · exact hload

theorem judgeProfileSegment (index : Nat) (r : SegmentRecord) (s : State) :
    BlanketsKept s (judgeProfileSegment index r s).2 := by
  unfold Machine.judgeProfileSegment
  repeat' split
  all_goals exact of_same rfl rfl rfl rfl rfl

theorem judgeProfileEnd (s : State) : BlanketsKept s (judgeProfileEnd s).2 := by
  unfold Machine.judgeProfileEnd
  repeat' split
  · exact refl s
  · exact refl s
  · exact finishLoad s

theorem judgeSave (s : State) : BlanketsKept s (judgeSave s).2 := by
  unfold Machine.judgeSave
  repeat' split
  all_goals exact of_same rfl rfl rfl rfl rfl

theorem judgeReadRestriction (slot : Byte) (s : State) : BlanketsKept s (judgeReadRestriction slot s).2 := by
  unfold Machine.judgeReadRestriction
  split <;> exact refl s

theorem judgeFindRestriction (origin : Byte) (id : Half) (s : State) :
    BlanketsKept s (judgeFindRestriction origin id s).2 := by
  unfold Machine.judgeFindRestriction
  repeat' split
  all_goals exact refl s

theorem judgeLookupLimit (position : Nat) (direction : Byte) (s : State) :
    BlanketsKept s (judgeLookupLimit position direction s).2 := by
  unfold Machine.judgeLookupLimit
  split <;> exact refl s

theorem judgeReadNotice (s : State) : BlanketsKept s (judgeReadNotice s).2 := by
  unfold Machine.judgeReadNotice
  split <;> exact of_same rfl rfl rfl rfl rfl

theorem judgeReadTestResult (s : State) : BlanketsKept s (judgeReadTestResult s).2 := by
  unfold Machine.judgeReadTestResult
  dsimp only
  split <;> exact refl s

theorem judgeReadParameter (n : Nat) (s : State) : BlanketsKept s (judgeReadParameter n s).2 := by
  unfold Machine.judgeReadParameter
  split <;> exact refl s

end BlanketsKept

end Sys2Proof.Machine
end

section
/-! Chapter 6: every step keeps the blanket set the one its causes give (R97 to R99, R186), up to the case of assumption
log 4. -/

namespace Sys2Proof.Machine

/-! ### Power-on (R14) -/

theorem blanketLaw_startValues (pins : PowerOnPins) (waiting : List Instr) : BlanketLaw (startValues pins waiting) :=
  ⟨⟨⟨fun h => (nomatch h), fun h => (nomatch h.1)⟩, fun _ => rfl⟩, rfl, rfl, rfl⟩

theorem BlanketsKept.handAlarmIf (cond : Bool) (c : AlarmCause) (s : State) : BlanketsKept s (handAlarmIf cond c s) :=
  ite _ (handAlarm c s) (refl s)

theorem blanketLaw_start (pins : PowerOnPins) (waiting : List Instr) : BlanketLaw (start pins waiting) := by
  have hlinks : ∀ s, LinksKept s (handDoorState s) := .handDoorState
  have hdoors : ∀ s, BlanketsKept s (handDoorState s) := fun s =>
    .of_same (by rw [(hlinks s).vrl]) (by simp) (by simp) (by simp) (by simp)
  have halarms : BlanketsKept (startValues pins waiting) (firstAlarms (startValues pins waiting)) :=
    ((BlanketsKept.handAlarm _ _).trans (.handAlarmIf _ _ _)).trans (.foldl (fun s _ => .handAlarmIf _ _ s) _ _)
  exact (halarms.trans (hdoors _)).law (blanketLaw_startValues pins waiting)

/-- Power-on meets both laws whatever the part held. -/
theorem BlanketsKept.powerOn (s : State) (pins : PowerOnPins) (waiting : List Instr) :
    BlanketsKept s (start pins waiting) :=
  ⟨fun _ => blanketLaw_start pins waiting, fun _ => (blanketLaw_start pins waiting).causesLaw⟩

/-! ### RTB's part of a LINE_RESET (R76, assumption log 4) -/

/-- RTB's part is outstanding, VRL's is not, and the car is REPORTING without LINK_SILENCE: what RTB's part then removes is
the radio cause that REPORTING rests on. -/
def RejoinedSinceRadioPart (s : State) : Prop :=
  s.cmc.resetParts.rtb = true ∧ s.cmc.resetParts.vrl = false ∧ s.vrl.dialogue = .reporting ∧
  s.ssv.blankets.linkSilence = false

theorem resetTable_causes {s : State} (h : CausesLaw s) : CausesLaw (resetTable s) := by
  obtain ⟨hcmc, hodo, -, hbrc, -, hvrl, -⟩ := resetTable_keeps s
  obtain ⟨hjoined, hunjoined, hrest⟩ := h
  unfold CausesLaw PositionLaw BrakeLaw ShuntLaw
  rw [hcmc, hodo, hbrc, hvrl, (resetTable_parts s).2]
  dsimp only
  split
  · exact ⟨fun hd => ⟨(hjoined hd).1, rfl⟩, hunjoined, hrest⟩
  · exact ⟨hjoined, hunjoined, hrest⟩

/-- A car without LINK_SILENCE is JOINED or REPORTING, and the case of assumption log 4 leaves out REPORTING. -/
theorem resetTable_law {s : State} (h : BlanketLaw s) (hrtb : s.cmc.resetParts.rtb = true)
    (hcase : ¬ RejoinedSinceRadioPart s) : BlanketLaw (resetTable s) := by
  obtain ⟨hjoined, hunjoined, hrest⟩ := resetTable_causes h.causesLaw
  refine ⟨⟨⟨hjoined, fun ⟨hlink, htable⟩ => ?_⟩, hunjoined⟩, hrest⟩
  obtain ⟨-, -, -, -, -, hvrl, -⟩ := resetTable_keeps s
  rw [(resetTable_parts s).2] at hlink htable
  rw [hvrl]
  dsimp only at hlink htable
  split at hlink
  · rename_i hremoved
    have hvrlPart : s.cmc.resetParts.vrl = false := hremoved.resolve_left (by rw [hlink]; decide)
    cases hd : s.vrl.dialogue with
    | joined => rfl
    | reporting => exact absurd ⟨hrtb, hvrlPart, hd, hlink⟩ hcase
    | unjoined =>
      rw [h.1.2 hd] at hlink
      cases hlink
  · rename_i hkept
    rw [if_neg hkept] at htable
    exact h.1.1.2 ⟨hlink, htable⟩

theorem exec_rtbLineReset (s : State) :
    exec .rtbLineReset s = .next
      (if s.cmc.resetParts.rtb = true then afterPart { s.cmc.resetParts with rtb := false } (resetTable s) else s) := rfl

/-- Outside the case of assumption log 4 RTB's part keeps the law; what is left of the law it keeps in every case. -/
theorem rtbLineReset_kept {s t : State} (hstep : exec .rtbLineReset s = .next t) :
    (BlanketLaw s → ¬ RejoinedSinceRadioPart s → BlanketLaw t) ∧ (CausesLaw s → CausesLaw t) := by
  rw [exec_rtbLineReset] at hstep
  cases hstep
  split
  · rename_i hrtb
    have hafter := BlanketsKept.afterPart { s.cmc.resetParts with rtb := false } (resetTable s)
    exact ⟨fun h hcase => hafter.law (resetTable_law h hrtb hcase), fun h => hafter.causes (resetTable_causes h)⟩
  · exact ⟨fun h _ => h, id⟩

/-- In the case of assumption log 4 REPORTING is left without a radio cause. -/
theorem rtbLineReset_rejoined {s t : State} (hcase : RejoinedSinceRadioPart s) (hstep : exec .rtbLineReset s = .next t) :
    t.vrl.dialogue = .reporting ∧ t.ssv.blankets.linkSilence = false ∧ t.ssv.blankets.tableOverflow = false := by
  obtain ⟨hrtb, hvrlPart, hdialogue, hlink⟩ := hcase
  obtain ⟨-, -, -, -, hssv, -, -, hvrl, -⟩ := afterPart_keeps { s.cmc.resetParts with rtb := false } (resetTable s)
  obtain ⟨-, -, -, -, -, hvrl', -⟩ := resetTable_keeps s
  rw [exec_rtbLineReset, if_pos hrtb] at hstep
  cases hstep
  rw [hvrl, hvrl', hssv, (resetTable_parts s).2, if_pos (.inr hvrlPart)]
  exact ⟨hdialogue, hlink, rfl⟩

/-! ### Every other command -/

namespace BlanketsKept

theorem execLineReset (s : State) : ∃ t, execLineReset s = .next t ∧ BlanketsKept s t := by
  have hquiet : ∀ t, BlanketsKept t (quietSdo t) := fun t => of_same rfl rfl rfl rfl rfl
  exact ⟨_, rfl, (ite _ (refl s) (ite _ (of_blocks (by simp)) (ite _ (of_blocks (by simp)) (beginReset s)))).trans
    (hquiet _)⟩

theorem execStandstillExpiry (s : State) : ∃ t, execStandstillExpiry s = .next t ∧ BlanketsKept s t := by
  refine ⟨_, rfl, ?_⟩
  split
  · exact refl s
  · exact after_same (((modesStanding _).trans (settle _)).trans (judgeRelease _)) rfl rfl rfl rfl rfl

theorem execFeedbackChange (f : Feedback) (s : State) : ∃ t, execFeedbackChange f s = .next t ∧ BlanketsKept s t := by
  have hstored := ((storeFeedback f s).trans (superviseFeedback (feedbackChannel f) _)).trans
    (confirmHolding (feedbackChannel f) _)
  have htested := hstored.trans (testFeedback (feedbackChannel f) _)
  exact ⟨_, rfl, ite _ htested (htested.trans (judgeRelease _))⟩

theorem execCheckTimerExpiry (c : Channel) (s : State) :
    ∃ t, execCheckTimerExpiry c s = .next t ∧ BlanketsKept s t := by
  refine ⟨_, rfl, ?_⟩
  split
  · exact ite _ ((checkFailure c s).trans (judgeRelease _)) (checkFailure c s)
  · exact refl s

theorem execStepTimerExpiry (s : State) : ∃ t, execStepTimerExpiry s = .next t ∧ BlanketsKept s t := by
  refine ⟨_, rfl, ?_⟩
  split
  · exact refl s
  · exact finishStep _ _ s

theorem execPulseCount (pair : Pair) (way : Way) (s : State) :
    ∃ t, execPulseCount pair way s = .next t ∧ BlanketsKept s t :=
  ⟨_, rfl, ite _ (countSteps pair way s) ((countSteps pair way s).trans (judgeRelease _))⟩

theorem execIllegalStep (pair : Pair) (s : State) : ∃ t, execIllegalStep pair s = .next t ∧ BlanketsKept s t :=
  ⟨_, rfl, by cases pair <;> exact of_same rfl rfl rfl rfl rfl⟩

theorem execFrameDropped (f : Arrival Frame) (s : State) : ∃ t, execFrameDropped f s = .next t ∧ BlanketsKept s t :=
  ⟨_, rfl, ite _ (refl s) (after_same (judgeFrame _ _) rfl rfl rfl rfl rfl)⟩

theorem execBeacon (h : Header) (f : BeaconFields) (busy : Bool) (s : State) :
    ∃ t, execBeacon h f busy s = .next t ∧ BlanketsKept s t :=
  ⟨_, rfl, ite _ (refl s) (after_same (telegramArrives _ _ _ _) rfl rfl rfl rfl rfl)⟩

theorem execSilenceExpiry (s : State) : ∃ t, execSilenceExpiry s = .next t ∧ BlanketsKept s t :=
  ⟨_, rfl, ite _ (after_same (enterUnjoined _) rfl rfl rfl rfl rfl) (refl s)⟩

theorem execWindowStart (busy : Bool) (s : State) : ∃ t, execWindowStart busy s = .next t ∧ BlanketsKept s t :=
  ⟨_, rfl, ite _ (after_same (startWindow _) rfl rfl rfl rfl rfl) (refl s)⟩

theorem execReceivedBit (bit : Arrival Bool) (s : State) : ∃ t, execReceivedBit bit s = .next t ∧ BlanketsKept s t :=
  ⟨_, rfl, ite _ (refl s) (after_same (takeBit _ _) rfl rfl rfl rfl rfl)⟩

/-- Every command but RTB's part of a LINE_RESET and the octets of an unjudged transaction keeps the law. -/
theorem exec_of_direct (c : Instr) (s : State) (hpart : c ≠ .rtbLineReset)
    (hjudged : ∀ octets, c ≠ .hostFrameRejected octets) :
    ∃ t, exec c s = .next t ∧ BlanketsKept s t :=
  match c with
  | .powerOn pins => ⟨_, rfl, powerOn s pins s.pending⟩
  | .settingsLoadEnd image => ⟨_, rfl, ite _ (endStartUpLoad image s) (refl s)⟩
  | .saveEnd _ _ => ⟨_, rfl, ite _ (of_same rfl rfl rfl rfl rfl) (refl s)⟩
  | .hostFrameRejected octets => absurd rfl (hjudged octets)
  | .readResponse => ⟨_, rfl, of_same rfl rfl rfl rfl rfl⟩
  | .readAttention => ⟨_, rfl, request _ (of_same rfl rfl rfl rfl rfl)⟩
  | .setAttentionMask _ => ⟨_, rfl, request _ (of_same rfl rfl rfl rfl rfl)⟩
  | .readStatus => ⟨_, rfl, request _ (refl s)⟩
  | .readPosition => ⟨_, rfl, request _ (refl s)⟩
  | .readRestriction slot => ⟨_, rfl, request _ (judgeReadRestriction slot s)⟩
  | .findRestriction origin id => ⟨_, rfl, request _ (judgeFindRestriction origin id s)⟩
  | .lookupLimit position direction => ⟨_, rfl, request _ (judgeLookupLimit position.toNat direction s)⟩
  | .readDoors => ⟨_, rfl, request _ (refl s)⟩
  | .readNotice => ⟨_, rfl, request _ (judgeReadNotice s)⟩
  | .readTestResult => ⟨_, rfl, request _ (judgeReadTestResult s)⟩
  | .readRadio => ⟨_, rfl, request _ (refl s)⟩
  | .readParameter number => ⟨_, rfl, request _ (judgeReadParameter number.toNat s)⟩
  | .setMode code => ⟨_, rfl, request _ (judgeSetMode code s)⟩
  | .setDirection direction => ⟨_, rfl, request _ (judgeSetDirection direction s)⟩
  | .setParameter number value => ⟨_, rfl, request _ (judgeSetParameter number.toNat value.toNat s)⟩
  | .setPosition position uncertainty =>
    ⟨_, rfl, request _ (judgeSetPosition position.toNat uncertainty.toNat s)⟩
  | .lineReset => execLineReset s
  | .odoLineReset => takePart _ _ (resetPosition s)
  | .rtbLineReset => absurd rfl hpart
  | .ssvLineReset => takePart _ _ (endSupervision s)
  | .brcLineReset => takePart _ _ (resetBrakes s)
  | .drcLineReset => takePart _ _ (drcEvent (resetDoors s))
  | .vrlLineReset => takePart _ _ (resetLink s)
  | .addRestriction q => ⟨_, rfl, request _ (judgeAdd q s)⟩
  | .amendRestriction q => ⟨_, rfl, request _ (judgeAmend q s)⟩
  | .revokeRestriction origin id => ⟨_, rfl, request _ (judgeRevoke origin id s)⟩
  | .ackIntervention => ⟨_, rfl, request _ (takeAcknowledgement s)⟩
  | .resetEmergency => ⟨_, rfl, request _ (judgeResetEmergency s)⟩
  | .triggerEmergency => ⟨_, rfl, request _ (addLatchCause _ s)⟩
  | .driverBrake level => ⟨_, rfl, request _ (judgeDriverBrake level s)⟩
  | .holdRequest value => ⟨_, rfl, request _ (judgeHoldRequest value s)⟩
  | .doorCommandRelease side => ⟨_, rfl, request _ (judgeRelease148 side s)⟩
  | .doorCommandWithdraw _ => ⟨_, rfl, request _ (judgeWithdraw s)⟩
  | .openSide side => ⟨_, rfl, request _ (judgeOpenSide side s)⟩
  | .closeSide side => ⟨_, rfl, request _ (judgeCloseSide side s)⟩
  | .forceClose drive => ⟨_, rfl, request _ (judgeForceClose drive s)⟩
  | .isolate drive => ⟨_, rfl, request _ (judgeIsolate drive s)⟩
  | .restore drive => ⟨_, rfl, request _ (judgeRestore drive s)⟩
  | .unknownDoorCommand _ _ => ⟨_, rfl, request _ (refl s)⟩
  | .startBrakeTest => ⟨_, rfl, request _ (judgeStartTest s)⟩
  | .abortBrakeTest => ⟨_, rfl, request _ (abortTest _ s)⟩
  | .profileBegin count length => ⟨_, rfl, request _ (judgeProfileBegin count.toNat length.toNat s)⟩
  | .profileSegment index segment => ⟨_, rfl, request _ (judgeProfileSegment index.toNat segment s)⟩
  | .profileEnd => ⟨_, rfl, request _ (judgeProfileEnd s)⟩
  | .saveSettings => ⟨_, rfl, request _ (judgeSave s)⟩
  | .clearRadioErrors => ⟨_, rfl, request _ (of_same rfl rfl rfl rfl rfl)⟩
  | .pulseCount pair way => execPulseCount pair way s
  | .illegalStep pair => execIllegalStep pair s
  | .speedUpdate rtbFirst => ⟨_, exec_speedUpdate rtbFirst s, takeUpdate rtbFirst s⟩
  | .standstillExpiry => execStandstillExpiry s
  | .secondTick => ⟨_, rfl, of_blocks (by simp)⟩
  | .restrictionExpiry _ => ⟨_, rfl, of_blocks (by simp)⟩
  | .loopChange _ => ⟨_, rfl, after_same (addLatchIf _ _ _) rfl rfl rfl rfl rfl⟩
  | .feedbackChange feedback => execFeedbackChange feedback s
  | .checkTimerExpiry channel => execCheckTimerExpiry channel s
  | .stepTimerExpiry => execStepTimerExpiry s
  | .openSwitch d _ => ⟨_, rfl, lineEvent d _ (fun l s => ite _ (openSwitchMade d l s) (refl s)) s⟩
  | .closedSwitch d made => ⟨_, rfl, lineEvent d _ (closedSwitchChanged d made) s⟩
  | .lockSwitch d confirms => ⟨_, rfl, lineEvent d _ (lockSwitchChanged d confirms) s⟩
  | .obstruction d _ _ =>
    ⟨_, rfl, lineEvent d _ (fun _ s => ite _ (of_doors (.obstruct d s) (by simp)) (refl s)) s⟩
  | .overcurrent d _ => ⟨_, rfl, lineEvent d _ (fun _ s => ite _ (isolateLeaf d _ s) (refl s)) s⟩
  | .doorButton d _ => ⟨_, rfl, lineEvent d _ (fun l s => ite _ (pressButton d l s) (refl s)) s⟩
  | .openTimeout d => ⟨_, rfl, timerEvent d (fun _ s => ite _ (isolateLeaf d _ s) (refl s)) s⟩
  | .travelLimit d => ⟨_, rfl, timerEvent d (fun _ s => ite _ (isolateLeaf d _ s) (refl s)) s⟩
  | .lockTimeout d => ⟨_, rfl, timerEvent d (fun _ s => ite _ (isolateLeaf d _ s) (refl s)) s⟩
  | .autoCloseDwell d => ⟨_, rfl, timerEvent d (fun _ s => ite _ (closeWithGang d s) (refl s)) s⟩
  | .reverseTime d => ⟨_, rfl, timerEvent d (fun _ s => endDrive d s) s⟩
  | .reopenDwell d => ⟨_, rfl, timerEvent d (fun _ s => ite _ (startClosing _ _ s) (refl s)) s⟩
  | .holdRetryInterval d => ⟨_, rfl, timerEvent d (fun _ s => ite _ (leaveHeld d _ s) (refl s)) s⟩
  | .framing => ⟨_, rfl, ite _ (refl s) (dropBadLength s)⟩
  | .check => ⟨_, rfl, ite _ (refl s) (dropBadCheck s)⟩
  | .frameDropped f => execFrameDropped f s
  | .beacon header f busy => execBeacon header f busy s
  | .restrict header _ listFirst => ⟨_, rfl, telegramArrives header _ listFirst s⟩
  | .revoke header _ _ => ⟨_, rfl, telegramArrives header _ false s⟩
  | .syncDone header _ => ⟨_, rfl, telegramArrives header _ false s⟩
  | .doorRelease header _ _ => ⟨_, rfl, telegramArrives header _ false s⟩
  | .doorWithdraw header _ => ⟨_, rfl, telegramArrives header _ false s⟩
  | .poll header => ⟨_, rfl, telegramArrives header _ false s⟩
  | .notice header _ _ => ⟨_, rfl, telegramArrives header _ false s⟩
  | .ack header _ => ⟨_, rfl, telegramArrives header _ false s⟩
  | .silenceExpiry => execSilenceExpiry s
  | .windowStart busy => execWindowStart busy s
  | .transmissionEnd => ⟨_, rfl, ite _ (of_same rfl rfl rfl rfl rfl) (refl s)⟩
  | .receivedBit bit => execReceivedBit bit s

/-- A transaction brings a request to its owner, and RTB's part of a LINE_RESET is not a request (R194). -/
theorem takeRequest (c : Instr) (s : State) : ∃ t, takeRequest c s = .next t ∧ BlanketsKept s t := by
  by_cases hpart : c = .rtbLineReset
  · subst hpart
    exact ⟨s, rfl, refl s⟩
  · rcases takeRequest_cases c s with hnothing | ⟨hsame, hjudged⟩
    · exact ⟨s, hnothing, refl s⟩
    · rw [hsame]
      exact exec_of_direct c s hpart hjudged

theorem execHostFrameRejected (octets : List Byte) (s : State) :
    ∃ t, execHostFrameRejected octets s = .next t ∧ BlanketsKept s t := by
  unfold Machine.execHostFrameRejected
  split
  · exact ⟨_, rfl, of_same rfl rfl rfl rfl rfl⟩
  · exact ⟨_, rfl, request _ (refl s)⟩
  · exact takeRequest _ s

theorem exec (c : Instr) (s : State) (hpart : c ≠ .rtbLineReset) : ∃ t, exec c s = .next t ∧ BlanketsKept s t := by
  by_cases hjudged : ∀ octets, c ≠ .hostFrameRejected octets
  · exact exec_of_direct c s hpart hjudged
  · push Not at hjudged
    obtain ⟨octets, rfl⟩ := hjudged
    exact execHostFrameRejected octets s

theorem tick (s : State) : BlanketsKept s (tick s) := of_same rfl rfl rfl rfl rfl

end BlanketsKept

/-! ### Every step -/

/-- A part of a LINE_RESET comes from the queue: no timer brings one. -/
theorem rtbLineReset_not_due (s : State) : dueExpiry s ≠ some .rtbLineReset := by
  have hdue : ∀ (b : Bool) (c : Instr), c ≠ .rtbLineReset → some .rtbLineReset ≠ dueIf b c := by
    intro b c hc
    cases b with
    | false => exact nofun
    | true => exact fun h => hc (Option.some.inj h).symm
  have hleaf : ∀ d l, some .rtbLineReset ≠ leafDue d l := by
    intro d l
    unfold leafDue
    split
    · exact nofun
    · unfold leafExpiry
      repeat' split
      all_goals exact nofun
  intro h
  have hmem := List.reduceOption_mem_iff.1 (List.mem_of_head? h)
  simp [dueExpiries, hdue, hleaf] at hmem

/-- A step takes RTB's part from the head of the queue, or another command, or the passing of a millisecond. -/
theorem step_cases_rtbLineReset (s : State) :
    (∃ rest, s.pending = .rtbLineReset :: rest ∧ step s = exec .rtbLineReset { s with pending := rest }) ∨
    s.pending.head? ≠ some .rtbLineReset ∧
      ((∃ c rest, c ≠ .rtbLineReset ∧ step s = exec c { s with pending := rest }) ∨ step s = .next (tick s)) := by
  cases hp : s.pending with
  | nil =>
    refine .inr ⟨by simp, ?_⟩
    have hstep : step s = idle s := by rw [step, hp]
    rw [hstep, idle]
    cases hd : dueExpiry s with
    | none => exact .inr rfl
    | some c =>
      have hc : c ≠ .rtbLineReset := fun h => rtbLineReset_not_due s (h ▸ hd)
      exact .inl ⟨c, [], hc, by rw [← hp]⟩
  | cons c rest =>
    have hstep : step s = exec c { s with pending := rest } := by rw [step, hp]
    by_cases hc : c = .rtbLineReset
    · exact .inl ⟨rest, by rw [hc], by rw [hstep, hc]⟩
    · exact .inr ⟨by simpa using hc, .inl ⟨c, rest, hc, hstep⟩⟩

/-- Settles O55: every operation that changes a cause changes the set with it, but RTB's part of a LINE_RESET, which is taken
by itself; every other operation leaves causes and set alone. -/
theorem everyStepKeepsBlanketLaw : Obligations.EveryStepKeepsBlanketLaw := by
  intro s t hstep
  have hqueue : ∀ rest, BlanketsKept s { s with pending := rest } := fun _ => .of_same rfl rfl rfl rfl rfl
  rcases step_cases_rtbLineReset s with ⟨rest, hp, hexec⟩ | ⟨hhead, hother⟩
  · rw [hexec] at hstep
    obtain ⟨hlaw, hcauses⟩ := rtbLineReset_kept hstep
    have hfirst : s.pending.head? = some .rtbLineReset := by rw [hp]; rfl
    exact ⟨fun h hcase => hlaw ((hqueue rest).law h) fun hrejoined => hcase ⟨hfirst, hrejoined⟩,
      fun h => hcauses ((hqueue rest).causes h),
      fun _ hcase => rtbLineReset_rejoined (s := { s with pending := rest }) hcase.2 hstep⟩
  · have hkept : BlanketsKept s t := by
      rcases hother with ⟨c, rest, hc, hexec⟩ | htick
      · obtain ⟨u, hu, hkept⟩ := BlanketsKept.exec c { s with pending := rest } hc
        rw [hexec, hu] at hstep
        cases hstep
        exact (hqueue rest).trans hkept
      · rw [htick] at hstep
        cases hstep
        exact .tick s
    exact ⟨fun h _ => hkept.law h, hkept.causes, fun _ hcase => absurd hcase.1 hhead⟩

end Sys2Proof.Machine
end

section
/-! Chapter 6: the intervention state at a speed update and at an acknowledgement (R100 to R106, R109). -/

namespace Sys2Proof.Machine

/-! ### What the operations on the intervention state write -/

theorem setIntervention_ssv (x : Intervention) (s : State) : (setIntervention x s).ssv = { s.ssv with state := x } := by
  unfold setIntervention
  split
  · rename_i h
    rw [← h]
  · rfl

/-- A change of the intervention state raises SUPERVISION (R109). -/
theorem setIntervention_supervision {x : Intervention} {s : State} (h : s.ssv.state ≠ x) :
    (setIntervention x s).hlp.attention.supervision = true := by
  rw [setIntervention, if_neg h]
  rfl

theorem placeDemand_intervention (level : Option Nat) (s : State) :
    (placeDemand level s).brc.demands.intervention = level := by
  simp [placeDemand]

theorem placeDemand_latch (level : Option Nat) (s : State) : (placeDemand level s).brc.latch = s.brc.latch := by
  simp [placeDemand]

/-- Once raised, SUPERVISION is up until the host reads the causes; the operations of BRC do not read them (R109, R198). -/
theorem abortTest_supervision {r : AbortReason} {s : State} (h : s.hlp.attention.supervision = true) :
    (abortTest r s).hlp.attention.supervision = true := by
  unfold abortTest
  split
  · exact h
  · have hraised : s.hlp.attention.has .supervision = true := h
    change (AttentionSet.add _ .testDone).has .supervision = true
    simpa [resumeSupervision] using hraised

theorem addLatchCause_supervision {c : LatchCause} {s : State} (h : s.hlp.attention.supervision = true) :
    (addLatchCause c s).hlp.attention.supervision = true := by
  unfold addLatchCause
  split
  · exact h
  · rw [(settle_keeps _).2.2.2.2.2.2.2.1]
    refine abortTest_supervision ?_
    rw [(handAlarm_keeps _ _).2.2.2.2.2.2.2.1]
    exact h

theorem enterEmergency_ssv (s : State) : (enterEmergency s).ssv = { s.ssv with state := .emergency } := by
  simp [enterEmergency, setIntervention_ssv]

theorem enterServiceIntervention_ssv (s : State) :
    (enterServiceIntervention s).ssv = { s.ssv with state := .service, acknowledged := false, released := false } := by
  simp [enterServiceIntervention, setIntervention_ssv]

theorem endIntervention_ssv (s : State) : (endIntervention s).ssv = { s.ssv with state := .normal } := by
  simp [endIntervention, setIntervention_ssv]

/-! ### What goes with the intervention state (R105, R106, R109) -/

/-- From `s` to `t` the INTERVENTION demand, the latch and SUPERVISION follow the intervention state. -/
structure InterventionFollowed (s t : State) : Prop where
  placed : t.ssv.state = .service → t.brc.demands.intervention = some (interventionDemand s.cmc.params)
  withdrawn : s.ssv.state = .service → t.ssv.state ≠ .service → t.brc.demands.intervention = none
  emergency : s.ssv.state ≠ .emergency → t.ssv.state = .emergency →
    t.brc.latch.overspeed = true ∧ t.brc.demands.intervention = none
  raised : t.ssv.state ≠ s.ssv.state → t.hlp.attention.supervision = true
  latch : t.ssv.state ≠ .emergency → t.brc.latch = s.brc.latch

namespace InterventionFollowed

/-- Of its first state it reads the intervention state, the parameters and the latch. -/
theorem of_first {s x t : State} (h : InterventionFollowed x t) (hstate : x.ssv.state = s.ssv.state)
    (hcmc : x.cmc = s.cmc) (hlatch : x.brc.latch = s.brc.latch) : InterventionFollowed s t where
  placed := hcmc ▸ h.placed
  withdrawn := hstate ▸ h.withdrawn
  emergency := hstate ▸ h.emergency
  raised := hstate ▸ h.raised
  latch := hlatch ▸ h.latch

theorem enterEmergency (s : State) : InterventionFollowed s (enterEmergency s) := by
  have hstate : (Machine.enterEmergency s).ssv.state = .emergency := by rw [enterEmergency_ssv]
  have hdemand : (Machine.enterEmergency s).brc.demands.intervention = none := placeDemand_intervention _ _
  have hlatch : (Machine.enterEmergency s).brc.latch.has .overspeed = true := by
    rw [Machine.enterEmergency, placeDemand_latch, addLatchCause_latch]
    simp
  refine ⟨fun h => ?_, fun _ _ => hdemand, fun _ _ => ⟨hlatch, hdemand⟩, fun h => ?_, fun h => absurd hstate h⟩
  · rw [hstate] at h
    cases h
  · rw [hstate] at h
    rw [Machine.enterEmergency, (placeDemand_keeps _ _).2.2.2.2.2.2.2.1]
    exact addLatchCause_supervision (setIntervention_supervision h.symm)

theorem enterServiceIntervention {s : State} (h : s.ssv.state ≠ .service) :
    InterventionFollowed s (enterServiceIntervention s) := by
  have hstate : (Machine.enterServiceIntervention s).ssv.state = .service := by rw [enterServiceIntervention_ssv]
  refine ⟨fun _ => placeDemand_intervention _ _, fun hs => absurd hs h, fun _ ht => ?_, fun _ => ?_, fun _ => ?_⟩
  · rw [hstate] at ht
    cases ht
  · rw [Machine.enterServiceIntervention, (placeDemand_keeps _ _).2.2.2.2.2.2.2.1]
    exact setIntervention_supervision h
  · simp [Machine.enterServiceIntervention, placeDemand_latch]

theorem endIntervention {s : State} (h : s.ssv.state = .service) : InterventionFollowed s (endIntervention s) := by
  have hstate : (Machine.endIntervention s).ssv.state = .normal := by rw [endIntervention_ssv]
  refine ⟨fun ht => ?_, fun _ _ => placeDemand_intervention _ _, fun _ ht => ?_, fun _ => ?_, fun _ => ?_⟩
  · rw [hstate] at ht
    cases ht
  · rw [hstate] at ht
    cases ht
  · rw [Machine.endIntervention, (placeDemand_keeps _ _).2.2.2.2.2.2.2.1]
    exact setIntervention_supervision (by rw [h]; decide)
  · simp [Machine.endIntervention, placeDemand_latch]

/-- A service intervention that goes on has its demand placed anew (R103, R105). -/
theorem goesOn {s : State} (h : s.ssv.state = .service) :
    InterventionFollowed s (placeDemand (some (interventionDemand s.cmc.params)) s) := by
  have hstate : (placeDemand (some (interventionDemand s.cmc.params)) s).ssv.state = s.ssv.state := by simp
  refine ⟨fun _ => placeDemand_intervention _ _, fun _ ht => absurd (hstate.trans h) ht, fun _ ht => ?_,
    fun ht => absurd hstate ht, fun _ => placeDemand_latch _ _⟩
  rw [hstate, h] at ht
  cases ht

/-- Between NORMAL and WARNING neither demand nor latch changes (R100). -/
theorem setIntervention {x : Intervention} {s : State} (h : s.ssv.state ≠ .service) (hservice : x ≠ .service)
    (hemergency : x ≠ .emergency) : InterventionFollowed s (setIntervention x s) := by
  have hstate : (Machine.setIntervention x s).ssv.state = x := by rw [setIntervention_ssv]
  refine ⟨fun ht => absurd (hstate.symm.trans ht) hservice, fun hs => absurd hs h,
    fun _ ht => absurd (hstate.symm.trans ht) hemergency, fun ht => ?_, fun _ => by simp⟩
  rw [hstate] at ht
  exact setIntervention_supervision ht.symm

theorem addLatchIf {b : Bool} {c : LatchCause} {s : State} (h : s.ssv.state = .emergency) :
    InterventionFollowed s (addLatchIf b c s) := by
  have hstate : (Machine.addLatchIf b c s).ssv.state = .emergency := by simpa using h
  refine ⟨fun ht => ?_, fun hs => ?_, fun hs => absurd h hs, fun ht => absurd (hstate.trans h.symm) ht,
    fun ht => absurd hstate ht⟩
  · rw [hstate] at ht
    cases ht
  · rw [h] at hs
    cases hs

end InterventionFollowed

/-! ### The evaluation by the state it finds (R100 to R103, R106) -/

section Evaluation

variable (v vPerm : Nat) (s : State)

/-- The speed is past V_perm by more than the emergency margin: the overspeed condition (R101, R106). -/
def pastEmergencyMargin : Bool := vPerm + emergencyMargin s.cmc.params < v

/-- The speed is at or below the release speed of the update (R103). -/
def atReleaseSpeed : Bool := v ≤ vPerm - releaseHysteresis s.cmc.params

/-- The state with the overspeed condition of the update. -/
def overspeedNoted : State := { s with ssv.overspeed := pastEmergencyMargin v vPerm s }

/-- The state with the overspeed condition and the release mark of the update. -/
def releaseNoted : State :=
  { s with ssv.overspeed := pastEmergencyMargin v vPerm s, ssv.released := atReleaseSpeed v vPerm s }

variable {v vPerm s}

theorem evaluate_of_emergency (h : s.ssv.state = .emergency) :
    evaluate v vPerm s = addLatchIf (pastEmergencyMargin v vPerm s) .overspeed (overspeedNoted v vPerm s) := by
  unfold evaluate
  rw [h]
  rfl

theorem evaluate_of_service (h : s.ssv.state = .service) :
    evaluate v vPerm s =
      if pastEmergencyMargin v vPerm s || (!atReleaseSpeed v vPerm s && serviceUnusable s) then
        enterEmergency (releaseNoted v vPerm s)
      else if atReleaseSpeed v vPerm s && s.ssv.acknowledged then endIntervention (releaseNoted v vPerm s)
      else placeDemand (some (interventionDemand s.cmc.params)) (releaseNoted v vPerm s) := by
  unfold evaluate
  rw [h]
  rfl

theorem evaluate_of_free (h : s.ssv.state = .normal ∨ s.ssv.state = .warning) :
    evaluate v vPerm s =
      if pastEmergencyMargin v vPerm s then enterEmergency (overspeedNoted v vPerm s)
      else if vPerm + paramValue s.cmc.params 10 < v then
        if serviceUnusable s then enterEmergency (overspeedNoted v vPerm s)
        else enterServiceIntervention (overspeedNoted v vPerm s)
      else if vPerm < v then setIntervention .warning (overspeedNoted v vPerm s)
      else setIntervention .normal (overspeedNoted v vPerm s) := by
  unfold evaluate
  rcases h with h | h <;> rw [h] <;> rfl

theorem pastEmergencyMargin_iff : pastEmergencyMargin v vPerm s = true ↔ vPerm + paramValue s.cmc.params 11 < v :=
  decide_eq_true_iff

theorem atReleaseSpeed_iff : atReleaseSpeed v vPerm s = true ↔ v ≤ vPerm - paramValue s.cmc.params 12 :=
  decide_eq_true_iff

theorem serviceUnusable_iff :
    serviceUnusable s = true ↔ s.brc.service.health = .failed ∨ s.brc.service.health = .untested := by
  simp [serviceUnusable]

/-- The three cases of the intervention state that an update finds. -/
theorem intervention_cases (x : Intervention) : x = .emergency ∨ x = .service ∨ x = .normal ∨ x = .warning := by
  cases x <;> simp

/-- Every update sets the overspeed condition (R106). -/
theorem evaluate_overspeed : (evaluate v vPerm s).ssv.overspeed = pastEmergencyMargin v vPerm s := by
  rcases intervention_cases s.ssv.state with h | h | h
  · rw [evaluate_of_emergency h]
    simp [overspeedNoted]
  · rw [evaluate_of_service h]
    repeat' split
    all_goals simp [enterEmergency_ssv, endIntervention_ssv, releaseNoted]
  · rw [evaluate_of_free h]
    repeat' split
    all_goals simp [enterEmergency_ssv, enterServiceIntervention_ssv, setIntervention_ssv, overspeedNoted]

/-- At every update demand, latch and SUPERVISION follow the intervention state. -/
theorem evaluate_followed : InterventionFollowed s (evaluate v vPerm s) := by
  rcases intervention_cases s.ssv.state with h | h | h
  · rw [evaluate_of_emergency h]
    exact (InterventionFollowed.addLatchIf (s := overspeedNoted v vPerm s) h).of_first rfl rfl rfl
  · rw [evaluate_of_service h]
    repeat' split
    · exact (InterventionFollowed.enterEmergency _).of_first rfl rfl rfl
    · exact (InterventionFollowed.endIntervention (s := releaseNoted v vPerm s) h).of_first rfl rfl rfl
    · exact (InterventionFollowed.goesOn (s := releaseNoted v vPerm s) h).of_first rfl rfl rfl
  · have hservice : s.ssv.state ≠ .service := by rcases h with h | h <;> rw [h] <;> decide
    have hset : ∀ x, x ≠ .service → x ≠ .emergency →
        InterventionFollowed s (setIntervention x (overspeedNoted v vPerm s)) := fun x hx hx' =>
      (InterventionFollowed.setIntervention (s := overspeedNoted v vPerm s) hservice hx hx').of_first rfl rfl rfl
    rw [evaluate_of_free h]
    repeat' split
    · exact (InterventionFollowed.enterEmergency _).of_first rfl rfl rfl
    · exact (InterventionFollowed.enterEmergency _).of_first rfl rfl rfl
    · exact (InterventionFollowed.enterServiceIntervention (s := overspeedNoted v vPerm s) hservice).of_first rfl rfl rfl
    · exact hset .warning (by decide) (by decide)
    · exact hset .normal (by decide) (by decide)

/-- In EMERGENCY_INTERVENTION the state stays, and OVERSPEED enters the latch again where the condition is present (R106). -/
theorem evaluate_emergency (h : s.ssv.state = .emergency) :
    (evaluate v vPerm s).ssv.state = .emergency ∧
    (pastEmergencyMargin v vPerm s = true → (evaluate v vPerm s).brc.latch.overspeed = true) := by
  rw [evaluate_of_emergency h]
  refine ⟨by simpa [overspeedNoted] using h, fun hexcess => ?_⟩
  have hlatch : ((overspeedNoted v vPerm s).brc.latch.add .overspeed).has .overspeed = true := by simp
  rw [addLatchIf, if_pos hexcess, addLatchCause_latch]
  exact hlatch

/-- From NORMAL or WARNING (R100 to R102, R106). -/
theorem evaluate_free (h : s.ssv.state = .normal ∨ s.ssv.state = .warning) :
    (pastEmergencyMargin v vPerm s = true ∨ vPerm + paramValue s.cmc.params 10 < v ∧ serviceUnusable s = true →
      (evaluate v vPerm s).ssv.state = .emergency) ∧
    (¬ pastEmergencyMargin v vPerm s = true → vPerm + paramValue s.cmc.params 10 < v → ¬ serviceUnusable s = true →
      (evaluate v vPerm s).ssv.state = .service ∧ (evaluate v vPerm s).ssv.acknowledged = false ∧
      (evaluate v vPerm s).ssv.released = false) ∧
    (¬ pastEmergencyMargin v vPerm s = true → v ≤ vPerm + paramValue s.cmc.params 10 → vPerm < v →
      (evaluate v vPerm s).ssv.state = .warning) ∧
    (v ≤ vPerm → (evaluate v vPerm s).ssv.state = .normal) := by
  rw [evaluate_of_free h]
  refine ⟨fun hc => ?_, fun hexcess hmargin husable => ?_, fun hexcess hmargin hover => ?_, fun hunder => ?_⟩
  · by_cases hexcess : pastEmergencyMargin v vPerm s = true
    · rw [if_pos hexcess, enterEmergency_ssv]
    · obtain ⟨hmargin, hunusable⟩ := hc.resolve_left hexcess
      rw [if_neg hexcess, if_pos hmargin, if_pos hunusable, enterEmergency_ssv]
  · rw [if_neg hexcess, if_pos hmargin, if_neg husable, enterServiceIntervention_ssv]
    exact ⟨rfl, rfl, rfl⟩
  · rw [if_neg hexcess, if_neg (Nat.not_lt.2 hmargin), if_pos hover, setIntervention_ssv]
  · have hexcess : ¬ pastEmergencyMargin v vPerm s = true := by rw [pastEmergencyMargin_iff]; omega
    have hmargin : ¬ vPerm + paramValue s.cmc.params 10 < v := by omega
    rw [if_neg hexcess, if_neg hmargin, if_neg (Nat.not_lt.2 hunder), setIntervention_ssv]

/-- From SERVICE_INTERVENTION (R102, R103, R106). -/
theorem evaluate_service (h : s.ssv.state = .service) :
    (pastEmergencyMargin v vPerm s = true ∨ ¬ atReleaseSpeed v vPerm s = true ∧ serviceUnusable s = true →
      (evaluate v vPerm s).ssv.state = .emergency) ∧
    (¬ pastEmergencyMargin v vPerm s = true → atReleaseSpeed v vPerm s = true → s.ssv.acknowledged = true →
      (evaluate v vPerm s).ssv.state = .normal) ∧
    (¬ pastEmergencyMargin v vPerm s = true → (atReleaseSpeed v vPerm s = true → s.ssv.acknowledged = false) →
      (atReleaseSpeed v vPerm s = true ∨ ¬ serviceUnusable s = true) →
      (evaluate v vPerm s).ssv.state = .service ∧ (evaluate v vPerm s).ssv.acknowledged = s.ssv.acknowledged ∧
      (evaluate v vPerm s).ssv.released = atReleaseSpeed v vPerm s) := by
  rw [evaluate_of_service h]
  refine ⟨fun hc => ?_, fun hexcess hreleased hack => ?_, fun hexcess hack husable => ?_⟩
  · rw [if_pos (by simpa using hc), enterEmergency_ssv]
  · rw [if_neg (by simp [hexcess, hreleased]), if_pos (by simp [hreleased, hack]), endIntervention_ssv]
  · have hgoes : ¬ (pastEmergencyMargin v vPerm s || (!atReleaseSpeed v vPerm s && serviceUnusable s)) = true := by
      rcases husable with hreleased | husable
      · simp [hexcess, hreleased]
      · simp [hexcess, husable]
    have hnotEnded : ¬ (atReleaseSpeed v vPerm s && s.ssv.acknowledged) = true := by simpa using hack
    rw [if_neg hgoes, if_neg hnotEnded, (placeDemand_keeps _ _).2.2.2.2.1]
    exact ⟨h, rfl, rfl⟩

end Evaluation

/-! ### The update (R60, R77) -/

theorem changeRecords_supervision (c : Restriction → Bool) (f : Restriction → Option Restriction) (s : State) :
    (changeRecords c f s).hlp.attention.supervision = s.hlp.attention.supervision := by
  simp only [changeRecords]
  split
  · rw [noteChange_hlp]
    split <;> rfl
  · rfl

/-- SSV's part of a speed update is an evaluation with the speed and the V_perm that it leaves (R77, R100). -/
theorem superviseUpdate_evaluates {s : State} (h : s.cmc.mode.supervised = true) :
    ∃ x, x.cmc = s.cmc ∧ x.brc = s.brc ∧ x.ssv.state = s.ssv.state ∧ x.ssv.acknowledged = s.ssv.acknowledged ∧
      superviseUpdate s = evaluate (superviseUpdate s).odo.speed (superviseUpdate s).ssv.permitted x := by
  refine ⟨{ s with
    ssv.permitted := (computeRecord s s.odo.speed).permitted, ssv.record := computeRecord s s.odo.speed },
    rfl, rfl, rfl, rfl, ?_⟩
  rw [(superviseUpdate_supervised h).2.1, (superviseUpdate_keeps s).2.1]
  simp [superviseUpdate, h]

/-- A speed update is an evaluation from a state with the intervention state, the stored acknowledgement, the brakes and the
CMC of `s`; RTB's part, before it or after it, touches none of them (R60, R77). -/
theorem takeUpdate_evaluates (rtbFirst : Bool) {s : State} (h : s.cmc.mode.supervised = true) :
    ∃ x y, x.cmc = s.cmc ∧ x.brc = s.brc ∧ x.ssv.state = s.ssv.state ∧ x.ssv.acknowledged = s.ssv.acknowledged ∧
      y = evaluate (takeUpdate rtbFirst s).odo.speed (takeUpdate rtbFirst s).ssv.permitted x ∧
      (takeUpdate rtbFirst s).ssv = y.ssv ∧ (takeUpdate rtbFirst s).brc = y.brc ∧
      (takeUpdate rtbFirst s).hlp.attention.supervision = y.hlp.attention.supervision := by
  cases rtbFirst with
  | true =>
    obtain ⟨x, hcmc, hbrc, hstate, hack, heq⟩ :=
      superviseUpdate_evaluates (s := checkClearance (closeWindow s)) (by simpa)
    exact ⟨x, _, by simpa using hcmc, by simpa using hbrc, by simpa using hstate, by simpa using hack, heq, rfl, rfl,
      rfl⟩
  | false =>
    obtain ⟨x, hcmc, hbrc, hstate, hack, heq⟩ := superviseUpdate_evaluates (s := closeWindow s) (by simpa)
    obtain ⟨-, hodo, -, hssv, hbrc', -⟩ := checkClearance_keeps (superviseUpdate (closeWindow s))
    refine ⟨x, superviseUpdate (closeWindow s), by simpa using hcmc, by simpa using hbrc, by simpa using hstate,
      by simpa using hack, ?_, hssv, hbrc', changeRecords_supervision _ _ _⟩
    change _ = evaluate (checkClearance _).odo.speed (checkClearance _).ssv.permitted x
    rw [hodo, hssv]
    exact heq

/-! ### ACK_INTERVENTION (R104) -/

theorem takeAcknowledgement_idle {s : State} (h : s.ssv.state ≠ .service) : takeAcknowledgement s = s := if_neg h

theorem takeAcknowledgement_stored {s : State} (h : s.ssv.state = .service) (hreleased : s.ssv.released = false) :
    takeAcknowledgement s = { s with ssv.acknowledged := true } := by
  simp [takeAcknowledgement, h, hreleased]

theorem takeAcknowledgement_ends {s : State} (h : s.ssv.state = .service) (hreleased : s.ssv.released = true) :
    takeAcknowledgement s = endIntervention s := by
  simp [takeAcknowledgement, h, hreleased]

/-- The acknowledgement is DONE, with the state after it in the body. -/
theorem ackIntervention_slot {s : State} (h : s.resetting = false) :
    (request 0x16 judgeAcknowledgement s).hlp.slot =
      answer s 0x16 { code := .done, body := [(request 0x16 judgeAcknowledgement s).ssv.state.code] } := by
  obtain ⟨-, -, -, -, hssv, -⟩ := request_blocks h 0x16 judgeAcknowledgement
  rw [hssv]
  exact request_slot_of h 0x16 rfl

/-- A request adds to no attention cause but those its owner raises (R196). -/
theorem request_attention {s : State} (h : s.resetting = false) (q : Byte) (owner : State → Reply × State) :
    (request q owner s).hlp.attention = (owner s).2.hlp.attention := by
  rw [request_eq q owner s h]
  rfl

/-- An acknowledgement that ends the service intervention (R104). -/
theorem ackIntervention_ends {s : State} (h : s.resetting = false) (hstate : s.ssv.state = .service)
    (hreleased : s.ssv.released = true) :
    let t := request 0x16 judgeAcknowledgement s
    t.ssv = { s.ssv with state := .normal } ∧ t.brc.demands.intervention = none ∧ t.brc.latch = s.brc.latch ∧
    t.hlp.attention.supervision = true ∧ t.cmc = s.cmc ∧ t.odo = s.odo ∧ t.lps = s.lps ∧ t.rtb = s.rtb ∧
    t.drc = s.drc ∧ t.vrl = s.vrl ∧ t.sld = s.sld ∧ t.pending = s.pending := by
  obtain ⟨hcmc, hodo, hlps, hrtb, hssv, hbrc, hdrc, hvrl, hsld, hpending⟩ := request_blocks h 0x16 judgeAcknowledgement
  have hattention := request_attention h 0x16 judgeAcknowledgement
  have howner : (judgeAcknowledgement s).2 = endIntervention s := takeAcknowledgement_ends hstate hreleased
  have hfollowed := InterventionFollowed.endIntervention hstate
  have hends : (endIntervention s).ssv.state = .normal := by rw [endIntervention_ssv]
  dsimp only
  rw [hcmc, hodo, hlps, hrtb, hssv, hbrc, hdrc, hvrl, hsld, hpending, hattention, howner, endIntervention_ssv]
  exact ⟨rfl, hfollowed.withdrawn hstate (by rw [hends]; decide), hfollowed.latch (by rw [hends]; decide),
    hfollowed.raised (by rw [hends, hstate]; decide), by simp⟩

/-- An acknowledgement that changes SSV alone, or nothing: it leaves the rest of the state but the slot and SDO. -/
theorem ackIntervention_frame {s u : State} (h : s.resetting = false) (howner : takeAcknowledgement s = u)
    (hhlp : u.hlp = s.hlp) :
    request 0x16 judgeAcknowledgement s =
      { u with hlp.slot := (request 0x16 judgeAcknowledgement s).hlp.slot, hlp.sdo := [] } := by
  subst howner
  rw [request_eq _ _ s h]
  rfl

theorem ackIntervention_answers {s : State} (h : s.resetting = false) :
    let t := request 0x16 judgeAcknowledgement s
    if s.ssv.state = .service then
      if s.ssv.released = true then
        t.ssv = { s.ssv with state := .normal } ∧ t.brc.demands.intervention = none ∧ t.brc.latch = s.brc.latch ∧
        t.hlp.attention.supervision = true ∧ t.cmc = s.cmc ∧ t.odo = s.odo ∧ t.lps = s.lps ∧ t.rtb = s.rtb ∧
        t.drc = s.drc ∧ t.vrl = s.vrl ∧ t.sld = s.sld ∧ t.pending = s.pending
      else t = { s with ssv.acknowledged := true, hlp.slot := t.hlp.slot, hlp.sdo := [] }
    else t = { s with hlp.slot := t.hlp.slot, hlp.sdo := [] } := by
  dsimp only
  split
  · rename_i hstate
    split
    · rename_i hreleased
      exact ackIntervention_ends h hstate hreleased
    · rename_i hreleased
      exact ackIntervention_frame h (takeAcknowledgement_stored hstate (by simpa using hreleased)) rfl
  · rename_i hstate
    exact ackIntervention_frame h (takeAcknowledgement_idle hstate) rfl

/-! ### The obligation -/

/-- Settles O25: the evaluation by the state it finds, and the acknowledgement by the state and the release mark. -/
theorem interventionEvaluation : Obligations.InterventionEvaluation := by
  refine ⟨fun s rtbFirst hmode => ⟨_, exec_speedUpdate rtbFirst s, ?_⟩, fun s hr =>
    ⟨_, rfl, ackIntervention_slot hr, ackIntervention_answers hr⟩⟩
  obtain ⟨x, y, hcmc, hbrc, hstate, hack, hy, hssv, hbrc', hsupervision⟩ :=
    takeUpdate_evaluates rtbFirst ((mode_supervised_iff _).2 hmode)
  dsimp only
  generalize (takeUpdate rtbFirst s).odo.speed = v at hy ⊢
  generalize (takeUpdate rtbFirst s).ssv.permitted = vPerm at hy ⊢
  rw [hssv, hbrc', hsupervision, ← hcmc, ← hbrc, ← hstate, ← hack, hy, ← pastEmergencyMargin_iff,
    ← atReleaseSpeed_iff, ← serviceUnusable_iff]
  have hfollowed : InterventionFollowed x (evaluate v vPerm x) := evaluate_followed
  refine ⟨by rw [evaluate_overspeed], evaluate_free, fun h => ?_, evaluate_emergency, hfollowed.placed,
    hfollowed.emergency, hfollowed.raised, hfollowed.latch⟩
  obtain ⟨hemergency, hends, hgoes⟩ := evaluate_service h
  exact ⟨hemergency, hends, fun hexcess hmark husable => by simpa using hgoes hexcess hmark husable, hfollowed.withdrawn h⟩

end Sys2Proof.Machine
end

section
/-! SUPPORT. What keeps the law of the brakes (R112, R117, R119, R122, R132, R138): the operations of BRC, which evaluate the
brakes again, and those of DRC and CMC, which have BRC do so. -/

namespace Sys2Proof.Machine

/-- What BRC's sources meet whether or not the brakes have been evaluated since: no test beside a set latch, and the driver's
and SSV's levels in 0 … 1000 (R117, R132, R138). -/
def SourcesLaw (s : State) : Prop :=
  (s.brc.latch.any = true → s.brc.test = none) ∧ s.brc.driverLevel ≤ 1000 ∧ s.brc.demands.intervention.getD 0 ≤ 1000

theorem brakesLaw_iff (s : State) : BrakesLaw s ↔ BrakesSettled s ∧ SourcesLaw s := Iff.rfl

/-- What the law reads of BRC. -/
def brakesRead (b : Brakes) :=
  (b.demands, b.hold, b.permit, b.setpoint, b.releaseValve, b.dumpValve, b.driverLevel, b.hostHold, b.latch,
    b.test.map TestContext.step)

/-- What the law reads of the blocks that BRC takes its sources from. -/
def sourcesRead (s : State) := (s.cmc.mode, s.cmc.selected, s.cmc.params, s.standing, s.drc.doorHold)

theorem test_none_iff_of_read {b c : Brakes} (h : brakesRead c = brakesRead b) : c.test = none ↔ b.test = none := by
  simp only [brakesRead, Prod.mk.injEq] at h
  obtain ⟨-, -, -, -, -, -, -, -, -, htest⟩ := h
  rw [← Option.map_eq_none_iff (f := TestContext.step), htest, Option.map_eq_none_iff]

theorem SourcesLaw.of_read {s t : State} (h : SourcesLaw s) (hb : brakesRead t.brc = brakesRead s.brc) : SourcesLaw t := by
  have htest := test_none_iff_of_read hb
  simp only [brakesRead, Prod.mk.injEq] at hb
  obtain ⟨hdemands, -, -, -, -, -, hlevel, -, hlatch, -⟩ := hb
  unfold SourcesLaw
  rw [htest, hdemands, hlevel, hlatch]
  exact h

/-- A running test enters the evaluation by its step alone. -/
theorem formedReleaseValve_eq (s : State) :
    formedReleaseValve s = ((s.brc.test.map TestContext.step).map TestStep.releaseValve).getD (!(formedHolding s).any) := by
  unfold formedReleaseValve
  cases s.brc.test <;> rfl

theorem formedDumpValve_eq (s : State) :
    formedDumpValve s = ((s.brc.test.map TestContext.step).map TestStep.dumpValve).getD (!s.brc.latch.any) := by
  unfold formedDumpValve
  cases s.brc.test <;> rfl

theorem formedDemands_test (s : State) :
    (formedDemands s).test = (s.brc.test.map TestContext.step).map TestStep.testDemand := by
  simp only [formedDemands, Option.map_map, Function.comp_def]

theorem BrakesSettled.of_read {s t : State} (h : BrakesSettled s) (hb : brakesRead t.brc = brakesRead s.brc)
    (hs : sourcesRead t = sourcesRead s) : BrakesSettled t := by
  have htesting : t.testing = s.testing := by
    have htest := test_none_iff_of_read hb
    rw [State.testing, State.testing, Bool.eq_iff_iff, Option.isSome_iff_ne_none, Option.isSome_iff_ne_none, ne_eq, htest]
  simp only [brakesRead, Prod.mk.injEq] at hb
  simp only [sourcesRead, Prod.mk.injEq] at hs
  obtain ⟨hdemands, hhold, hpermit, hsetpoint, hrelease, hdump, hlevel, hhost, hlatch, hstep⟩ := hb
  obtain ⟨hmode, hselected, hparams, hstanding, hdoor⟩ := hs
  have hcondition : permitCondition t = permitCondition s := by
    simp only [permitCondition, hmode, hselected, hlatch, hdoor, htesting, hhost]
  have hholding : formedHolding t = formedHolding s := by
    simp only [formedHolding, hmode, hdoor, hlatch, hhost, hparams, hstanding, hcondition]
  have hformed : formedDemands t = formedDemands s := by
    have htest := (formedDemands_test t).trans ((congrArg _ hstep).trans (formedDemands_test s).symm)
    simp only [formedDemands, hlevel, hdemands, hdoor, hparams, hlatch] at htest ⊢
    rw [htest]
  unfold BrakesSettled
  rw [formedReleaseValve_eq, formedDumpValve_eq, hdemands, hhold, hpermit, hsetpoint, hrelease, hdump, hformed, hholding,
    hcondition, hstep, hlatch, ← formedReleaseValve_eq, ← formedDumpValve_eq]
  exact h

/-- From `s` to `t` the sources of the brakes stay in their law, and settled brakes stay settled. -/
structure BrakesKept (s t : State) : Prop where
  settled : BrakesSettled s → BrakesSettled t
  sources : SourcesLaw s → SourcesLaw t

namespace BrakesKept

theorem law {s t : State} (h : BrakesKept s t) (hs : BrakesLaw s) : BrakesLaw t := ⟨h.settled hs.1, h.sources hs.2⟩

theorem refl (s : State) : BrakesKept s s := ⟨id, id⟩

theorem trans {s t u : State} (h : BrakesKept s t) (k : BrakesKept t u) : BrakesKept s u :=
  ⟨fun hs => k.settled (h.settled hs), fun hs => k.sources (h.sources hs)⟩

theorem foldl {α : Type} {f : State → α → State} (h : ∀ s a, BrakesKept s (f s a)) :
    ∀ (l : List α) (s : State), BrakesKept s (l.foldl f s)
  | [], s => refl s
  | a :: l, s => (h s a).trans (foldl h l (f s a))

theorem ite {s t u : State} (p : Prop) [Decidable p] (ht : BrakesKept s t) (hu : BrakesKept s u) :
    BrakesKept s (if p then t else u) := by
  split
  · exact ht
  · exact hu

/-- An operation that changes nothing the law reads. -/
theorem of_read {s t : State} (hb : brakesRead t.brc = brakesRead s.brc) (hs : sourcesRead t = sourcesRead s) :
    BrakesKept s t :=
  ⟨fun h => h.of_read hb hs, fun h => h.of_read hb⟩

/-- An operation that leaves CMC, ODO, BRC and DRC alone. -/
theorem of_blocks {s t : State} (h : t.cmc = s.cmc ∧ t.odo = s.odo ∧ t.brc = s.brc ∧ t.drc = s.drc) : BrakesKept s t := by
  obtain ⟨hcmc, hodo, hbrc, hdrc⟩ := h
  exact of_read (by rw [hbrc]) (by simp only [sourcesRead, State.standing, hcmc, hodo, hdrc])

/-- An operation of ODO on its figures that leaves motion as it is. -/
theorem of_motion {s t : State} (h : t.cmc = s.cmc ∧ t.brc = s.brc ∧ t.drc = s.drc) (hmotion : t.odo.motion = s.odo.motion) :
    BrakesKept s t := by
  obtain ⟨hcmc, hbrc, hdrc⟩ := h
  exact of_read (by rw [hbrc]) (by simp only [sourcesRead, State.standing, hcmc, hmotion, hdrc])

/-- An operation of DRC on its leaves, gangs and records. -/
theorem of_doors {s t : State} (h : DoorMove s t) : BrakesKept s t :=
  of_read (by rw [h.brc]) (by simp only [sourcesRead, State.standing, h.cmc, h.odo, h.doorHold])

/-- A request keeps the law where its owner does. -/
theorem request (q : Byte) {owner : State → Reply × State} {s : State} (h : BrakesKept s (owner s).2) :
    BrakesKept s (request q owner s) := by
  unfold Machine.request
  split
  · exact of_read rfl rfl
  · exact h.trans (of_read rfl rfl)

/-! ### The evaluation of the brakes -/

/-- Whatever changed before it, an evaluation leaves the brakes settled (R117, R119, R122). -/
theorem settle_of_sources {s x : State} (h : SourcesLaw s → SourcesLaw x) : BrakesKept s (settle x) :=
  ⟨fun _ => settle_settled x, fun hs => by simpa [SourcesLaw] using h hs⟩

theorem settle (s : State) : BrakesKept s (settle s) := settle_of_sources id

theorem raise (c : Attention) (s : State) : BrakesKept s (raise c s) := of_read rfl rfl

theorem handAlarm (c : AlarmCause) (s : State) : BrakesKept s (handAlarm c s) := of_doors (.handAlarm c s)

theorem setSupervision (c : Channel) (x : Supervision) (s : State) : BrakesKept s (setSupervision c x s) := by
  cases c <;> exact of_read rfl rfl

/-- The end of a test is an evaluation without it (R137, R138). -/
theorem testOver_settled (r : TestResult) (s : State) : BrakesSettled (testOver r s) := by
  refine BrakesSettled.of_read (settle_settled { s with brc.test := none, brc.result := r }) ?_ ?_
  · simp [testOver, resumeSupervision, brakesRead]
  · simp [testOver, resumeSupervision, sourcesRead, State.standing]

theorem testOver (r : TestResult) (s : State) : BrakesKept s (testOver r s) := by
  refine ⟨fun _ => testOver_settled r s, fun ⟨_, hlevel, hintervention⟩ => ⟨fun _ => ?_, ?_, ?_⟩⟩
  · simp [Machine.testOver, resumeSupervision]
  · simpa [Machine.testOver, resumeSupervision] using hlevel
  · simpa [Machine.testOver, resumeSupervision] using hintervention

theorem abortTest (r : AbortReason) (s : State) : BrakesKept s (abortTest r s) := by
  unfold Machine.abortTest
  split
  · exact refl s
  · exact testOver _ s

/-- A new cause ends a running test before the brakes are evaluated, and a cause already held changes nothing (R123, R138). -/
theorem addLatchCause (c : LatchCause) (s : State) : BrakesKept s (addLatchCause c s) := by
  unfold Machine.addLatchCause
  split
  · exact refl s
  · exact settle_of_sources fun ⟨_, hlevel, hintervention⟩ =>
      ⟨fun _ => by simp, by simpa using hlevel, by simpa using hintervention⟩

theorem addLatchIf (b : Bool) (c : LatchCause) (s : State) : BrakesKept s (addLatchIf b c s) :=
  ite _ (addLatchCause c s) (refl s)

theorem testMotion (s : State) : BrakesKept s (testMotion s) :=
  ite _ ((abortTest _ s).trans (addLatchCause _ _)) (refl s)

/-- The emptied latch is apart from any test (R127). -/
theorem emptyLatch (s : State) : BrakesKept s (emptyLatch s) := by
  have hevaluated : BrakesKept s (Machine.settle { s with brc.latch := LatchSet.empty }) :=
    settle_of_sources fun ⟨_, hlevel, hintervention⟩ => ⟨fun h => (nomatch h), hlevel, hintervention⟩
  have hssv : ∀ t, BrakesKept t (latchEmptiedAtSsv t) := fun t => ite _ (of_read rfl rfl) (refl t)
  exact (hevaluated.trans (raise _ _)).trans (hssv _)

theorem changeHealth (c : Channel) (h : Health) (s : State) : BrakesKept s (changeHealth c h s) := by
  unfold Machine.changeHealth
  split
  · exact refl s
  · cases c <;> exact of_read rfl rfl

theorem faultAlarm (c : Channel) (before : Health) (s : State) : BrakesKept s (faultAlarm c before s) :=
  ite _ (handAlarm _ s) (refl s)

theorem checkFailure (c : Channel) (s : State) : BrakesKept s (checkFailure c s) := by
  have hworse := (setSupervision c .idle s).trans (changeHealth c (s.brc.channel c).health.worse _)
  refine (hworse.trans (faultAlarm c (s.brc.channel c).health _)).trans ?_
  cases c <;> exact of_read rfl rfl

/-! ### Events of DRC (R149, R160 to R162) -/

/-- Door hold that moves has the brakes evaluated (R160). -/
theorem followDoorHold (s : State) : BrakesKept s (followDoorHold s) := by
  refine ⟨BrakesSettled.followDoorHold, fun hs => ?_⟩
  unfold Machine.followDoorHold
  dsimp only
  split
  · exact hs
  · refine (settle _).sources ?_
    split
    · exact (abortTest _ _).sources (hs.of_read rfl)
    · exact hs.of_read rfl

theorem flushReport (s : State) : BrakesKept s (flushReport s) := by
  obtain ⟨hcmc, hodo, -, -, -, hbrc, -⟩ := flushReport_keeps s
  obtain ⟨-, -, hdoorHold, -⟩ := flushReport_drc s
  exact of_read (by rw [hbrc]) (by simp only [sourcesRead, State.standing, hcmc, hodo, hdoorHold])

/-- An event of DRC keeps the law where its operation does. -/
theorem drcEvent {f : State → State} {s : State} (h : BrakesKept s (f s)) : BrakesKept s (drcEvent f s) :=
  ((h.trans (followDoorHold _)).trans (addLatchIf _ _ _)).trans (flushReport _)

theorem judgeRelease (s : State) : BrakesKept s (judgeRelease s) := drcEvent (of_doors (.judge s))

/-! ### New parameter values (R12) -/

theorem formDoors (s : State) : BrakesKept s (formDoors s) :=
  drcEvent (f := fun s => formGang .right (formGang .left (formLeaves s))) (of_doors (.formBoth s))

/-- New values are active before the brakes are evaluated, and DRC forms its doors after it (R12, R142, R156). -/
theorem activate (p : Table Nat 52) (s : State) : BrakesKept s (activate p s) := by
  have hevaluated : BrakesKept s (Machine.settle (restartReceiver s.cmc.params p { s with cmc.params := p })) :=
    settle_of_sources fun h => h.of_read (by simp)
  exact hevaluated.trans (formDoors _)

theorem applyPendingSet (s : State) : BrakesKept s (applyPendingSet s) := by
  have hempty : BrakesKept s { s with cmc.pendingSet := emptyPending } := of_read rfl rfl
  exact ite _ (refl s) (hempty.trans (activate _ _))

end BrakesKept

end Sys2Proof.Machine
end

section
/-! SUPPORT. What keeps the law of the brakes, block by block: the brake test, ODO, SSV, CMC, DRC and VRL (R8, R27, R28, R105,
R119, R132 to R138, R160). -/

namespace Sys2Proof.Machine

namespace BrakesKept

/-! ### The brake test and the feedback of BRC (R114, R133 to R137) -/

theorem beginStep_settled (st : TestStep) (s : State) : BrakesSettled (beginStep st s) := settle_settled _

theorem beginStep (st : TestStep) (s : State) : BrakesKept s (beginStep st s) :=
  settle_of_sources fun ⟨hlatch, hlevel, hintervention⟩ => ⟨fun h => by simp [hlatch h], hlevel, hintervention⟩

theorem endStep (st : TestStep) (o : StepOutcome) (s : State) : BrakesKept s (endStep st o s) := by
  have hresult : BrakesKept s { s with brc.result.steps := s.brc.result.steps.set st o } := of_read rfl rfl
  unfold Machine.endStep
  split
  · exact hresult
  · exact (hresult.trans (changeHealth _ _ _)).trans (faultAlarm _ _ _)

theorem handHoldingHealth (before : Health) (s : State) : BrakesKept s (handHoldingHealth before s) :=
  ite _ (refl s) (judgeRelease s)

theorem runSteps (steps : List TestStep) (before : Health) (s : State) : BrakesKept s (runSteps steps before s) := by
  induction steps generalizing before s with
  | nil => exact testOver _ s
  | cons st rest ih =>
    have hbegun := (beginStep st s).trans (handHoldingHealth before _)
    exact ite _ (hbegun.trans ((endStep st _ _).trans (ih _ _))) hbegun

/-- The first step begins with an evaluation, whatever changed before it (R133, R135). -/
theorem runSteps_settled (steps : List TestStep) (before : Health) (s : State) :
    BrakesSettled (Machine.runSteps steps before s) := by
  cases steps with
  | nil => exact testOver_settled _ s
  | cons st rest =>
    have hbegun := (handHoldingHealth before _).settled (beginStep_settled st s)
    exact (ite _ ((endStep st (.pass 0) _).trans (runSteps rest _ _)) (refl _)).settled hbegun

theorem finishStep (t : TestContext) (o : StepOutcome) (s : State) : BrakesKept s (finishStep t o s) :=
  (endStep t.step o s).trans (runSteps _ _ _)

theorem testFeedback (c : Channel) (s : State) : BrakesKept s (testFeedback c s) := by
  unfold Machine.testFeedback
  split
  · exact refl s
  · exact ite _ (finishStep _ _ s) (refl s)

/-- A test starts with the latch empty (R132). -/
theorem startTest {s : State} (h : s.brc.latch.any = false) : BrakesKept s (startTest s) := by
  refine ⟨fun _ => runSteps_settled _ _ _, fun ⟨_, hlevel, hintervention⟩ => ?_⟩
  refine (runSteps _ _ _).sources ⟨fun hset => ?_, hlevel, hintervention⟩
  exact absurd (h.symm.trans hset) (by decide)

theorem storeFeedback (f : Feedback) (s : State) : BrakesKept s (storeFeedback f s) := by
  cases f <;> exact of_read rfl rfl

theorem superviseFeedback (c : Channel) (s : State) : BrakesKept s (superviseFeedback c s) := by
  unfold Machine.superviseFeedback
  split
  · exact refl s
  · exact ite _ (setSupervision c _ s) (refl s)
  · exact ite _ (refl s) (setSupervision c _ s)

theorem confirmHolding (c : Channel) (s : State) : BrakesKept s (confirmHolding c s) :=
  ite _ (of_read rfl rfl) (refl s)

/-- BRC's part of a LINE_RESET (R130). -/
theorem resetBrakes (s : State) : BrakesKept s (resetBrakes s) :=
  settle_of_sources fun h => by simpa [SourcesLaw] using (abortTest .lineReset s).sources h

/-! ### ODO (R15, R19, R27, R28) -/

theorem setStatus (x : PositionStatus) (reason : Option DegradedReason) (s : State) :
    BrakesKept s (setStatus x reason s) := of_read rfl rfl

theorem setEstimate (n u : Nat) (s : State) : BrakesKept s (setEstimate n u s) := of_read rfl rfl

theorem moveEstimate (pair : Pair) (way : Way) (s : State) : BrakesKept s (moveEstimate pair way s) := by
  unfold Machine.moveEstimate
  split
  · exact refl s
  · exact ite _ ((setEstimate _ _ s).trans (setStatus _ _ _)) (setEstimate _ _ s)

theorem anchor (s : State) : BrakesKept s (anchor s) := by
  unfold Machine.anchor
  split
  · exact refl s
  · split
    · exact (setEstimate _ _ s).trans (setStatus _ _ _)
    · split
      · exact refl s
      · exact (setStatus _ _ s).trans (handAlarm _ _)

theorem anchorAfter (m : Meshing) (way : Way) (s : State) : BrakesKept s (anchorAfter m way s) := by
  unfold Machine.anchorAfter
  split
  · exact anchor s
  · exact anchor s
  · exact refl s

theorem changeWatch (m : Meshing) (before : Option Nat) (fromSource : Bool) (s : State) :
    BrakesKept s (changeWatch m before fromSource s) := by
  have hwatch : ∀ w, BrakesKept s { s with odo.watch := w } := fun _ => of_read rfl rfl
  unfold Machine.changeWatch
  dsimp only
  split
  · exact (hwatch _).trans (addLatchCause _ _)
  · exact hwatch _

theorem accumulate (pair : Pair) (way : Way) (s : State) : BrakesKept s (accumulate pair way s) := by
  have hsums : ∀ x y, BrakesKept s { s with odo.windowSum := x, odo.reverse := y } := fun _ _ => of_read rfl rfl
  exact ite _ ((hsums _ _).trans (addLatchIf _ _ _)) (hsums _ _)

/-- Motion that begins has the brakes evaluated, and motion that goes on is no change (R28, R119). -/
theorem becomeMoving (s : State) : BrakesKept s (becomeMoving s) := by
  unfold Machine.becomeMoving
  dsimp only
  split
  · have hmoving : BrakesKept s (brakesMoving
        { s with odo.motion := .moving, odo.standstillTimer := some (standstillWindow s.cmc.params) }) :=
      settle_of_sources fun h => (testMotion _).sources (h.of_read rfl)
    exact (hmoving.trans (addLatchIf _ _ _)).trans (judgeRelease _)
  · rename_i hstanding
    exact of_motion ⟨rfl, rfl, rfl⟩ (by
      rw [standing_iff] at hstanding
      cases hmotion : s.odo.motion with
      | standstill => exact absurd hmotion hstanding
      | moving => rfl)

theorem meshedCount (pair : Pair) (way : Way) (s : State) : BrakesKept s (meshedCount pair way s) := by
  have htotal : BrakesKept s (addTotal pair way s) := by cases pair <;> exact of_read rfl rfl
  have hlatched := htotal.trans (addLatchIf (s.cmc.mode == .stabled) .stabledMotion _)
  exact hlatched.trans (of_read rfl rfl)

theorem countSteps (pair : Pair) (way : Way) (s : State) : BrakesKept s (countSteps pair way s) := by
  have hmoved : BrakesKept s (movedCount pair way s) :=
    ite _ ((meshedCount pair way s).trans (moveEstimate _ _ _)) (meshedCount pair way s)
  have hwatched : BrakesKept s (watchedCount pair way s) :=
    (hmoved.trans (anchorAfter _ _ _)).trans (changeWatch _ _ _ _)
  rw [countSteps_eq]
  exact (ite _ (hwatched.trans (accumulate _ _ _)) hwatched).trans (becomeMoving _)

/-- Standstill has CMC apply its pending set, and then the brakes are evaluated (R12, R27, R119). -/
theorem standstillTaken (s : State) :
    BrakesKept s (Machine.judgeRelease (Machine.settle (modesStanding (atStandstill s)))) := by
  have hmodes : ∀ t, BrakesKept t (modesStanding t) := fun t => ite _ (applyPendingSet t) (refl t)
  have hevaluated : BrakesKept s (Machine.settle (modesStanding (atStandstill s))) :=
    settle_of_sources fun h => (hmodes _).sources (h.of_read rfl)
  exact hevaluated.trans (judgeRelease _)

theorem takePosition (position uncertainty : Nat) (s : State) : BrakesKept s (takePosition position uncertainty s) := by
  have hset : BrakesKept s
      (Machine.setEstimate (position * 1000) (takenUncertainty s position uncertainty) { s with odo.watch := .idle }) :=
    of_read rfl rfl
  exact ite _ (hset.trans (setStatus _ _ _)) (hset.trans (setStatus _ _ _))

/-! ### The profile and the settings (R21, R45, R49) -/

theorem profileLost (s : State) : BrakesKept s (profileLost s) := by
  have hdiscarded : BrakesKept s (discardEstimate s) := of_read rfl rfl
  exact hdiscarded.trans (judgeRelease _)

theorem finishLoad (s : State) : BrakesKept s (finishLoad s) := by
  have hended : BrakesKept s { s with lps := endLoad s.lps } := of_read rfl rfl
  exact ite _ (hended.trans (judgeRelease _)) hended

theorem takeStoredProfile (b : ProfileBlock) (s : State) : BrakesKept s (takeStoredProfile b s) := by
  have hload : ∀ p, BrakesKept s { s with lps := p } := fun _ => of_read rfl rfl
  exact ite _ (refl s) (ite _ (hload _) ((hload _).trans (finishLoad _)))

theorem endStartUpLoad (image : List Byte) (s : State) : BrakesKept s (endStartUpLoad image s) := by
  have hloaded : BrakesKept s { s with sld.status := .loaded, sld.clampMark := anyClamped (storedValues image) } :=
    of_read rfl rfl
  have hactive := hloaded.trans (activate (loadedParams (storedValues image)) _)
  exact ite _ (of_read rfl rfl)
    (ite _ (of_read rfl rfl) (hactive.trans (takeStoredProfile (storedProfile image) _)))

/-! ### SSV (R100 to R111) -/

theorem setIntervention (x : Intervention) (s : State) : BrakesKept s (setIntervention x s) :=
  ite _ (refl s) (of_read rfl rfl)

/-- A demand of SSV in 0 … 1000 (R105, R117). -/
theorem placeDemand {level : Option Nat} (h : level.getD 0 ≤ 1000) (s : State) : BrakesKept s (placeDemand level s) :=
  settle_of_sources fun ⟨hlatch, hlevel, _⟩ => ⟨hlatch, hlevel, h⟩

theorem withdrawDemand (s : State) : BrakesKept s (Machine.placeDemand none s) := placeDemand (Nat.zero_le _) s

theorem enterEmergency (s : State) : BrakesKept s (enterEmergency s) :=
  ((setIntervention _ s).trans (addLatchCause _ _)).trans (withdrawDemand _)

theorem endIntervention (s : State) : BrakesKept s (endIntervention s) :=
  (setIntervention _ s).trans (withdrawDemand _)

theorem enterServiceIntervention {s : State} (h : interventionDemand s.cmc.params ≤ 1000) :
    BrakesKept s (enterServiceIntervention s) := by
  have hmarks : BrakesKept s { s with ssv.acknowledged := false, ssv.released := false } := of_read rfl rfl
  exact (hmarks.trans (setIntervention _ _)).trans (placeDemand (level := some _) h _)

theorem evaluate (v vPerm : Nat) {s : State} (h : interventionDemand s.cmc.params ≤ 1000) :
    BrakesKept s (evaluate v vPerm s) := by
  have hover : BrakesKept s (overspeedNoted v vPerm s) := of_read rfl rfl
  have hreleased : BrakesKept s (releaseNoted v vPerm s) := of_read rfl rfl
  rcases intervention_cases s.ssv.state with hstate | hstate | hstate
  · rw [evaluate_of_emergency hstate]
    exact hover.trans (addLatchIf _ _ _)
  · rw [evaluate_of_service hstate]
    exact ite _ (hreleased.trans (enterEmergency _))
      (ite _ (hreleased.trans (endIntervention _)) (hreleased.trans (placeDemand (level := some _) h _)))
  · rw [evaluate_of_free hstate]
    exact ite _ (hover.trans (enterEmergency _))
      (ite _ (ite _ (hover.trans (enterEmergency _)) (hover.trans (enterServiceIntervention h)))
        (ite _ (hover.trans (setIntervention _ _)) (hover.trans (setIntervention _ _))))

theorem superviseUpdate {s : State} (h : interventionDemand s.cmc.params ≤ 1000) :
    BrakesKept s (superviseUpdate s) := by
  have hrecord : ∀ r, BrakesKept s { s with ssv.permitted := r.permitted, ssv.record := r } := fun _ => of_read rfl rfl
  exact ite _ ((hrecord _).trans (evaluate _ _ h)) (refl s)

theorem takeUpdate (rtbFirst : Bool) {s : State} (h : interventionDemand s.cmc.params ≤ 1000) :
    BrakesKept s (takeUpdate rtbFirst s) := by
  have hwindow : BrakesKept s (closeWindow s) := of_read rfl rfl
  have hclear : ∀ t, BrakesKept t (checkClearance t) := fun t => of_blocks (by simp)
  have hcmc : (checkClearance (closeWindow s)).cmc = s.cmc := by simp
  exact ite _ ((hwindow.trans (hclear _)).trans (superviseUpdate (hcmc ▸ h)))
    ((hwindow.trans (superviseUpdate h)).trans (hclear _))

theorem clearSupervision_sources {s : State} (h : SourcesLaw s) : SourcesLaw (clearSupervision s) := by
  obtain ⟨hlatch, hlevel, -⟩ := h
  unfold SourcesLaw
  rw [clearSupervision_brc]
  exact ⟨hlatch, hlevel, Nat.zero_le _⟩

theorem endSupervision (s : State) : BrakesKept s (endSupervision s) := settle_of_sources clearSupervision_sources

theorem takeAcknowledgement (s : State) : BrakesKept s (takeAcknowledgement s) :=
  ite _ (ite _ (endIntervention s) (of_read rfl rfl)) (refl s)

/-! ### CMC (R8, R9, R13) -/

/-- A change of mode ends in an evaluation and DRC's judgement of release (R8). -/
theorem changeMode (m : Mode) (s : State) : BrakesKept s (changeMode m s) := by
  refine ⟨fun _ => changeMode_settled m s, fun h => ?_⟩
  have hstored : SourcesLaw (storeMode m s) := h.of_read rfl
  refine (judgeRelease _).sources ((settle _).sources ?_)
  split
  · exact (applyPendingSet _).sources (clearSupervision_sources hstored)
  · exact hstored

theorem changeDirection (d : Selected) (s : State) : BrakesKept s (changeDirection d s) :=
  settle_of_sources fun h => h.of_read rfl

theorem beginReset (s : State) : BrakesKept s (beginReset s) := by
  have hempty : BrakesKept s { s with cmc.pendingSet := emptyPending } := of_read rfl rfl
  have hmodes : BrakesKept s (resetModes s) := ite _ (hempty.trans (changeMode _ _)) hempty
  exact hmodes.trans (of_read rfl rfl)

theorem afterPart (p : ResetParts) (s : State) : BrakesKept s (afterPart p s) := by
  have hparts : ∀ v, BrakesKept s { s with cmc.resetParts := p, ssv.resetView := v } := fun _ => of_read rfl rfl
  have hplaced : ∀ t, BrakesKept t (placeResetDone t) := fun t => of_blocks (by simp)
  exact ite _ ((hparts _).trans (hplaced _)) (hparts _)

/-- An owner's part of a LINE_RESET, taken or not, keeps the law where the part itself does. -/
theorem takePart (outstanding : Bool) (left : ResetParts) {part : State → State} {s : State}
    (h : BrakesKept s (part s)) : ∃ t, takePart outstanding left part s = .next t ∧ BrakesKept s t :=
  ⟨_, rfl, ite _ (h.trans (afterPart left _)) (refl s)⟩

end BrakesKept

end Sys2Proof.Machine
end

section
/-! SUPPORT. DRC's commands, lines and timers move leaves, gangs and records of DRC alone; the rest of their events is what
`drcEvent` does (R145 to R160). -/

namespace Sys2Proof.Machine

namespace DoorMove

theorem ite {s t u : State} (p : Prop) [Decidable p] (ht : DoorMove s t) (hu : DoorMove s u) :
    DoorMove s (if p then t else u) := by
  split
  · exact ht
  · exact hu

theorem enterOpened (d : Drive) (s : State) : DoorMove s (enterOpened d s) := by
  unfold Machine.enterOpened
  split
  · exact refl s
  · exact enterState d _ _ _ s

theorem enterOpening (d : Drive) (s : State) : DoorMove s (enterOpening d s) := by
  unfold Machine.enterOpening
  split
  · exact refl s
  · exact ite _ ((enterState d _ _ _ s).trans (enterOpened d _)) (enterState d _ _ _ s)

theorem openLeaf (d : Drive) (s : State) : DoorMove s (openLeaf d s) := by
  unfold Machine.openLeaf
  split
  · exact refl s
  · split
    · exact ite _ (isolateLeaf d _ s) (enterOpening d s)
    · exact enterOpening d s
    · exact setLeaf d _ s
    · exact refl s

theorem openLeaves (ds : List Drive) (s : State) : DoorMove s (ds.foldl (fun s d => Machine.openLeaf d s) s) :=
  foldl (fun s d => openLeaf d s) ds s

theorem closeWithGang (d : Drive) (s : State) : DoorMove s (closeWithGang d s) := by
  unfold Machine.closeWithGang
  split
  · exact refl s
  · exact ite _ (closeLeaves _ _ s) (closeLeaves _ _ s)

theorem leaveHeld (d : Drive) (k : Nat) (s : State) : DoorMove s (leaveHeld d k s) := by
  unfold Machine.leaveHeld
  split
  · exact refl s
  · exact ite _ ((setGangIndex _ k s).trans (startClosing _ k _)) (startClosing _ k s)

theorem restoreLeaf (d : Drive) (s : State) : DoorMove s (restoreLeaf d s) :=
  ite _ (enterLocked d s) (startClosing _ 1 s)

theorem recordChanged (r : Option Release) (s : State) :
    DoorMove s (Machine.judge (Machine.dueReport { s with drc.release := r })) := by
  have hrecord : DoorMove s (Machine.dueReport { s with drc.release := r }) := ⟨rfl, rfl, rfl, rfl, ⟨rfl, rfl⟩⟩
  exact hrecord.trans (judge _)

theorem storeRelease (r : Release) (s : State) : DoorMove s (storeRelease r s) := recordChanged _ s

theorem removeRelease (s : State) : DoorMove s (removeRelease s) := recordChanged _ s

theorem openSwitchMade (d : Drive) (l : Leaf) (s : State) : DoorMove s (openSwitchMade d l s) := by
  unfold Machine.openSwitchMade
  split
  · exact enterOpened d s
  · exact endDrive d s

theorem closedSwitchChanged (d : Drive) (made : Bool) (l : Leaf) (s : State) :
    DoorMove s (closedSwitchChanged d made l s) := by
  unfold Machine.closedSwitchChanged
  split
  · exact ite _ (enterLocking d s) (refl s)
  · exact ite _ (refl s) (startClosing _ _ s)
  · exact refl s

theorem lockSwitchChanged (d : Drive) (confirms : Bool) (l : Leaf) (s : State) :
    DoorMove s (lockSwitchChanged d confirms l s) := by
  unfold Machine.lockSwitchChanged
  split
  · exact ite _ (enterLocked d s) (refl s)
  · exact ite _ (setLeaf d _ s) (((setLeaf d _ s).trans (raise _ _)).trans (dueReport _))
  · exact refl s

theorem pressButton (d : Drive) (l : Leaf) (s : State) : DoorMove s (pressButton d l s) :=
  ite _ (ite _ (openLeaves _ s) (openLeaf d s)) (refl s)

end DoorMove

namespace BrakesKept

/-- An event of DRC whose operation moves leaves, gangs and records. -/
theorem doorEvent {f : State → State} (h : ∀ s, DoorMove s (f s)) (s : State) : BrakesKept s (Machine.drcEvent f s) :=
  drcEvent (of_doors (h s))

theorem lineEvent (d : Drive) (level : DoorInputs → DoorInputs) {f : Leaf → State → State}
    (h : ∀ l s, DoorMove s (f l s)) (s : State) : BrakesKept s (lineEvent d level f s) := by
  refine doorEvent (fun s => ?_) s
  have hinputs : DoorMove s (setInputs d level s) := ⟨rfl, rfl, rfl, rfl, ⟨rfl, rfl⟩⟩
  dsimp only
  split
  · exact hinputs
  · exact hinputs.trans (h _ _)

theorem timerEvent (d : Drive) {f : Leaf → State → State} (h : ∀ l s, DoorMove s (f l s)) (s : State) :
    BrakesKept s (timerEvent d f s) := by
  unfold Machine.timerEvent
  split
  · exact refl s
  · exact ite _ (doorEvent (h _) s) (refl s)

theorem takeDoorRelease (station side : Byte) (s : State) : BrakesKept s (takeDoorRelease station side s) := by
  unfold Machine.takeDoorRelease
  split
  · exact doorEvent (fun s => (DoorMove.raise _ s).trans (.storeRelease _ _)) s
  · exact drcEvent (of_read rfl rfl)
  · exact refl s

theorem takeDoorWithdraw (station : Byte) (s : State) : BrakesKept s (takeDoorWithdraw station s) := by
  unfold Machine.takeDoorWithdraw
  split
  · exact ite _ (doorEvent (fun s => (DoorMove.raise _ s).trans (.removeRelease _)) s) (refl s)
  · exact refl s

/-! ### Telegrams and frames (R165 to R169) -/

theorem handTelegram (source : Byte) (listFirst : Bool) (t : Telegram) (s : State) :
    BrakesKept s (handTelegram source listFirst t s) := by
  have hgate : ∀ take : State → State, BrakesKept s (take s) → BrakesKept s (throughGate take s) := fun _ h =>
    ite _ h (of_read rfl rfl)
  exact match t with
  | .beacon f => of_blocks (by simp [Machine.handTelegram])
  | .restrict f => hgate _ (of_blocks (by simp))
  | .revoke id q => hgate _ (of_blocks (by simp))
  | .syncDone a => of_blocks (by simp [Machine.handTelegram])
  | .doorRelease st sd => takeDoorRelease st sd s
  | .doorWithdraw st => takeDoorWithdraw st s
  | .poll => of_read rfl rfl
  | .notice n text => of_blocks (by simp [Machine.handTelegram])
  | .ack q => of_blocks (by simp [Machine.handTelegram])

theorem judgeHeader (h : Header) (t : Option Telegram) (listFirst : Bool) (s : State) :
    BrakesKept s (judgeHeader h t listFirst s) := by
  have hnoted : BrakesKept s (noteValid h.source h.linkSequence s) := of_read rfl rfl
  unfold Machine.judgeHeader
  refine ite _ (of_read rfl rfl) ?_
  split
  · exact of_read rfl rfl
  · exact ite _ (of_read rfl rfl) (hnoted.trans (handTelegram _ _ _ _))

theorem judgeFrame (f : Frame) (s : State) : BrakesKept s (judgeFrame f s) :=
  ite _ (of_read rfl rfl) (judgeHeader _ _ _ s)

theorem telegramArrives (h : Header) (t : Telegram) (listFirst : Bool) (s : State) :
    BrakesKept s (telegramArrives h t listFirst s) := by
  have hsearch : ∀ r, BrakesKept s { s with vrl.receiver := r } := fun _ => of_read rfl rfl
  exact ite _ (refl s) ((hsearch _).trans (judgeHeader _ _ _ _))

theorem completeFrame (length : Byte) (octets : List Byte) (crc : Half) (s : State) :
    BrakesKept s (completeFrame length octets crc s) := by
  have hsearch : ∀ r, BrakesKept s { s with vrl.receiver := r } := fun _ => of_read rfl rfl
  unfold Machine.completeFrame
  refine ite _ ?_ (of_read rfl rfl)
  split
  · exact (hsearch _).trans (judgeFrame _ _)
  · exact of_read rfl rfl

theorem takeBit (bit : Bool) (s : State) : BrakesKept s (takeBit bit s) := by
  have hreceiver : ∀ r, BrakesKept s { s with vrl.receiver := r } := fun _ => of_read rfl rfl
  unfold Machine.takeBit
  split
  · exact hreceiver _
  · exact ite _ (hreceiver _) (ite _ (hreceiver _) (of_read rfl rfl))
  · exact ite _ (hreceiver _) (ite _ (hreceiver _) (hreceiver _))
  · refine ite _ (hreceiver _) ?_
    split
    · exact hreceiver _
    · exact completeFrame _ _ _ s

end BrakesKept

end Sys2Proof.Machine
end

section
/-! Chapter 7: every step keeps the brakes as their sources give them, and a set latch holds every brake on (R112, R117, R119,
R122, R124, R132, R138). -/

namespace Sys2Proof.Machine

namespace BrakesKept

/-! ### The owners of the requests -/

theorem judgeSetMode (code : Byte) (s : State) : BrakesKept s (judgeSetMode code s).2 := by
  unfold Machine.judgeSetMode
  split
  · exact refl s
  · repeat' split
    case' h_2 => exact changeMode _ s
    all_goals exact refl s

theorem judgeSetDirection (code : Byte) (s : State) : BrakesKept s (judgeSetDirection code s).2 := by
  unfold Machine.judgeSetDirection
  repeat' split
  · exact refl s
  · exact refl s
  · exact refl s
  · exact changeDirection _ s

theorem judgeSetParameter (n v : Nat) (s : State) : BrakesKept s (judgeSetParameter n v s).2 := by
  unfold Machine.judgeSetParameter
  dsimp only
  repeat' split
  case' isFalse.isFalse.isFalse.isFalse.isFalse => exact activate _ s
  all_goals exact of_read rfl rfl

theorem judgeSetPosition (p u : Nat) (s : State) : BrakesKept s (judgeSetPosition p u s).2 := by
  unfold Machine.judgeSetPosition
  repeat' split
  · exact refl s
  · exact refl s
  · exact (takePosition _ _ s).trans (judgeRelease _)

theorem judgeAdd (q : RestrictionRequest) (s : State) : BrakesKept s (judgeAdd q s).2 := by
  unfold Machine.judgeAdd
  repeat' split
  all_goals exact of_blocks (by simp [refused])

theorem judgeAmend (q : RestrictionRequest) (s : State) : BrakesKept s (judgeAmend q s).2 := by
  unfold Machine.judgeAmend
  repeat' split
  all_goals exact of_blocks (by simp [refused])

theorem judgeRevoke (origin : Byte) (id : Half) (s : State) : BrakesKept s (judgeRevoke origin id s).2 := by
  unfold Machine.judgeRevoke
  repeat' split
  all_goals exact of_blocks (by simp [refused])

theorem judgeResetEmergency (s : State) : BrakesKept s (judgeResetEmergency s).2 := by
  unfold Machine.judgeResetEmergency
  repeat' split
  case' isFalse.isFalse.isFalse.isFalse.isFalse => exact emptyLatch s
  all_goals exact refl s

/-- The driver's level is clamped to 0 … 1000 (R118). -/
theorem judgeDriverBrake (level : Half) (s : State) : BrakesKept s (judgeDriverBrake level s).2 := by
  unfold Machine.judgeDriverBrake
  split
  · exact refl s
  · exact settle_of_sources fun ⟨hlatch, _, hintervention⟩ => ⟨hlatch, Nat.min_le_right _ _, hintervention⟩

theorem judgeHoldRequest (value : Byte) (s : State) : BrakesKept s (judgeHoldRequest value s).2 := by
  unfold Machine.judgeHoldRequest
  repeat' split
  · exact refl s
  · exact refl s
  · exact refl s
  · exact settle_of_sources id

/-- A test is accepted with the latch empty alone (R132). -/
theorem judgeStartTest (s : State) : BrakesKept s (judgeStartTest s).2 := by
  unfold Machine.judgeStartTest
  repeat' split
  case' isFalse.isFalse.isFalse.isFalse.isFalse.isFalse hlatch _ => exact startTest (by simpa using hlatch)
  all_goals exact refl s

theorem judgeRelease148 (side : Byte) (s : State) : BrakesKept s (judgeRelease148 side s).2 := by
  have hstored : ∀ r, BrakesKept s (Machine.drcEvent (Machine.storeRelease r) s) := fun r =>
    doorEvent (DoorMove.storeRelease r) s
  unfold Machine.judgeRelease148
  repeat' split
  · exact refl s
  · exact refl s
  · exact refl s
  · exact refl s
  · exact refl s
  · exact hstored _
  · exact refl s
  · exact hstored _
  · exact refl s

theorem judgeWithdraw (s : State) : BrakesKept s (judgeWithdraw s).2 :=
  ite _ (doorEvent DoorMove.removeRelease s) (refl s)

theorem judgeOpenSide (side : Byte) (s : State) : BrakesKept s (judgeOpenSide side s).2 := by
  unfold Machine.judgeOpenSide
  repeat' split
  · exact refl s
  · dsimp only
    exact doorEvent (fun s => DoorMove.openLeaves _ s) s
  · exact refl s

theorem judgeCloseSide (side : Byte) (s : State) : BrakesKept s (judgeCloseSide side s).2 := by
  unfold Machine.judgeCloseSide
  split
  · exact refl s
  · dsimp only
    exact doorEvent (fun s => DoorMove.closeLeaves _ _ s) s

theorem judgeForceClose (drive : Byte) (s : State) : BrakesKept s (judgeForceClose drive s).2 := by
  unfold Machine.judgeForceClose
  repeat' split
  · exact refl s
  · exact doorEvent (DoorMove.leaveHeld _ _) s
  · exact refl s

theorem judgeIsolate (drive : Byte) (s : State) : BrakesKept s (judgeIsolate drive s).2 := by
  unfold Machine.judgeIsolate
  repeat' split
  · exact refl s
  · exact refl s
  · exact doorEvent (DoorMove.isolateLeaf _ _) s
  · exact refl s
  · exact doorEvent (DoorMove.isolateLeaf _ _) s

theorem judgeRestore (drive : Byte) (s : State) : BrakesKept s (judgeRestore drive s).2 := by
  unfold Machine.judgeRestore
  repeat' split
  · exact refl s
  · exact doorEvent (DoorMove.restoreLeaf _) s
  · exact refl s
  · exact refl s

theorem judgeProfileBegin (count length : Nat) (s : State) : BrakesKept s (judgeProfileBegin count length s).2 := by
  have hload : BrakesKept s (beginLoad count length s) := of_read rfl rfl
  unfold Machine.judgeProfileBegin
  split
  · exact refl s
  · repeat' split
    · exact refl s
    · exact refl s
    · exact hload.trans (profileLost _)
    · exact hload

theorem judgeProfileSegment (index : Nat) (r : SegmentRecord) (s : State) :
    BrakesKept s (judgeProfileSegment index r s).2 := by
  unfold Machine.judgeProfileSegment
  repeat' split
  all_goals exact of_read rfl rfl

theorem judgeProfileEnd (s : State) : BrakesKept s (judgeProfileEnd s).2 := by
  unfold Machine.judgeProfileEnd
  repeat' split
  · exact refl s
  · exact refl s
  · exact finishLoad s

theorem judgeSave (s : State) : BrakesKept s (judgeSave s).2 := by
  unfold Machine.judgeSave
  repeat' split
  all_goals exact of_read rfl rfl

theorem judgeReadRestriction (slot : Byte) (s : State) : BrakesKept s (judgeReadRestriction slot s).2 := by
  unfold Machine.judgeReadRestriction
  split <;> exact refl s

theorem judgeFindRestriction (origin : Byte) (id : Half) (s : State) :
    BrakesKept s (judgeFindRestriction origin id s).2 := by
  unfold Machine.judgeFindRestriction
  repeat' split
  all_goals exact refl s

theorem judgeLookupLimit (position : Nat) (direction : Byte) (s : State) :
    BrakesKept s (judgeLookupLimit position direction s).2 := by
  unfold Machine.judgeLookupLimit
  split <;> exact refl s

theorem judgeReadNotice (s : State) : BrakesKept s (judgeReadNotice s).2 := by
  unfold Machine.judgeReadNotice
  split <;> exact of_read rfl rfl

theorem judgeReadTestResult (s : State) : BrakesKept s (judgeReadTestResult s).2 := by
  unfold Machine.judgeReadTestResult
  dsimp only
  split <;> exact refl s

theorem judgeReadParameter (n : Nat) (s : State) : BrakesKept s (judgeReadParameter n s).2 := by
  unfold Machine.judgeReadParameter
  split <;> exact refl s

/-! ### The commands that are no request -/

/-- LINE_RESET, ignored, refused or begun (R13). -/
theorem lineResetTaken (s : State) : BrakesKept s (quietSdo (if s.resetting then s
    else if s.loading then place 0x26 s.hlp.slot.isUnread (refuse .refusedBusy) s
    else if !s.standing then place 0x26 s.hlp.slot.isUnread (refuse .refusedMotion) s
    else Machine.beginReset s)) := by
  have hplaced : ∀ r, BrakesKept s (place 0x26 s.hlp.slot.isUnread r s) := fun _ => of_read rfl rfl
  have hquiet : ∀ t, BrakesKept t (quietSdo t) := fun t => of_read rfl rfl
  exact (ite _ (refl s) (ite _ (hplaced _) (ite _ (hplaced _) (beginReset s)))).trans (hquiet _)

theorem execStandstillExpiry (s : State) : ∃ t, execStandstillExpiry s = .next t ∧ BrakesKept s t := by
  by_cases h : s.odo.standstillTimer = none
  · exact ⟨s, execStandstillExpiry_idle h, refl s⟩
  · exact ⟨_, execStandstillExpiry_running h, standstillTaken s⟩

theorem execFeedbackChange (f : Feedback) (s : State) : ∃ t, execFeedbackChange f s = .next t ∧ BrakesKept s t := by
  have hstored := ((storeFeedback f s).trans (superviseFeedback (feedbackChannel f) _)).trans
    (confirmHolding (feedbackChannel f) _)
  have htested := hstored.trans (testFeedback (feedbackChannel f) _)
  exact ⟨_, rfl, ite _ htested (htested.trans (judgeRelease _))⟩

theorem execCheckTimerExpiry (c : Channel) (s : State) : ∃ t, execCheckTimerExpiry c s = .next t ∧ BrakesKept s t := by
  refine ⟨_, rfl, ?_⟩
  split
  · exact ite _ ((checkFailure c s).trans (judgeRelease _)) (checkFailure c s)
  · exact refl s

theorem execStepTimerExpiry (s : State) : ∃ t, execStepTimerExpiry s = .next t ∧ BrakesKept s t := by
  refine ⟨_, rfl, ?_⟩
  split
  · exact refl s
  · exact finishStep _ _ s

theorem execPulseCount (pair : Pair) (way : Way) (s : State) :
    ∃ t, execPulseCount pair way s = .next t ∧ BrakesKept s t :=
  ⟨_, rfl, ite _ (countSteps pair way s) ((countSteps pair way s).trans (judgeRelease _))⟩

theorem execIllegalStep (pair : Pair) (s : State) : ∃ t, execIllegalStep pair s = .next t ∧ BrakesKept s t :=
  ⟨_, rfl, by cases pair <;> exact of_read rfl rfl⟩

/-- The loop's state is no source of the brakes; its opening is a cause (R125). -/
theorem execLoopChange (closed : Bool) (s : State) : ∃ t, execLoopChange closed s = .next t ∧ BrakesKept s t := by
  have hloop : BrakesKept s { s with brc.loopClosed := closed } := of_read rfl rfl
  exact ⟨_, rfl, hloop.trans (addLatchIf _ _ _)⟩

/-- What VRL holds when an operation begins does not matter to the brakes. -/
theorem after_radio {v : RadioLink} {s t : State} (h : BrakesKept { s with vrl := v } t) : BrakesKept s t := by
  have hradio : BrakesKept s { s with vrl := v } := of_read rfl rfl
  exact hradio.trans h

end BrakesKept

/-! ### Power-on (R14, R129) -/

/-- SSV's demand and the door-hold level lie in 0 … 1000 by their ranges (R11). -/
theorem level_of_inRange {n v : Nat} (hn : n = 13 ∨ n = 23) (h : valueInRange n v = true) : v ≤ 1000 := by
  rcases hn with rfl | rfl
  · have hrange : 200 ≤ v ∧ v ≤ 1000 := by simpa [valueInRange, paramRange] using h
    exact hrange.2
  · have hrange : 100 ≤ v ∧ v ≤ 1000 := by simpa [valueInRange, paramRange] using h
    exact hrange.2

/-- The part starts with POWER_ON in the latch, no test, and every demand and output that goes with it (R129). -/
theorem brakesLaw_startValues (pins : PowerOnPins) (waiting : List Instr) : BrakesLaw (startValues pins waiting) := by
  have hlevel : doorHoldLevel (strapParams (strapSelection pins)) ≤ 1000 :=
    level_of_inRange (.inr rfl) (valueInRange_strapParams (strapSelection_lt pins) (by decide) (by decide))
  have hlatch : (startValues pins waiting).brc.latch.any = true := LatchSet.any_of_has (c := .powerOn) rfl
  have hpermit : permitCondition (startValues pins waiting) = false := rfl
  refine ⟨⟨?_, ?_, hpermit.symm, ?_, rfl, ?_⟩, fun _ => rfl, Nat.zero_le _, Nat.zero_le _⟩
  · simp only [formedDemands, hlatch]
    rfl
  · simp only [formedHolding, hlatch, hpermit]
    simp [startValues, startBrakes, State.standing, startPosition]
  · simp only [startValues, startBrakes, largestDemand]
    split <;> simp [hlevel]
  · simp only [formedDumpValve, hlatch]
    rfl

theorem brakesLaw_start (pins : PowerOnPins) (waiting : List Instr) : BrakesLaw (start pins waiting) := by
  have hreport : BrakesKept (firstAlarms (startValues pins waiting)) (start pins waiting) := .of_blocks (by simp [start])
  exact ((BrakesKept.of_doors (DoorMove.firstAlarms _)).trans hreport).law (brakesLaw_startValues pins waiting)

end Sys2Proof.Machine
end

section
/-! Chapter 7, continued: every command and every step keeps the law of the brakes (R112, R117, R119, R122, R132, R138), and what
the law says of a set latch (R124). -/

namespace Sys2Proof.Machine

namespace BrakesKept

/-! ### Every command -/

/-- Power-on meets the law whatever the part held (R129). -/
theorem powerOn (s : State) (pins : PowerOnPins) (waiting : List Instr) : BrakesKept s (start pins waiting) :=
  ⟨fun _ => (brakesLaw_start pins waiting).1, fun _ => (brakesLaw_start pins waiting).2⟩

/-- Every command but the octets of an unjudged transaction; SSV's demand is a level where the parameters are in range. -/
theorem exec_of_direct (c : Instr) {s : State} (hlevel : interventionDemand s.cmc.params ≤ 1000)
    (hjudged : ∀ octets, c ≠ .hostFrameRejected octets) : ∃ t, exec c s = .next t ∧ BrakesKept s t :=
  match c with
  | .powerOn pins => ⟨_, rfl, powerOn s pins s.pending⟩
  | .settingsLoadEnd image => ⟨_, rfl, ite _ (endStartUpLoad image s) (refl s)⟩
  | .saveEnd _ _ => ⟨_, rfl, ite _ (of_read rfl rfl) (refl s)⟩
  | .hostFrameRejected octets => absurd rfl (hjudged octets)
  | .readResponse => ⟨_, rfl, of_read rfl rfl⟩
  | .readAttention => ⟨_, rfl, request _ (of_read rfl rfl)⟩
  | .setAttentionMask _ => ⟨_, rfl, request _ (of_read rfl rfl)⟩
  | .readStatus => ⟨_, rfl, request _ (refl s)⟩
  | .readPosition => ⟨_, rfl, request _ (refl s)⟩
  | .readRestriction slot => ⟨_, rfl, request _ (judgeReadRestriction slot s)⟩
  | .findRestriction origin id => ⟨_, rfl, request _ (judgeFindRestriction origin id s)⟩
  | .lookupLimit position direction => ⟨_, rfl, request _ (judgeLookupLimit position.toNat direction s)⟩
  | .readDoors => ⟨_, rfl, request _ (refl s)⟩
  | .readNotice => ⟨_, rfl, request _ (judgeReadNotice s)⟩
  | .readTestResult => ⟨_, rfl, request _ (judgeReadTestResult s)⟩
  | .readRadio => ⟨_, rfl, request _ (refl s)⟩
  | .readParameter number => ⟨_, rfl, request _ (judgeReadParameter number.toNat s)⟩
  | .setMode code => ⟨_, rfl, request _ (judgeSetMode code s)⟩
  | .setDirection direction => ⟨_, rfl, request _ (judgeSetDirection direction s)⟩
  | .setParameter number value => ⟨_, rfl, request _ (judgeSetParameter number.toNat value.toNat s)⟩
  | .setPosition position uncertainty => ⟨_, rfl, request _ (judgeSetPosition position.toNat uncertainty.toNat s)⟩
  | .lineReset => ⟨_, rfl, lineResetTaken s⟩
  | .odoLineReset => takePart _ _ ((setStatus _ _ s).trans (judgeRelease _))
  | .rtbLineReset => takePart _ _ (of_blocks (by simp))
  | .ssvLineReset => takePart _ _ (endSupervision s)
  | .brcLineReset => takePart _ _ (resetBrakes s)
  | .drcLineReset => takePart _ _ (doorEvent DoorMove.resetDoors s)
  | .vrlLineReset => takePart _ _ (of_blocks (by simp))
  | .addRestriction q => ⟨_, rfl, request _ (judgeAdd q s)⟩
  | .amendRestriction q => ⟨_, rfl, request _ (judgeAmend q s)⟩
  | .revokeRestriction origin id => ⟨_, rfl, request _ (judgeRevoke origin id s)⟩
  | .ackIntervention => ⟨_, rfl, request _ (takeAcknowledgement s)⟩
  | .resetEmergency => ⟨_, rfl, request _ (judgeResetEmergency s)⟩
  | .triggerEmergency => ⟨_, rfl, request _ (addLatchCause _ s)⟩
  | .driverBrake level => ⟨_, rfl, request _ (judgeDriverBrake level s)⟩
  | .holdRequest value => ⟨_, rfl, request _ (judgeHoldRequest value s)⟩
  | .doorCommandRelease side => ⟨_, rfl, request _ (judgeRelease148 side s)⟩
  | .doorCommandWithdraw _ => ⟨_, rfl, request _ (judgeWithdraw s)⟩
  | .openSide side => ⟨_, rfl, request _ (judgeOpenSide side s)⟩
  | .closeSide side => ⟨_, rfl, request _ (judgeCloseSide side s)⟩
  | .forceClose drive => ⟨_, rfl, request _ (judgeForceClose drive s)⟩
  | .isolate drive => ⟨_, rfl, request _ (judgeIsolate drive s)⟩
  | .restore drive => ⟨_, rfl, request _ (judgeRestore drive s)⟩
  | .unknownDoorCommand _ _ => ⟨_, rfl, request _ (refl s)⟩
  | .startBrakeTest => ⟨_, rfl, request _ (judgeStartTest s)⟩
  | .abortBrakeTest => ⟨_, rfl, request _ (abortTest _ s)⟩
  | .profileBegin count length => ⟨_, rfl, request _ (judgeProfileBegin count.toNat length.toNat s)⟩
  | .profileSegment index segment => ⟨_, rfl, request _ (judgeProfileSegment index.toNat segment s)⟩
  | .profileEnd => ⟨_, rfl, request _ (judgeProfileEnd s)⟩
  | .saveSettings => ⟨_, rfl, request _ (judgeSave s)⟩
  | .clearRadioErrors => ⟨_, rfl, request _ (of_read rfl rfl)⟩
  | .pulseCount pair way => execPulseCount pair way s
  | .illegalStep pair => execIllegalStep pair s
  | .speedUpdate rtbFirst => ⟨_, exec_speedUpdate rtbFirst s, takeUpdate rtbFirst hlevel⟩
  | .standstillExpiry => execStandstillExpiry s
  | .secondTick => ⟨_, rfl, of_blocks (by simp)⟩
  | .restrictionExpiry _ => ⟨_, rfl, of_blocks (by simp)⟩
  | .loopChange closed => execLoopChange closed s
  | .feedbackChange feedback => execFeedbackChange feedback s
  | .checkTimerExpiry channel => execCheckTimerExpiry channel s
  | .stepTimerExpiry => execStepTimerExpiry s
  | .openSwitch d _ => ⟨_, rfl, lineEvent d _ (fun l s => .ite _ (.openSwitchMade d l s) (.refl s)) s⟩
  | .closedSwitch d made => ⟨_, rfl, lineEvent d _ (.closedSwitchChanged d made) s⟩
  | .lockSwitch d confirms => ⟨_, rfl, lineEvent d _ (.lockSwitchChanged d confirms) s⟩
  | .obstruction d _ _ => ⟨_, rfl, lineEvent d _ (fun _ s => .ite _ (.obstruct d s) (.refl s)) s⟩
  | .overcurrent d _ => ⟨_, rfl, lineEvent d _ (fun _ s => .ite _ (.isolateLeaf d _ s) (.refl s)) s⟩
  | .doorButton d _ => ⟨_, rfl, lineEvent d _ (fun l s => .ite _ (.pressButton d l s) (.refl s)) s⟩
  | .openTimeout d => ⟨_, rfl, timerEvent d (fun _ s => .ite _ (.isolateLeaf d _ s) (.refl s)) s⟩
  | .travelLimit d => ⟨_, rfl, timerEvent d (fun _ s => .ite _ (.isolateLeaf d _ s) (.refl s)) s⟩
  | .lockTimeout d => ⟨_, rfl, timerEvent d (fun _ s => .ite _ (.isolateLeaf d _ s) (.refl s)) s⟩
  | .autoCloseDwell d => ⟨_, rfl, timerEvent d (fun _ s => .ite _ (.closeWithGang d s) (.refl s)) s⟩
  | .reverseTime d => ⟨_, rfl, timerEvent d (fun _ s => .endDrive d s) s⟩
  | .reopenDwell d => ⟨_, rfl, timerEvent d (fun _ s => .ite _ (.startClosing _ _ s) (.refl s)) s⟩
  | .holdRetryInterval d => ⟨_, rfl, timerEvent d (fun _ s => .ite _ (.leaveHeld d _ s) (.refl s)) s⟩
  | .framing => ⟨_, rfl, ite _ (refl s) (of_blocks (by simp))⟩
  | .check => ⟨_, rfl, ite _ (refl s) (of_blocks (by simp))⟩
  | .frameDropped f => ⟨_, rfl, ite _ (refl s) (after_radio (judgeFrame f.what _))⟩
  | .beacon header f _ => ⟨_, rfl, ite _ (refl s) (after_radio (telegramArrives header (.beacon f) false _))⟩
  | .restrict header _ listFirst => ⟨_, rfl, telegramArrives header _ listFirst s⟩
  | .revoke header _ _ => ⟨_, rfl, telegramArrives header _ false s⟩
  | .syncDone header _ => ⟨_, rfl, telegramArrives header _ false s⟩
  | .doorRelease header _ _ => ⟨_, rfl, telegramArrives header _ false s⟩
  | .doorWithdraw header _ => ⟨_, rfl, telegramArrives header _ false s⟩
  | .poll header => ⟨_, rfl, telegramArrives header _ false s⟩
  | .notice header _ _ => ⟨_, rfl, telegramArrives header _ false s⟩
  | .ack header _ => ⟨_, rfl, telegramArrives header _ false s⟩
  | .silenceExpiry => ⟨_, rfl, ite _ (of_blocks (by simp)) (refl s)⟩
  | .windowStart _ => ⟨_, rfl, ite _ (of_blocks (by simp)) (refl s)⟩
  | .transmissionEnd => ⟨_, rfl, ite _ (of_read rfl rfl) (refl s)⟩
  | .receivedBit bit => ⟨_, rfl, ite _ (refl s) (after_radio (takeBit bit.what _))⟩

theorem exec (c : Instr) {s : State} (hlevel : interventionDemand s.cmc.params ≤ 1000) :
    ∃ t, exec c s = .next t ∧ BrakesKept s t := by
  by_cases hjudged : ∀ octets, c ≠ .hostFrameRejected octets
  · exact exec_of_direct c hlevel hjudged
  · push Not at hjudged
    obtain ⟨octets, rfl⟩ := hjudged
    change ∃ t, execHostFrameRejected octets s = .next t ∧ BrakesKept s t
    unfold execHostFrameRejected
    split
    · exact ⟨_, rfl, of_read rfl rfl⟩
    · exact ⟨_, rfl, request _ (refl s)⟩
    · rename_i c _
      rcases takeRequest_cases c s with hnothing | ⟨hsame, hdirect⟩
      · exact ⟨s, hnothing, refl s⟩
      · rw [hsame]
        exact exec_of_direct c hlevel hdirect

/-- The passing of a millisecond moves a test's timer and no step of it (R134). -/
theorem tick (s : State) : BrakesKept s (tick s) :=
  of_read (by simp [brakesRead, Machine.tick, Function.comp_def]) rfl

end BrakesKept

/-! ### A set latch (R124) -/

theorem ParamsLaw.levels {s : State} (h : ParamsLaw s) :
    interventionDemand s.cmc.params ≤ 1000 ∧ doorHoldLevel s.cmc.params ≤ 1000 :=
  ⟨level_of_inRange (.inl rfl) (h.1 13 (by decide) (by decide)),
    level_of_inRange (.inr rfl) (h.1 23 (by decide) (by decide))⟩

/-- With the latch set no demand is above the EMERGENCY demand (R117). -/
theorem largestDemand_of_latch {s : State} (hparams : ParamsLaw s) (h : BrakesLaw s) (hset : s.brc.latch.any = true) :
    largestDemand s.brc.demands = 1000 := by
  obtain ⟨⟨hdemands, -⟩, htest, hdriver, hintervention⟩ := h
  have hpresent : ∀ (p : Prop) [Decidable p] (x : Nat), x ≤ 1000 → (if p then some x else none).getD 0 ≤ 1000 := by
    intro p _ x hx
    split
    · exact hx
    · exact Nat.zero_le _
  rw [hdemands]
  simp [largestDemand, formedDemands, hset, htest hset, hintervention, hpresent _ _ hdriver,
    hpresent _ _ hparams.levels.2]

theorem BrakesLaw.latchLaw {s : State} (hparams : ParamsLaw s) (h : BrakesLaw s) : LatchLaw s := by
  intro hset
  have hlargest := largestDemand_of_latch hparams h hset
  obtain ⟨⟨-, -, hpermit, hsetpoint, hrelease, hdump⟩, htest, -⟩ := h
  refine ⟨?_, hsetpoint.trans hlargest, ?_, ?_⟩
  · rw [hdump, formedDumpValve, htest hset, hset]
    rfl
  · rw [hpermit, permitCondition, hset]
    simp
  · rw [hrelease, formedReleaseValve, htest hset]
    simp [HoldingDemands.any, formedHolding, hset]

/-- Settles O60: every operation that moves a source has the brakes evaluated again, and every other leaves sources and
brakes alone; a set latch leaves DUMP, permit and HRLS off and the EMERGENCY demand the largest. -/
theorem everyStepKeepsBrakesLaw : Obligations.EveryStepKeepsBrakesLaw := by
  refine ⟨fun s t hparams h hstep => ?_, fun s hparams h => ⟨h.latchLaw hparams, h.1.2.2.1⟩⟩
  rcases step_cases s with ⟨c, rest, hexec⟩ | htick
  · obtain ⟨u, hu, hkept⟩ := BrakesKept.exec c (s := { s with pending := rest }) hparams.levels.1
    rw [hexec, hu] at hstep
    cases hstep
    exact hkept.law h
  · rw [htick] at hstep
    cases hstep
    exact (BrakesKept.tick s).law h

end Sys2Proof.Machine
end

section
/-! Chapter 7, continued: DRIVER_BRAKE and HOLD_REQUEST (R117 to R119, R121, R122). -/

namespace Sys2Proof.Machine

/-- A request whose owner refuses it under its first condition, and goes on to the next check otherwise (R194, R196). -/
theorem request_unless {s : State} (hr : s.resetting = false) (q : Byte) {owner : State → Reply × State} {p : Prop}
    [Decidable p] {r : Reply} {rest : Reply × State} {Q : Prop} (ho : owner s = if p then (r, s) else rest)
    (hrest : ¬p → owner s = rest → Q) : if p then request q owner s = answered s q r else Q := by
  split
  · rename_i h
    exact request_answered hr q (ho.trans (if_pos h))
  · rename_i h
    exact hrest h (ho.trans (if_neg h))

/-- The driver's level and the host hold request as the host sets them (R118, R121). -/
def withRequests (level : Nat) (h : HoldRequest) (s : State) : State :=
  { s with brc.driverLevel := level, brc.hostHold := h }

@[simp] theorem withRequests_channel (level : Nat) (h : HoldRequest) (s : State) (c : Channel) :
    (withRequests level h s).brc.channel c = s.brc.channel c := by
  cases c <;> rfl

/-- A request that sets one of them is answered, and the brakes are settled with it; latch, test, INTERVENTION demand, healths
and every other block stay (R118, R121). -/
theorem request_withRequests {s : State} (hr : s.resetting = false) (q : Byte) {owner : State → Reply × State} {r : Reply}
    {level : Nat} {h : HoldRequest} (ho : owner s = (r, settle (withRequests level h s))) :
    let t := request q owner s
    BrakesSettled t ∧ t.brc = (settle (withRequests level h s)).brc ∧ t.hlp.slot = answer s q r ∧
    t.brc.latch = s.brc.latch ∧ t.brc.test = s.brc.test ∧ t.brc.demands.intervention = s.brc.demands.intervention ∧
    (∀ c, (t.brc.channel c).health = (s.brc.channel c).health) ∧ t.cmc = s.cmc ∧ t.odo = s.odo ∧ t.lps = s.lps ∧
    t.rtb = s.rtb ∧ t.ssv = s.ssv ∧ t.drc = s.drc ∧ t.vrl = s.vrl ∧ t.hlp.attention = s.hlp.attention ∧
    t.sld = s.sld ∧ t.pending = s.pending := by
  have hslot := request_slot_of hr q ho
  have heq : request q owner s = quietSdo (place q s.hlp.slot.isUnread r (settle (withRequests level h s))) := by
    rw [request_eq q owner s hr, ho]
  dsimp only
  refine ⟨?_, by rw [heq]; simp, hslot, ?_⟩
  · rw [heq]
    exact (settle_settled (withRequests level h s)).congr (by simp) (by simp) (by simp) (by simp)
  · rw [heq]
    have hhealth : ∀ c, ((settle (withRequests level h s)).brc.channel c).health = (s.brc.channel c).health := fun c => by
      rw [settle_health, withRequests_channel]
    refine ⟨?_, ?_, ?_, hhealth, ?_⟩
    all_goals simp [withRequests]

/-- The driver's demand is present above level 0 (R117, R118). -/
theorem settle_withRequests_driver (level : Nat) (h : HoldRequest) (s : State) :
    (settle (withRequests level h s)).brc.demands.driver = if level = 0 then none else some level := by
  rw [(settle_brc _).2.2.2.1]
  simp only [formedDemands, withRequests]
  by_cases hlevel : level = 0 <;> simp [hlevel, Nat.pos_iff_ne_zero]

/-- The HOST holding demand is present while the host requests APPLY (R119, R121). -/
theorem settle_withRequests_host (level : Nat) (h : HoldRequest) (s : State) :
    (settle (withRequests level h s)).brc.hold.host = (h == .apply) := by
  rw [(settle_brc _).2.2.2.2.1]
  rfl

/-- The driver's level is refused while a test runs (R118). -/
theorem judgeDriverBrake_eq (level : Half) (s : State) :
    judgeDriverBrake level s =
      if s.brc.test ≠ none then (refuse .refusedBusy, s)
      else
        ({ code := if level.toNat ≤ 1000 then .done else .doneClamped,
           body := octets2 (settle (withRequests (min level.toNat 1000) s.brc.hostHold s)).brc.setpoint },
          settle (withRequests (min level.toNat 1000) s.brc.hostHold s)) := by
  have hcode : (if decide (1000 < level.toNat) = true then ResponseCode.doneClamped else .done) =
      if level.toNat ≤ 1000 then .done else .doneClamped := by
    simp only [decide_eq_true_eq, ← Nat.not_le, ite_not]
  simp only [judgeDriverBrake, doneOrClamped, hcode, ← testing_iff]
  rfl

/-- The host's hold request by its checks in turn (R121). -/
theorem judgeHoldRequest_eq (value : Byte) (s : State) :
    judgeHoldRequest value s =
      if value ≠ 1 ∧ value ≠ 2 then (refuse .refusedRange, s)
      else if s.brc.test ≠ none then (refuse .refusedBusy, s)
      else if value = 2 ∧ s.brc.latch.any = true then (refuseDetail 0x07, s)
      else
        ({ code := .done },
          settle (withRequests s.brc.driverLevel (if value = 1 then .apply else .release) s)) := by
  by_cases h1 : value = 1
  · subst h1
    simp [judgeHoldRequest, HoldRequest.ofCode, testing_iff, refused, withRequests]
  · by_cases h2 : value = 2
    · subst h2
      simp [judgeHoldRequest, HoldRequest.ofCode, testing_iff, refused, withRequests, latchSet]
    · have hcode : HoldRequest.ofCode value = none := by rw [HoldRequest.ofCode, if_neg h1, if_neg h2]
      rw [judgeHoldRequest, hcode, if_pos ⟨h1, h2⟩]
      rfl

/-- Settles O29: each refusal is an answer alone, and an accepted request is one evaluation of the brakes with its value. -/
theorem driverBrakeAndHoldRequest : Obligations.DriverBrakeAndHoldRequest := by
  intro s level value hr
  refine ⟨⟨_, rfl, request_unless hr 0x19 (judgeDriverBrake_eq level s) fun _ howner => ?_⟩, ⟨_, rfl, ?_⟩⟩
  · obtain ⟨hsettled, hbrc, hslot, hkeeps⟩ := request_withRequests hr 0x19 howner
    refine ⟨?_, ?_, hsettled.2.2.2.1, ?_, ?_, hkeeps⟩
    · rw [hbrc]
      simp [withRequests]
    · rw [hbrc, settle_withRequests_driver]
      simp [← BitVec.toNat_inj]
    · rw [hbrc]
      simp [withRequests]
    · rw [hslot, hbrc]
  · refine request_unless hr 0x1A (judgeHoldRequest_eq value s) fun _ howner => ?_
    refine request_unless hr 0x1A howner fun _ howner => ?_
    refine request_unless hr 0x1A howner fun _ howner => ?_
    obtain ⟨hsettled, hbrc, hslot, hkeeps⟩ := request_withRequests hr 0x1A howner
    refine ⟨?_, ?_, hsettled.2.2.1, ?_, hslot, hkeeps⟩
    · rw [hbrc]
      simp [withRequests]
    · rw [hbrc, settle_withRequests_host]
      by_cases h1 : value = 1
      · rw [if_pos h1, decide_eq_true h1]
        rfl
      · rw [if_neg h1, decide_eq_false h1]
        rfl
    · rw [hbrc]
      simp [withRequests]

end Sys2Proof.Machine
end

section
/-! SUPPORT. Signals that outlast the event that gives them: an attention cause up until the host reads it, and an alarm in the
uplink queue that no window has tried yet (R177, R198). -/

namespace Sys2Proof.Machine

/-- An alarm is queued with no attempt made (R177). -/
def alarmFresh (s : State) : Prop := ∃ e ∈ s.vrl.queue, e.kind = .alarm ∧ e.attempts = 0

/-- From `s` to `t` no attention cause goes down, and an alarm with no attempt stays in the queue. -/
structure SignalsKept (s t : State) : Prop where
  attention : ∀ a, s.hlp.attention.has a = true → t.hlp.attention.has a = true
  alarm : alarmFresh s → alarmFresh t

/-- An alarm that is handed to VRL stands in the queue with the next uplink sequence and no attempt (R177). -/
theorem handAlarm_fresh (c : AlarmCause) (s : State) :
    ∃ e ∈ (handAlarm c s).vrl.queue, e.kind = .alarm ∧ e.attempts = 0 ∧ e.sequence = s.vrl.uplinkCounter + 1 := by
  have hplace : ∀ (e : UplinkEntry) q, e ∈ placeAlarm e q := by
    intro e q
    unfold placeAlarm
    split
    · simp
    · split <;> simp
  unfold handAlarm
  split
  · rename_i h
    obtain ⟨e, he, hkind⟩ := queuedKind_iff.1 h
    exact ⟨_, List.mem_map_of_mem he, by simp [refreshEntry, hkind]⟩
  · exact ⟨_, hplace _ _, rfl, rfl, rfl⟩

namespace SignalsKept

theorem refl (s : State) : SignalsKept s s := ⟨fun _ => id, id⟩

theorem trans {s t u : State} (h : SignalsKept s t) (k : SignalsKept t u) : SignalsKept s u :=
  ⟨fun a ha => k.attention a (h.attention a ha), fun ha => k.alarm (h.alarm ha)⟩

theorem of_eq {s t : State} (hvrl : t.vrl = s.vrl) (hhlp : t.hlp = s.hlp) : SignalsKept s t :=
  ⟨fun a ha => by rwa [hhlp], fun ha => by rwa [alarmFresh, hvrl]⟩

theorem raise (c : Attention) (s : State) : SignalsKept s (raise c s) :=
  ⟨fun a ha => by simp [ha], id⟩

theorem handAlarm (c : AlarmCause) (s : State) : SignalsKept s (handAlarm c s) := by
  obtain ⟨-, -, -, -, -, -, -, hhlp, -⟩ := handAlarm_keeps c s
  refine ⟨fun a ha => by rwa [hhlp], fun _ => ?_⟩
  obtain ⟨e, he, hkind, hattempts, -⟩ := handAlarm_fresh c s
  exact ⟨e, he, hkind, hattempts⟩

theorem settle (s : State) : SignalsKept s (settle s) := of_eq (by simp) (by simp)

theorem abortTest (r : AbortReason) (s : State) : SignalsKept s (abortTest r s) := by
  unfold Machine.abortTest
  split
  · exact refl s
  · refine .trans ?_ (raise _ _)
    exact of_eq (by simp) (by simp)

end SignalsKept

end Sys2Proof.Machine
end

section
/-! Chapter 7, continued: the emergency latch set by TRIGGER_EMERGENCY and the loop, and emptied by RESET_EMERGENCY (R123 to
R127). -/

namespace Sys2Proof.Machine

/-! ### A new cause (R123, R124) -/

/-- Settled brakes with the latch set and no test (R117, R119, R122, R124). -/
theorem BrakesSettled.of_latch {s : State} (h : BrakesSettled s) (hset : s.brc.latch.any = true)
    (htest : s.brc.test = none) :
    s.brc.dumpValve = false ∧ s.brc.releaseValve = false ∧ s.brc.permit = false ∧ s.brc.demands.emergency = some 1000 ∧
    1000 ≤ s.brc.setpoint ∧ s.brc.hold.latch = true := by
  obtain ⟨hdemands, hhold, hpermit, hsetpoint, hrelease, hdump⟩ := h
  have hemergency : s.brc.demands.emergency = some 1000 := by rw [hdemands, formedDemands, hset]; rfl
  refine ⟨by simp [hdump, formedDumpValve, htest, hset], ?_, by simp [hpermit, permitCondition, hset], hemergency, ?_, ?_⟩
  · simp [hrelease, formedReleaseValve, htest, HoldingDemands.any, formedHolding, hset]
  · simp [hsetpoint, largestDemand, hemergency]
  · rw [hhold, formedHolding, hset]

/-- What the handing of a new cause leaves of BRC (R121, R123, R138). -/
theorem addLatchCause_brc {c : LatchCause} {s : State} (h : s.brc.latch.has c = false) :
    (addLatchCause c s).brc.test = none ∧ (addLatchCause c s).brc.hostHold = holdAfterLatch s ∧
    (∀ ch, ((addLatchCause c s).brc.channel ch).health = (s.brc.channel ch).health) ∧
    (addLatchCause c s).brc.driverLevel = s.brc.driverLevel ∧
    (addLatchCause c s).brc.loopClosed = s.brc.loopClosed := by
  unfold addLatchCause
  rw [if_neg (by simp [h])]
  refine ⟨by simp, by simp, fun ch => ?_, by simp, by simp⟩
  rw [settle_health, abortTest_health, (handAlarm_keeps _ _).2.2.2.2.2.1]
  cases ch <;> rfl

theorem addLatchCause_emergency {c : LatchCause} {s : State} (h : s.brc.latch.has c = false) :
    (addLatchCause c s).hlp.attention.emergency = true := by
  have hraised : ∀ u, (raise .emergency u).hlp.attention.has .emergency = true := fun u => by simp
  unfold addLatchCause
  rw [if_neg (by simp [h])]
  exact (((SignalsKept.handAlarm _ _).trans (.abortTest _ _)).trans (.settle _)).attention .emergency (hraised _)

/-- A cause that the latch did not hold has the effects of R123 and R124. -/
theorem addLatchCause_latched {c : LatchCause} {s : State} (h : s.brc.latch.has c = false) :
    latched c s (addLatchCause c s) := by
  have hlatch := addLatchCause_latch c s
  obtain ⟨htest, hhold, hhealth, hlevel, -⟩ := addLatchCause_brc h
  have hset : (addLatchCause c s).brc.latch.any = true := by rw [hlatch, LatchSet.any_add]
  obtain ⟨hdump, hrelease, hpermit, hemergency, hsetpoint, hholding⟩ := (addLatchCause_settled c s h).of_latch hset htest
  refine ⟨hlatch, hdump, hrelease, hpermit, hemergency, hsetpoint, hholding, htest, hhold, hhealth, hlevel,
    addLatchCause_emergency h, ?_, ?_, by simp⟩
  · rw [addLatchCause_vrl h]
    exact handAlarm_fresh _ s
  · rw [addLatchCause_vrl h, handAlarm_frame]

theorem addLatchCause_held {c : LatchCause} {s : State} (h : s.brc.latch.has c = true) : addLatchCause c s = s := if_pos h

/-- The effects of R123 and R124 are on the blocks and the attention set alone. -/
theorem latched.of_blocks {c : LatchCause} {s u t : State} (h : latched c s u)
    (hblocks : t.cmc = u.cmc ∧ t.odo = u.odo ∧ t.lps = u.lps ∧ t.rtb = u.rtb ∧ t.ssv = u.ssv ∧ t.brc = u.brc ∧
      t.drc = u.drc ∧ t.vrl = u.vrl ∧ t.sld = u.sld ∧ t.pending = u.pending)
    (hattention : t.hlp.attention = u.hlp.attention) : latched c s t := by
  obtain ⟨hcmc, hodo, hlps, hrtb, hssv, hbrc, hdrc, hvrl, hsld, hpending⟩ := hblocks
  unfold latched
  rw [hcmc, hodo, hlps, hrtb, hssv, hbrc, hdrc, hvrl, hsld, hpending, hattention]
  exact h

/-- TRIGGER_EMERGENCY (R125). -/
theorem triggerEmergency_adds {s : State} (hr : s.resetting = false) :
    ∃ t, exec .triggerEmergency s = .next t ∧ t.hlp.slot = answer s 0x18 { code := .done } ∧
      (s.brc.latch.hostRequest = true → t = { s with hlp.slot := t.hlp.slot, hlp.sdo := [] }) ∧
      (s.brc.latch.hostRequest = false → latched .hostRequest s t ∧ t.brc.loopClosed = s.brc.loopClosed) := by
  refine ⟨_, rfl, request_slot_of hr 0x18 rfl, fun hheld => ?_, fun hnew => ?_⟩
  · have howner : (({ code := .done } : Reply), addLatchCause .hostRequest s) = ({ code := .done }, s) := by
      rw [addLatchCause_held (c := .hostRequest) hheld]
    rw [request_answered (owner := fun s => ({ code := .done }, addLatchCause .hostRequest s)) hr 0x18 howner]
    rfl
  · have hblocks := request_blocks hr 0x18 fun s => ({ code := .done }, addLatchCause .hostRequest s)
    have hattention := request_attention hr 0x18 fun s => ({ code := .done }, addLatchCause .hostRequest s)
    refine ⟨(addLatchCause_latched (c := .hostRequest) hnew).of_blocks hblocks hattention, ?_⟩
    obtain ⟨-, -, -, -, -, hbrc, -⟩ := hblocks
    rw [hbrc]
    exact (addLatchCause_brc (c := .hostRequest) hnew).2.2.2.2

/-- The loop read as open (R125). -/
def loopOpened (s : State) : State := { s with brc.loopClosed := false }

theorem exec_loopOpens (s : State) :
    exec (.loopChange false) s = .next (addLatchIf s.brc.loopClosed .loopOpen (loopOpened s)) := by
  change Host.Outcome.next (addLatchIf (s.brc.loopClosed && !false) .loopOpen (loopOpened s)) = _
  rw [Bool.not_false, Bool.and_true]

/-- A loop that was open, or whose cause the latch holds, brings nothing. -/
theorem loopOpened_held {s : State} (h : s.brc.loopClosed = false ∨ s.brc.latch.loopOpen = true) :
    addLatchIf s.brc.loopClosed .loopOpen (loopOpened s) = loopOpened s := by
  rcases h with hopen | hheld
  · rw [hopen]
    rfl
  · have hsame : addLatchCause .loopOpen (loopOpened s) = loopOpened s := addLatchCause_held hheld
    rw [addLatchIf, hsame, ite_self]

/-- A closed loop that opens adds its cause. -/
theorem loopOpened_new {s : State} (hclosed : s.brc.loopClosed = true) (hnew : s.brc.latch.loopOpen = false) :
    latched .loopOpen s (addLatchIf s.brc.loopClosed .loopOpen (loopOpened s)) ∧
    (addLatchIf s.brc.loopClosed .loopOpen (loopOpened s)).brc.loopClosed = false := by
  rw [hclosed]
  exact ⟨addLatchCause_latched (s := loopOpened s) hnew,
    (addLatchCause_brc (c := .loopOpen) (s := loopOpened s) hnew).2.2.2.2⟩

theorem loopOpens_adds (s : State) :
    ∃ t, exec (.loopChange false) s = .next t ∧ t.brc.loopClosed = false ∧ t.hlp.slot = s.hlp.slot ∧
      (s.brc.loopClosed = true → s.brc.latch.loopOpen = false → latched .loopOpen s t) ∧
      (s.brc.loopClosed = false ∨ s.brc.latch.loopOpen = true → t = { s with brc.loopClosed := false }) := by
  refine ⟨_, exec_loopOpens s, ?_, (LinksKept.addLatchIf _ _ _).slot, fun hclosed hnew => (loopOpened_new hclosed hnew).1,
    loopOpened_held⟩
  by_cases hcase : s.brc.loopClosed = false ∨ s.brc.latch.loopOpen = true
  · rw [loopOpened_held hcase]
    rfl
  · rw [not_or, Bool.not_eq_false, Bool.not_eq_true] at hcase
    exact (loopOpened_new hcase.1 hcase.2).2

/-! ### RESET_EMERGENCY (R126, R127) -/

/-- The checks of R126 in turn. -/
theorem judgeResetEmergency_eq (s : State) :
    judgeResetEmergency s =
      if s.brc.latch.any = false then ({ code := .done }, s)
      else if s.odo.motion ≠ .standstill then (refuse .refusedMotion, s)
      else if s.brc.loopClosed = false then (refuseDetail 0x09, s)
      else if s.ssv.overspeed = true then (refuseDetail 0x0A, s)
      else if s.odo.watch.isMissed = true then (refuseDetail 0x0B, s)
      else ({ code := .done, body := octets2 s.brc.latch.bits.toNat }, emptyLatch s) := by
  simp only [judgeResetEmergency, Bool.not_eq_true', ← standing_iff, ne_eq, Bool.not_eq_true]
  rfl

theorem latchEmptiedAtSsv_ssv (s : State) :
    (latchEmptiedAtSsv s).ssv = { s.ssv with state := if s.ssv.state = .emergency then .normal else s.ssv.state } := by
  unfold latchEmptiedAtSsv
  split <;> rfl

/-- The latch with no cause in it (R127). -/
def latchEmptied (s : State) : State := { s with brc.latch := LatchSet.empty }

/-- The emptying of the latch is an evaluation of the brakes with an empty latch; EMERGENCY is raised and
EMERGENCY_INTERVENTION ends (R107, R127). -/
theorem emptyLatch_blocks (s : State) :
    (emptyLatch s).brc = (settle (latchEmptied s)).brc ∧
    (emptyLatch s).ssv = { s.ssv with state := if s.ssv.state = .emergency then .normal else s.ssv.state } ∧
    (emptyLatch s).hlp.attention.emergency = true := by
  have hssv : ∀ t, SignalsKept t (latchEmptiedAtSsv t) := fun t => by
    unfold latchEmptiedAtSsv
    split
    · have hnormal : SignalsKept t { t with ssv.state := .normal } := .of_eq rfl rfl
      exact hnormal.trans (.raise _ _)
    · exact .refl t
  have hraised : ∀ u, (raise .emergency u).hlp.attention.has .emergency = true := fun u => by simp
  exact ⟨by simp [emptyLatch, latchEmptied], by rw [emptyLatch, latchEmptiedAtSsv_ssv]; simp,
    (hssv _).attention .emergency (hraised _)⟩

/-- BRC once the latch is emptied: no EMERGENCY demand, no LATCH demand, and DUMP energized unless a test drives it (R127). -/
theorem settle_emptied_brc (s : State) :
    let b := (settle (latchEmptied s)).brc
    b.latch.any = false ∧ b.demands.emergency = none ∧ b.hold.latch = false ∧ (s.brc.test = none → b.dumpValve = true) ∧
    b.hostHold = s.brc.hostHold ∧ b.setpoint = largestDemand b.demands ∧ b.test = s.brc.test ∧
    b.driverLevel = s.brc.driverLevel ∧ ∀ c, (b.channel c).health = (s.brc.channel c).health := by
  obtain ⟨hsetpoint, -, hdump, hdemands, hhold, -⟩ := settle_brc (latchEmptied s)
  dsimp only
  refine ⟨by simp [latchEmptied], ?_, ?_, fun htest => ?_, by simp [latchEmptied], by rw [hsetpoint, hdemands],
    by simp [latchEmptied], by simp [latchEmptied], fun c => ?_⟩
  · rw [hdemands]
    simp [formedDemands, latchEmptied]
  · rw [hhold]
    simp [formedHolding, latchEmptied]
  · rw [hdump]
    simp [formedDumpValve, latchEmptied, htest]
  · rw [settle_health]
    cases c <;> rfl

/-- Settles O28: the causes come and go through `addLatchCause` and `emptyLatch`; every refusal is an answer alone. -/
theorem emergencyLatchSetAndReset : Obligations.EmergencyLatchSetAndReset := by
  refine ⟨fun s => ⟨triggerEmergency_adds, loopOpens_adds s, ?_⟩, fun s hr => ⟨_, rfl, ?_⟩⟩
  · change Host.Outcome.next (addLatchIf (s.brc.loopClosed && !true) .loopOpen _) = _
    rw [Bool.not_true, Bool.and_false]
    rfl
  refine request_unless hr 0x17 (judgeResetEmergency_eq s) fun _ howner => ?_
  refine request_unless hr 0x17 howner fun _ howner => ?_
  refine request_unless hr 0x17 howner fun _ howner => ?_
  refine request_unless hr 0x17 howner fun _ howner => ?_
  refine request_unless hr 0x17 howner fun _ howner => ?_
  have hslot := request_slot_of hr 0x17 howner
  have hblocks := request_blocks hr 0x17 judgeResetEmergency
  have hattention := request_attention hr 0x17 judgeResetEmergency
  rw [howner] at hblocks hattention
  obtain ⟨hcmc, hodo, hlps, hrtb, hssv, hbrc, hdrc, hvrl, hsld, hpending⟩ := hblocks
  obtain ⟨hbrc', hssv', hemergency⟩ := emptyLatch_blocks s
  obtain ⟨hlatch, hnone, hhold, hdump, hhost, hsetpoint, htest, hlevel, hhealth⟩ := settle_emptied_brc s
  rw [hcmc, hodo, hlps, hrtb, hssv, hbrc, hdrc, hvrl, hsld, hpending, hattention, hbrc']
  exact ⟨hslot, hlatch, hnone, hhold, hdump, hhost, hsetpoint, hemergency, hssv', htest, hlevel, hhealth, by simp⟩

end Sys2Proof.Machine
end

section
/-! SUPPORT. What the brakes' evaluation and an event of DRC leave of the channels and their feedback: a channel changes in its
supervision alone, and the HOLDING channel's follows HRLS (R114, R119). -/

namespace Sys2Proof.Machine

/-- From `s` to `t` no feedback value changes, nor the confirmation, and a channel in its supervision alone. -/
structure FeedbackKept (s t : State) : Prop where
  channel : ∀ c, t.brc.channel c = { s.brc.channel c with supervision := (t.brc.channel c).supervision }
  service : t.brc.servicePressure = s.brc.servicePressure
  holding : t.brc.holdingPressure = s.brc.holdingPressure
  band : t.brc.bandClosed = s.brc.bandClosed
  confirmed : t.brc.confirmed = s.brc.confirmed

namespace FeedbackKept

theorem of_brc {s t : State} (h : t.brc = s.brc) : FeedbackKept s t := by constructor <;> simp [h]

theorem refl (s : State) : FeedbackKept s s := of_brc rfl

theorem trans {s t u : State} (h : FeedbackKept s t) (k : FeedbackKept t u) : FeedbackKept s u where
  channel c := (k.channel c).trans (by rw [h.channel c])
  service := k.service.trans h.service
  holding := k.holding.trans h.holding
  band := k.band.trans h.band
  confirmed := k.confirmed.trans h.confirmed

theorem health {s t : State} (h : FeedbackKept s t) (c : Channel) :
    (t.brc.channel c).health = (s.brc.channel c).health := by rw [h.channel c]

theorem setSupervision (c : Channel) (x : Supervision) (s : State) : FeedbackKept s (setSupervision c x s) where
  channel d := by
    by_cases hd : d = c
    · simp [Machine.setSupervision, hd]
    · simp [Machine.setSupervision, hd]
  service := by simp [Machine.setSupervision]
  holding := by simp [Machine.setSupervision]
  band := by simp [Machine.setSupervision]
  confirmed := by simp [Machine.setSupervision]

theorem outputChanged (c : Channel) (s : State) : FeedbackKept s (outputChanged c s) := by
  unfold Machine.outputChanged
  split
  · exact refl s
  · exact setSupervision c _ s

theorem driveSetpoint (v : Nat) (s : State) : FeedbackKept s (driveSetpoint v s) := by
  have hset : FeedbackKept s { s with brc.setpoint := v } := ⟨fun c => by cases c <;> rfl, rfl, rfl, rfl, rfl⟩
  unfold Machine.driveSetpoint
  split
  · exact refl s
  · exact hset.trans (outputChanged _ _)

theorem driveReleaseValve (v : Bool) (s : State) : FeedbackKept s (driveReleaseValve v s) := by
  have hset : FeedbackKept s { s with brc.releaseValve := v } := ⟨fun c => by cases c <;> rfl, rfl, rfl, rfl, rfl⟩
  unfold Machine.driveReleaseValve
  split
  · exact refl s
  · exact hset.trans (outputChanged _ _)

theorem driveDumpValve (v : Bool) (s : State) : FeedbackKept s (driveDumpValve v s) := by
  have hset : FeedbackKept s { s with brc.dumpValve := v } := ⟨fun c => by cases c <;> rfl, rfl, rfl, rfl, rfl⟩
  unfold Machine.driveDumpValve
  split
  · exact refl s
  · exact hset.trans (outputChanged _ _)

theorem formDemands (s : State) : FeedbackKept s (formDemands s) := ⟨fun c => by cases c <;> rfl, rfl, rfl, rfl, rfl⟩

theorem settle (s : State) : FeedbackKept s (settle s) :=
  (((formDemands s).trans (driveSetpoint _ _)).trans (driveReleaseValve _ _)).trans (driveDumpValve _ _)

theorem abortTest (r : AbortReason) (s : State) : FeedbackKept s (abortTest r s) := by
  have hover : ∀ result, FeedbackKept s { s with brc.test := none, brc.result := result } := fun _ =>
    ⟨fun c => by cases c <;> rfl, rfl, rfl, rfl, rfl⟩
  have hresumed : ∀ t, FeedbackKept t (resumeSupervision t) := fun t =>
    ((outputChanged .service t).trans (outputChanged .holding _)).trans (outputChanged .emergency _)
  unfold Machine.abortTest
  split
  · exact refl s
  · refine .trans ?_ (of_brc (raise_keeps .testDone _).2.2.2.2.2.1)
    exact ((hover _).trans (settle _)).trans (hresumed _)

theorem addLatchCause (c : LatchCause) (s : State) : FeedbackKept s (addLatchCause c s) := by
  have hadded : FeedbackKept s { s with brc.latch := s.brc.latch.add c, brc.hostHold := holdAfterLatch s } :=
    ⟨fun c => by cases c <;> rfl, rfl, rfl, rfl, rfl⟩
  unfold Machine.addLatchCause
  split
  · exact refl s
  · exact ((hadded.trans (of_brc (by simp))).trans (abortTest .latch _)).trans (settle _)

theorem followDoorHold (s : State) : FeedbackKept s (followDoorHold s) := by
  have hdoor : FeedbackKept s { s with drc.doorHold := !everyLeafLocked s.drc } := of_brc rfl
  unfold Machine.followDoorHold
  dsimp only
  split
  · exact refl s
  · refine .trans ?_ (settle _)
    split
    · exact hdoor.trans (abortTest _ _)
    · exact hdoor

theorem drcEvent {f : State → State} {s : State} (h : (f s).brc = s.brc) : FeedbackKept s (drcEvent f s) := by
  have hlatch : ∀ b t, FeedbackKept t (addLatchIf b .doorMotion t) := fun b t => by
    unfold addLatchIf
    split
    · exact addLatchCause _ t
    · exact refl t
  unfold Machine.drcEvent
  dsimp only
  exact (((of_brc h).trans (followDoorHold _)).trans (hlatch _ _)).trans (of_brc (flushReport_keeps _).2.2.2.2.2.1)

theorem judgeRelease (s : State) : FeedbackKept s (judgeRelease s) := drcEvent (by simp)

end FeedbackKept

/-! ### Agreement (R115) -/

theorem agrees_iff (s : State) (c : Channel) : agrees s c = true ↔ feedbackAgrees s c := by
  cases c
  case service =>
    rw [agrees, Bool.and_eq_true, decide_eq_true_iff, decide_eq_true_iff]
    rfl
  case holding =>
    unfold agrees feedbackAgrees
    cases s.brc.releaseValve
    all_goals simp only [Bool.false_eq_true, ↓reduceIte, decide_eq_true_eq, reduceCtorEq, false_implies, true_and,
      and_true, true_implies]
    all_goals rfl
  case emergency =>
    unfold agrees feedbackAgrees
    cases s.brc.dumpValve <;> simp

/-- A channel whose output changes outside a test is checked again (R114). -/
theorem outputChanged_resumed {s : State} (h : s.testing = false) (c : Channel) :
    supervisionResumed (outputChanged c s) c := by
  have hagrees : feedbackAgrees (outputChanged c s) c ↔ feedbackAgrees s c := by
    cases c <;> simp [feedbackAgrees]
  unfold supervisionResumed
  rw [hagrees, ← agrees_iff, (outputChanged_keeps c s).1]
  unfold outputChanged
  rw [if_neg (by simp [h])]
  simp +contextual [setSupervision, responseTime]

theorem outputChanged_other {c d : Channel} (h : d ≠ c) (s : State) :
    (outputChanged c s).brc.channel d = s.brc.channel d := by
  unfold outputChanged
  split
  · rfl
  · simp [setSupervision, h]

/-! ### HRLS and the HOLDING channel -/

theorem abortTest_of_none {s : State} (h : s.brc.test = none) (r : AbortReason) : abortTest r s = s := by
  unfold abortTest
  rw [h]

theorem followDoorHold_of_no_test {s : State} (h : s.brc.test = none) :
    followDoorHold s =
      if (!everyLeafLocked s.drc) = s.drc.doorHold then s
      else settle { s with drc.doorHold := !everyLeafLocked s.drc } := by
  have habort := abortTest_of_none (s := { s with drc.doorHold := !everyLeafLocked s.drc }) h .door
  unfold followDoorHold
  dsimp only
  rw [habort, ite_self]

theorem followDoorHold_no_test {s : State} (h : s.brc.test = none) : (followDoorHold s).brc.test = none := by
  rw [followDoorHold_of_no_test h]
  split <;> simp [h]

/-- From `s` to `t` the HOLDING channel's supervision stays with HRLS, and is resumed where HRLS has changed (R119). -/
structure HoldingFollows (s t : State) : Prop where
  kept : t.brc.releaseValve = s.brc.releaseValve → t.brc.holding.supervision = s.brc.holding.supervision
  resumed : t.brc.releaseValve ≠ s.brc.releaseValve → supervisionResumed t .holding

namespace HoldingFollows

theorem of_kept {s t : State} (hvalve : t.brc.releaseValve = s.brc.releaseValve)
    (hholding : t.brc.holding = s.brc.holding) : HoldingFollows s t :=
  ⟨fun _ => by rw [hholding], fun h => absurd hvalve h⟩

theorem of_brc {s t : State} (h : t.brc = s.brc) : HoldingFollows s t := of_kept (by rw [h]) (by rw [h])

theorem refl (s : State) : HoldingFollows s s := of_brc rfl

/-- HRLS that has changed on the way does not change again: a change there and back would leave a check behind. -/
theorem trans {s t u : State} (h : HoldingFollows s t) (k : HoldingFollows t u)
    (hcmc : u.cmc = t.cmc) (hfeedback : FeedbackKept t u)
    (honce : t.brc.releaseValve ≠ s.brc.releaseValve → u.brc.releaseValve = t.brc.releaseValve) :
    HoldingFollows s u := by
  by_cases hvalve : t.brc.releaseValve = s.brc.releaseValve
  · exact ⟨fun hu => (k.kept (hu.trans hvalve.symm)).trans (h.kept hvalve), fun hu => k.resumed (by rwa [hvalve])⟩
  · have hstays := honce hvalve
    refine ⟨fun hu => absurd (hstays.symm.trans hu) hvalve, fun _ => ?_⟩
    have hsupervision : (u.brc.channel .holding).supervision = (t.brc.channel .holding).supervision := k.kept hstays
    have hresumed := h.resumed hvalve
    unfold supervisionResumed feedbackAgrees at hresumed ⊢
    dsimp only at hresumed ⊢
    rwa [hsupervision, hstays, hcmc, hfeedback.holding]

theorem driveReleaseValve {s : State} (h : s.testing = false) (v : Bool) : HoldingFollows s (driveReleaseValve v s) := by
  unfold Machine.driveReleaseValve
  split
  · exact refl s
  next hv =>
    exact ⟨fun hsame => absurd (by simpa using hsame.symm) hv,
      fun _ => outputChanged_resumed (s := { s with brc.releaseValve := v }) h .holding⟩

/-- The evaluation of the brakes outside a test (R117, R119). -/
theorem settle {s : State} (h : s.brc.test = none) : HoldingFollows s (settle s) := by
  have hsetpoint : ∀ v t, (driveSetpoint v t).brc.holding = t.brc.holding := fun v t => by
    unfold driveSetpoint
    split
    · rfl
    · exact outputChanged_other (c := .service) (d := .holding) (by decide) _
  have hdump : ∀ v t, (driveDumpValve v t).brc.holding = t.brc.holding := fun v t => by
    unfold driveDumpValve
    split
    · rfl
    · exact outputChanged_other (c := .emergency) (d := .holding) (by decide) _
  have hdriven : HoldingFollows s (Machine.driveSetpoint (largestDemand (formedDemands s)) (formDemands s)) :=
    of_kept (by simp [formDemands]) (by rw [hsetpoint]; rfl)
  have htesting : (Machine.driveSetpoint (largestDemand (formedDemands s)) (formDemands s)).testing = false := by
    simp [State.testing, formDemands, h]
  have hreleased := hdriven.trans (driveReleaseValve htesting (formedReleaseValve s)) (by simp) (.driveReleaseValve _ _)
    (fun hchanged => absurd (by simp [formDemands]) hchanged)
  have hdumped : (Machine.settle s).brc.releaseValve = (Machine.driveReleaseValve (formedReleaseValve s)
      (Machine.driveSetpoint (largestDemand (formedDemands s)) (formDemands s))).brc.releaseValve := by
    simp [Machine.settle]
  exact hreleased.trans (of_kept hdumped (hdump _ _)) (by simp) (.driveDumpValve _ _) (fun _ => hdumped)

theorem followDoorHold {s : State} (h : s.brc.test = none) : HoldingFollows s (followDoorHold s) := by
  have hdoor : HoldingFollows s { s with drc.doorHold := !everyLeafLocked s.drc } := of_brc rfl
  rw [followDoorHold_of_no_test h]
  split
  · exact refl s
  · exact hdoor.trans (settle h) (by simp) (.settle _) (fun hchanged => absurd rfl hchanged)

theorem addLatchCause {s : State} (h : s.brc.test = none) (c : LatchCause) : HoldingFollows s (addLatchCause c s) := by
  unfold Machine.addLatchCause
  split
  · exact refl s
  · rw [abortTest_of_none (by simpa using h)]
    exact (of_kept (by simp) (by simp)).trans (settle (by simpa using h)) (by simp) (.settle _)
      (fun hchanged => absurd (by simp) hchanged)

end HoldingFollows

/-- A leaf that came unlocked is one that is not locked. -/
theorem not_everyLeafLocked_of_came {before after : Doors} (h : leafCameUnlocked before after = true) :
    everyLeafLocked after = false := by
  unfold leafCameUnlocked at h
  obtain ⟨d, hd, hcame⟩ := List.any_eq_true.1 h
  rw [everyLeafLocked, List.all_eq_false]
  exact ⟨d, hd, by simp_all⟩

/-- With a leaf unlocked HRLS moves to DE-ENERGIZED alone when door hold follows (R119, R160). -/
theorem followDoorHold_unlocked {s : State} (htest : s.brc.test = none) (hopen : everyLeafLocked s.drc = false)
    (hchanged : (followDoorHold s).brc.releaseValve ≠ s.brc.releaseValve) :
    (followDoorHold s).brc.releaseValve = false := by
  rw [followDoorHold_of_no_test htest] at hchanged ⊢
  split at hchanged
  · exact absurd rfl hchanged
  next hhold =>
    rw [if_neg hhold, (settle_brc _).2.1, hopen]
    simp [formedReleaseValve, htest, HoldingDemands.any, formedHolding]

/-- A cause that comes to a car with HRLS DE-ENERGIZED leaves it so (R119, R124). -/
theorem addLatchCause_releaseValve {c : LatchCause} {s : State} (h : s.brc.releaseValve = false) :
    (addLatchCause c s).brc.releaseValve = false := by
  cases hheld : s.brc.latch.has c
  case true => rwa [addLatchCause_held hheld]
  case false =>
    have hset : (addLatchCause c s).brc.latch.any = true := by rw [addLatchCause_latch, LatchSet.any_add]
    exact ((addLatchCause_settled c s hheld).of_latch hset (addLatchCause_brc hheld).1).2.1

/-- What DRC judges outside a test moves HRLS once at most (R119, R149, R160, R161). -/
theorem HoldingFollows.judgeRelease {s : State} (h : s.brc.test = none) : HoldingFollows s (judgeRelease s) := by
  have hjudged : HoldingFollows s (judge s) := of_brc (by simp)
  have hdoor : HoldingFollows s (Machine.followDoorHold (judge s)) :=
    hjudged.trans (followDoorHold (by simpa using h)) (by simp) (.followDoorHold _)
      (fun hchanged => absurd (by simp) hchanged)
  have htest : (Machine.followDoorHold (judge s)).brc.test = none := followDoorHold_no_test (by simpa using h)
  have hreport : ∀ t, HoldingFollows t (flushReport t) := fun t => of_brc (by simp)
  unfold Machine.judgeRelease drcEvent
  dsimp only
  have hflushed := flushReport_keeps (addLatchIf (!s.standing && leafCameUnlocked s.drc (judge s).drc) .doorMotion
    (Machine.followDoorHold (judge s)))
  obtain ⟨hcmc, -, -, -, -, hbrc, -⟩ := hflushed
  refine HoldingFollows.trans ?_ (hreport _) hcmc (.of_brc hbrc) (fun _ => by rw [hbrc])
  cases hcame : !s.standing && leafCameUnlocked s.drc (judge s).drc
  case false => exact hdoor
  case true =>
    have hopen : everyLeafLocked (judge s).drc = false := not_everyLeafLocked_of_came (Bool.and_eq_true_iff.1 hcame).2
    refine hdoor.trans (addLatchCause htest .doorMotion) (by simp [addLatchIf]) (.addLatchCause _ _) fun hchanged => ?_
    have hoff := followDoorHold_unlocked (by simpa using h) hopen (by simpa using hchanged)
    exact (addLatchCause_releaseValve hoff).trans hoff.symm

end Sys2Proof.Machine
end

section
/-! Chapter 7, continued: a feedback change outside a test is stored, confirmed and supervised, and a changed confirmation is
DRC's to judge (R112, R114, R115, R119, R120, R149). -/

namespace Sys2Proof.Machine

/-- The reading stored and the holding confirmation following it (R120). -/
def feedbackTaken (f : Feedback) (s : State) : State := confirmHolding (feedbackChannel f) (storeFeedback f s)

@[simp] theorem feedbackTaken_channel (f : Feedback) (s : State) (d : Channel) :
    (feedbackTaken f s).brc.channel d = s.brc.channel d := by
  cases f <;> rfl

/-- The table of R114 at a feedback change. -/
theorem superviseFeedback_table (c : Channel) (s : State) :
    match (s.brc.channel c).supervision with
    | .idle => superviseFeedback c s = s
    | .checking _ => (feedbackAgrees s c → superviseFeedback c s = setSupervision c .settled s) ∧
        (¬feedbackAgrees s c → superviseFeedback c s = s)
    | .settled => (feedbackAgrees s c → superviseFeedback c s = s) ∧
        (¬feedbackAgrees s c →
          superviseFeedback c s = setSupervision c (.checking (paramValue s.cmc.params 20)) s) := by
  rw [← agrees_iff]
  unfold superviseFeedback
  split <;> simp_all [responseTime]

/-- The supervision that the table of R114 gives. -/
theorem superviseFeedback_supervision (c : Channel) (s : State) :
    match (s.brc.channel c).supervision with
    | .idle => ((superviseFeedback c s).brc.channel c).supervision = .idle
    | .checking left => (feedbackAgrees s c → ((superviseFeedback c s).brc.channel c).supervision = .settled) ∧
        (¬feedbackAgrees s c → ((superviseFeedback c s).brc.channel c).supervision = .checking left)
    | .settled => (feedbackAgrees s c → ((superviseFeedback c s).brc.channel c).supervision = .settled) ∧
        (¬feedbackAgrees s c →
          ((superviseFeedback c s).brc.channel c).supervision = .checking (paramValue s.cmc.params 20)) := by
  have htable := superviseFeedback_table c s
  split <;> simp_all [setSupervision]

/-- Supervision of a feedback change sets a supervision or nothing. -/
theorem superviseFeedback_sets (c : Channel) (s : State) :
    superviseFeedback c s = s ∨ ∃ x, superviseFeedback c s = setSupervision c x s := by
  unfold superviseFeedback
  split
  · exact .inl rfl
  · split
    · exact .inr ⟨_, rfl⟩
    · exact .inl rfl
  · split
    · exact .inl rfl
    · exact .inr ⟨_, rfl⟩

@[simp] theorem superviseFeedback_brc (c : Channel) (s : State) :
    (superviseFeedback c s).brc.test = s.brc.test ∧
    (superviseFeedback c s).brc.releaseValve = s.brc.releaseValve := by
  rcases superviseFeedback_sets c s with h | ⟨x, h⟩
  · simp [h]
  · simp [h, setSupervision]

theorem FeedbackKept.superviseFeedback (c : Channel) (s : State) : FeedbackKept s (superviseFeedback c s) := by
  rcases superviseFeedback_sets c s with h | ⟨x, h⟩
  · rw [h]
    exact refl s
  · rw [h]
    exact setSupervision c x s

/-- The confirmation is no part of the supervision, nor the supervision of the confirmation. -/
theorem confirmHolding_superviseFeedback (c : Channel) (s : State) :
    confirmHolding c (superviseFeedback c s) = superviseFeedback c (confirmHolding c s) := by
  have hset : ∀ x, confirmHolding c (setSupervision c x s) = setSupervision c x (confirmHolding c s) := fun x => by
    cases c <;> rfl
  have hchannel : (confirmHolding c s).brc.channel c = s.brc.channel c := by cases c <;> rfl
  have hagrees : agrees (confirmHolding c s) c = agrees s c := by cases c <;> rfl
  unfold superviseFeedback
  rw [hchannel, hagrees, (confirmHolding_keeps c s).1]
  split
  · rfl
  · rw [apply_ite (confirmHolding c), hset]
  · rw [apply_ite (confirmHolding c), hset]

/-- FEEDBACK_CHANGE outside a test: DRC judges where the confirmation has changed (R114, R120, R149). -/
theorem execFeedbackChange_of_no_test {s : State} (h : s.brc.test = none) (f : Feedback) :
    exec (.feedbackChange f) s =
      .next (if (feedbackTaken f s).brc.confirmed = s.brc.confirmed then
          superviseFeedback (feedbackChannel f) (feedbackTaken f s)
        else judgeRelease (superviseFeedback (feedbackChannel f) (feedbackTaken f s))) := by
  have htaken : confirmHolding (feedbackChannel f) (superviseFeedback (feedbackChannel f) (storeFeedback f s)) =
      superviseFeedback (feedbackChannel f) (feedbackTaken f s) := confirmHolding_superviseFeedback _ _
  have hconfirmed := (FeedbackKept.superviseFeedback (feedbackChannel f) (feedbackTaken f s)).confirmed
  have htest : (superviseFeedback (feedbackChannel f) (feedbackTaken f s)).brc.test = none := by
    rw [(superviseFeedback_brc _ _).1]
    cases f <;> exact h
  change execFeedbackChange f s = _
  unfold execFeedbackChange
  dsimp only
  rw [htaken, hconfirmed, testFeedback, htest]

/-- DRC judges nothing new: its laws hold and release stays in force as it is (R149, R160, R162). -/
theorem judgeRelease_idle {s : State} (hhold : DoorHoldLaw s) (hdue : s.drc.reportDue = false)
    (hforce : releaseCondition s = s.drc.inForce) : judgeRelease s = s := by
  have hjudge : judge s = s := if_pos hforce
  have hfollow : followDoorHold s = s := if_pos hhold.symm
  have hcame : leafCameUnlocked s.drc s.drc = false := by simp [leafCameUnlocked]
  unfold judgeRelease drcEvent
  rw [hjudge]
  dsimp only
  rw [hfollow, hcame, Bool.and_false, addLatchIf, if_neg Bool.false_ne_true, flushReport, if_neg (by simp [hdue])]

theorem releaseCondition_superviseFeedback (c : Channel) (s : State) :
    releaseCondition (superviseFeedback c s) = releaseCondition s := by
  rcases superviseFeedback_sets c s with h | ⟨x, h⟩
  · rw [h]
  · rw [h]
    cases c <;> rfl

/-- What FEEDBACK_CHANGE outside a test does from the stored reading on. -/
theorem feedbackChange_supervises {s : State} (h : s.brc.test = none) (f : Feedback) :
    let c := feedbackChannel f
    let u := feedbackTaken f s
    ∃ t, exec (.feedbackChange f) s = .next t ∧ FeedbackKept u t ∧ LinksKept u t ∧
      (t.cmc = s.cmc ∧ t.odo = s.odo ∧ t.lps = s.lps ∧ t.rtb = s.rtb ∧ t.ssv = s.ssv ∧ t.sld = s.sld ∧
        t.pending = s.pending) ∧
      (u.brc.confirmed = s.brc.confirmed ∨ DoorLaw s ∧ releaseCondition u = s.drc.inForce →
        t = superviseFeedback c u) ∧
      HoldingFollows (superviseFeedback c u) t := by
  dsimp only
  have hdrc : (superviseFeedback (feedbackChannel f) (feedbackTaken f s)).drc = s.drc := by simp [feedbackTaken]
  have htest : (superviseFeedback (feedbackChannel f) (feedbackTaken f s)).brc.test = none := by
    rw [(superviseFeedback_brc _ _).1]
    cases f <;> exact h
  have hlinks : LinksKept (feedbackTaken f s) (superviseFeedback (feedbackChannel f) (feedbackTaken f s)) :=
    .of_eq (by simp) (by simp)
  refine ⟨_, execFeedbackChange_of_no_test h f, ?_⟩
  split
  · exact ⟨.superviseFeedback _ _, hlinks, by simp [feedbackTaken], fun _ => rfl, .refl _⟩
  next hchanged =>
    refine ⟨(FeedbackKept.superviseFeedback _ _).trans (.judgeRelease _), hlinks.trans (.judgeRelease _),
      by simp [feedbackTaken], ?_, .judgeRelease htest⟩
    rintro (hsame | ⟨⟨hhold, -, hdue, -⟩, hforce⟩)
    · exact absurd hsame hchanged
    · exact judgeRelease_idle (by rwa [DoorHoldLaw, hdrc]) (by rwa [hdrc])
        ((releaseCondition_superviseFeedback _ _).trans (by rwa [hdrc]))

/-- Settles O26: the table of R114 is `superviseFeedback`'s, and DRC's judgement moves HRLS once at most. -/
theorem feedbackStoredAndSupervised : Obligations.FeedbackStoredAndSupervised := by
  intro s f htest
  obtain ⟨t, hexec, hkept, hlinks, ⟨hcmc, hodo, hlps, hrtb, hssv, hsld, hpending⟩, hsame, hfollows⟩ :=
    feedbackChange_supervises htest f
  have htable := superviseFeedback_table (feedbackChannel f) (feedbackTaken f s)
  have hvalve := (superviseFeedback_brc (feedbackChannel f) (feedbackTaken f s)).2
  dsimp only
  have hslot := hlinks.slot
  have hhealth : ∀ d, (t.brc.channel d).health = (s.brc.channel d).health := fun d => by
    rw [hkept.health d, feedbackTaken_channel]
  have hsupervision := superviseFeedback_supervision (feedbackChannel f) (feedbackTaken f s)
  cases f <;> refine ⟨t, hexec, hkept.service, hkept.holding, hkept.band, hkept.confirmed, hhealth, hcmc, hodo, hlps, hrtb,
    hssv, hslot, hsld, hpending, fun hcase => by rw [hsame hcase]; exact htable, fun hchanged => ?_⟩
  case servicePressure v => exact absurd rfl hchanged
  case holdingPressure v =>
    refine ⟨fun hstays => ?_, fun hmoves => hfollows.resumed (by rwa [hvalve])⟩
    rw [hfollows.kept (hstays.trans hvalve.symm)]
    exact hsupervision
  case bandSwitch b => exact absurd rfl hchanged

end Sys2Proof.Machine
end

section
/-! SUPPORT. An event of DRC takes no attention cause down and no fresh alarm from the uplink queue (R162, R177, R198). -/

namespace Sys2Proof.Machine
namespace SignalsKept

theorem foldl {α : Type} {f : State → α → State} (h : ∀ s a, SignalsKept s (f s a)) :
    ∀ (l : List α) (s : State), SignalsKept s (l.foldl f s)
  | [], s => refl s
  | a :: l, s => (h s a).trans (foldl h l (f s a))

theorem ite {s t u : State} (p : Prop) [Decidable p] (ht : SignalsKept s t) (hu : SignalsKept s u) :
    SignalsKept s (if p then t else u) := by
  split
  · exact ht
  · exact hu

/-! ### The leaves (R150 to R157) -/

theorem isolateLeaf (d : Drive) (c : IsolationCause) (s : State) : SignalsKept s (isolateLeaf d c s) := by
  have halarm : ∀ t, SignalsKept t (isolationAlarm c t) := fun t => by
    cases c
    · exact handAlarm _ t
    · exact handAlarm _ t
    · exact refl t
  have hstate : ∀ side x k n, SignalsKept s (setMember side d false (enterState d x k n s)) := fun _ _ _ _ =>
    of_eq (by simp) (by simp)
  unfold Machine.isolateLeaf
  split
  · exact refl s
  · exact ((hstate _ _ _ _).trans (raise _ _)).trans (halarm _)

theorem enterHeld (d : Drive) (s : State) : SignalsKept s (enterHeld d s) := by
  have hraised : ∀ x k n, SignalsKept s (Machine.raise .door (enterState d x k n s)) := fun _ _ _ =>
    .trans (of_eq (by simp) (by simp)) (raise _ _)
  have hended : ∀ t, SignalsKept t (endDrive d t) := fun _ => of_eq (by simp) (by simp)
  unfold Machine.enterHeld
  split
  · exact refl s
  · exact ite _ ((hraised _ _ _).trans (hended _)) (hraised _ _ _)

theorem obstruct (d : Drive) (s : State) : SignalsKept s (obstruct d s) := by
  have hreversed : ∀ d k t, SignalsKept t (enterReversing d k t) := fun _ _ _ => of_eq (by simp) (by simp)
  have hindex : ∀ side k t, SignalsKept t (setGangIndex side k t) := fun _ _ _ => of_eq (by simp) (by simp)
  unfold Machine.obstruct
  dsimp only
  split
  · exact refl s
  · refine ite _ ?_ (ite _ (enterHeld d s) (hreversed _ _ s))
    split
    · exact refl s
    · refine ite _ (foldl (fun s d => enterHeld d s) _ s) ?_
      exact (foldl (fun s d => hreversed d _ s) _ s).trans (hindex _ _ _)

theorem closingEntry (d : Drive) (s : State) : SignalsKept s (closingEntry d s) := by
  have hlocking : SignalsKept s (enterLocking d s) := of_eq (by simp) (by simp)
  unfold Machine.closingEntry
  split
  · exact refl s
  · exact ite _ (ite _ (isolateLeaf d _ s) (ite _ hlocking (ite _ (obstruct d s) (refl s)))) (refl s)

theorem startClosing (ds : List Drive) (k : Nat) (s : State) : SignalsKept s (startClosing ds k s) :=
  (foldl (fun _ _ => of_eq (by simp) (by simp)) ds s).trans (foldl (fun s d => closingEntry d s) ds _)

theorem closeLeaves (side : Side) (ds : List Drive) (s : State) : SignalsKept s (closeLeaves side ds s) := by
  have hgang : SignalsKept s (if ds.any (gangMember s side) then setGangIndex side 1 s else s) :=
    ite _ (of_eq (by simp) (by simp)) (refl s)
  exact hgang.trans (startClosing ds 1 _)

theorem unlockSide (side : Side) (s : State) : SignalsKept s (unlockSide side s) :=
  foldl (fun s d => ite _ (isolateLeaf d _ s) (of_eq (by simp) (by simp))) _ s

/-! ### An event of DRC (R149, R160 to R162) -/

theorem judge (s : State) : SignalsKept s (judge s) := by
  have hforce : SignalsKept s { s with drc.inForce := releaseCondition s } := of_eq rfl rfl
  unfold Machine.judge
  dsimp only
  refine ite _ (refl s) ?_
  have hloss : SignalsKept s
      (match s.drc.inForce with
        | some side => closeOnLoss side { s with drc.inForce := releaseCondition s }
        | none => { s with drc.inForce := releaseCondition s }) := by
    split
    · exact hforce.trans (closeLeaves _ _ _)
    · exact hforce
  split
  · exact hloss.trans (unlockSide _ _)
  · exact hloss

theorem addLatchCause (c : LatchCause) (s : State) : SignalsKept s (addLatchCause c s) := by
  have hadded : SignalsKept s { s with brc.latch := s.brc.latch.add c, brc.hostHold := holdAfterLatch s } := of_eq rfl rfl
  exact ite _ (refl s) ((((hadded.trans (raise _ _)).trans (handAlarm _ _)).trans (abortTest _ _)).trans (settle _))

theorem followDoorHold (s : State) : SignalsKept s (followDoorHold s) := by
  have hdoor : SignalsKept s { s with drc.doorHold := !everyLeafLocked s.drc } := of_eq rfl rfl
  exact ite _ (refl s) (.trans (ite _ (hdoor.trans (abortTest _ _)) hdoor) (settle _))

/-- A DOOR_STATE joins at the tail or is refreshed in its place, and no alarm is one (R177). -/
theorem handDoorState (s : State) : SignalsKept s (handDoorState s) := by
  unfold Machine.handDoorState
  split
  · refine ⟨fun _ => id, fun ⟨e, he, hkind, hattempts⟩ => ⟨e, List.mem_map.2 ⟨e, he, ?_⟩, hkind, hattempts⟩⟩
    rw [refreshEntry, if_neg (by simp [hkind])]
  · exact ⟨fun _ => id, fun ⟨e, he, hfresh⟩ => ⟨e, List.mem_append_left _ he, hfresh⟩⟩

theorem drcEvent {f : State → State} {s : State} (h : SignalsKept s (f s)) : SignalsKept s (drcEvent f s) := by
  have hdue : ∀ t, SignalsKept t { t with drc.reportDue := false } := fun _ => of_eq rfl rfl
  have hreport : ∀ t, SignalsKept t (flushReport t) := fun t => ite _ ((hdue t).trans (handDoorState _)) (refl t)
  exact ((h.trans (followDoorHold _)).trans (ite _ (addLatchCause _ _) (refl _))).trans (hreport _)

theorem judgeRelease (s : State) : SignalsKept s (judgeRelease s) := drcEvent (judge s)

end SignalsKept

end Sys2Proof.Machine
end

section
/-! Chapter 7, continued: the expiry of a check timer (R99, R113, R116, R149). -/

namespace Sys2Proof.Machine

/-- A channel after a check failure (R113, R116). -/
def failedChannel (s : State) (c : Channel) : ChannelState :=
  { health := (s.brc.channel c).health.worse,
    supervision := .idle,
    failures := min ((s.brc.channel c).failures + 1) 255,
    lastFailure := some (failureRecord s c) }

theorem changeHealth_brc (c : Channel) (h : Health) (s : State) :
    (changeHealth c h s).brc = s.brc.setChannel c { s.brc.channel c with health := h } := by
  unfold changeHealth
  split
  next hsame =>
    subst hsame
    cases c <;> rfl
  · cases c <;> rfl

/-- A check failure is on its channel alone (R116). -/
theorem checkFailure_brc (c : Channel) (s : State) : (checkFailure c s).brc = s.brc.setChannel c (failedChannel s c) := by
  have hsettled : (faultAlarm c (s.brc.channel c).health
      (changeHealth c (s.brc.channel c).health.worse (setSupervision c .idle s))).brc =
      s.brc.setChannel c { s.brc.channel c with health := (s.brc.channel c).health.worse, supervision := .idle } := by
    rw [(faultAlarm_keeps _ _ _).2.2.2.2.2.1, changeHealth_brc]
    cases c <;> rfl
  unfold checkFailure
  dsimp only
  rw [hsettled]
  cases c <;> rfl

theorem Health.worse_faulty (h : Health) : h.worse = .degraded ∨ h.worse = .failed := by
  cases h <;> simp [Health.worse]

theorem changeHealth_raised {c : Channel} {h : Health} {s : State} (hchanged : (s.brc.channel c).health ≠ h) :
    (changeHealth c h s).hlp.attention.has .brakeHealth = true := by
  unfold changeHealth
  rw [if_neg hchanged]
  cases c <;> simp

/-- A changed health is signalled (R113, R116, R198). -/
theorem checkFailure_signals {c : Channel} {s : State} (h : (s.brc.channel c).health.worse ≠ (s.brc.channel c).health) :
    (checkFailure c s).hlp.attention.has .brakeHealth = true ∧ alarmFresh (checkFailure c s) := by
  have hraised := changeHealth_raised (c := c) (h := (s.brc.channel c).health.worse) (s := setSupervision c .idle s)
    (by simpa [setSupervision] using h.symm)
  have hnow : ((changeHealth c (s.brc.channel c).health.worse (setSupervision c .idle s)).brc.channel c).health =
      (s.brc.channel c).health.worse := by
    rw [changeHealth_brc, Brakes.channel_setChannel_self]
  have halarm : faultAlarm c (s.brc.channel c).health
      (changeHealth c (s.brc.channel c).health.worse (setSupervision c .idle s)) =
      handAlarm .brakeFault (changeHealth c (s.brc.channel c).health.worse (setSupervision c .idle s)) := by
    unfold faultAlarm
    dsimp only
    rw [hnow, if_pos ⟨h, Health.worse_faulty _⟩]
  unfold checkFailure
  dsimp only
  rw [halarm]
  refine ⟨(SignalsKept.handAlarm .brakeFault _).attention .brakeHealth hraised, ?_⟩
  obtain ⟨e, he, hkind, hattempts, -⟩ := handAlarm_fresh .brakeFault
    (changeHealth c (s.brc.channel c).health.worse (setSupervision c .idle s))
  exact ⟨e, he, hkind, hattempts⟩

/-- A changed SERVICE health brings the BRAKE blanket (R99). -/
theorem checkFailure_blankets (c : Channel) (s : State) :
    (checkFailure c s).ssv.blankets =
      if c = .service ∧ (s.brc.channel c).health.worse ≠ (s.brc.channel c).health then
        { s.ssv.blankets with brake := true }
      else s.ssv.blankets := by
  have hssv : (checkFailure c s).ssv =
      (changeHealth c (s.brc.channel c).health.worse (setSupervision c .idle s)).ssv := by
    simp [checkFailure]
  have hbefore : ((setSupervision c .idle s).brc.channel c).health = (s.brc.channel c).health := by simp [setSupervision]
  rw [hssv, changeHealth, hbefore]
  by_cases hsame : (s.brc.channel c).health = (s.brc.channel c).health.worse
  · rw [if_pos hsame, if_neg (fun h => h.2 hsame.symm), (setSupervision_keeps _ _ _).2.2.2.2.1]
  · rw [if_neg hsame]
    have hput : ((s.brc.channel c).health.worse == .degraded || (s.brc.channel c).health.worse == .failed) = true := by
      simpa using Health.worse_faulty (s.brc.channel c).health
    cases c
    case service =>
      rw [if_pos ⟨rfl, Ne.symm hsame⟩, hput]
      rfl
    case holding => simp
    case emergency => simp

/-! ### The expiry (R114, R149) -/

theorem checkTimerExpiry_idle {s : State} {c : Channel} (h : ∀ left, (s.brc.channel c).supervision ≠ .checking left) :
    exec (.checkTimerExpiry c) s = .next s := by
  change execCheckTimerExpiry c s = _
  unfold execCheckTimerExpiry
  split
  next left hleft => exact absurd hleft (h left)
  · rfl

/-- In CHECKING the failure stands as it is, unless a changed HOLDING health is DRC's to judge (R149). -/
theorem checkTimerExpiry_fails {s : State} {c : Channel} {left : Nat}
    (h : (s.brc.channel c).supervision = .checking left) :
    ∃ t, exec (.checkTimerExpiry c) s = .next t ∧ FeedbackKept (checkFailure c s) t ∧
      SignalsKept (checkFailure c s) t ∧ LinksKept (checkFailure c s) t ∧
      (t.cmc = s.cmc ∧ t.odo = s.odo ∧ t.lps = s.lps ∧ t.rtb = s.rtb ∧ t.ssv = (checkFailure c s).ssv ∧ t.sld = s.sld ∧
        t.pending = s.pending) ∧
      (c ≠ .holding → t = checkFailure c s) := by
  refine ⟨_, show execCheckTimerExpiry c s = _ by unfold execCheckTimerExpiry; rw [h], ?_⟩
  dsimp only
  split
  next hjudged =>
    exact ⟨.judgeRelease _, .judgeRelease _, .judgeRelease _, by simp, fun hother => absurd hjudged.1 hother⟩
  · exact ⟨.refl _, .refl _, .refl _, by simp, fun _ => rfl⟩

/-- What a check failure leaves of HLP's slot. -/
theorem checkFailure_slot (c : Channel) (s : State) : (checkFailure c s).hlp.slot = s.hlp.slot := by
  have hhealth : ∀ h t, (changeHealth c h t).hlp.slot = t.hlp.slot := fun h t => by
    unfold changeHealth
    split
    · rfl
    · cases c <;> simp
  simp [checkFailure, hhealth]

/-- Settles O27: the failed channel is `failedChannel`, and what DRC does afterwards keeps every channel's record. -/
theorem checkFailure_recorded : Obligations.CheckFailure := by
  refine fun s c => ⟨checkTimerExpiry_idle, fun left hleft => ?_⟩
  obtain ⟨t, hexec, hkept, hsignals, hlinks, ⟨hcmc, hodo, hlps, hrtb, hssv, hsld, hpending⟩, hother⟩ :=
    checkTimerExpiry_fails hleft
  have hfailed : (checkFailure c s).brc.channel c = failedChannel s c := by
    rw [checkFailure_brc, Brakes.channel_setChannel_self]
  have hspared : ∀ d, d ≠ c → (checkFailure c s).brc.channel d = s.brc.channel d := fun d hd => by
    rw [checkFailure_brc, Brakes.channel_setChannel_other _ _ hd]
  refine ⟨t, hexec, ?_, ?_, ?_, fun d hd => ?_, fun hc => ?_, fun hchanged => ?_, ?_, hcmc, hodo, hlps, hrtb,
    hlinks.slot.trans (checkFailure_slot c s), hsld, hpending⟩
  · rw [hkept.channel c, hfailed]
    rfl
  · rw [hkept.channel c, hfailed]
    rfl
  · rw [hkept.channel c, hfailed]
    cases c <;> rfl
  · rw [hkept.channel d, hspared d hd]
    exact ⟨rfl, rfl, rfl⟩
  · rw [hother hc, hfailed, checkFailure_brc]
    simp [failedChannel]
  · obtain ⟨hraised, halarm⟩ := checkFailure_signals hchanged
    exact ⟨hsignals.attention .brakeHealth hraised, hsignals.alarm halarm⟩
  · rw [hssv]
    exact checkFailure_blankets c s

end Sys2Proof.Machine
end

section
/-! SUPPORT. How BRC stands once a brake test is over (R114, R137, R138): the brakes evaluated, every channel supervised as after
a change of its output, and TEST_DONE raised. -/

namespace Sys2Proof.Machine

/-! ### Supervision that has resumed (R114) -/

/-- A channel's supervision after a change of its output rests on its own output and feedback. -/
theorem supervisionResumed_congr {s t : State} {c : Channel} (hcmc : t.cmc = s.cmc)
    (hsupervision : (t.brc.channel c).supervision = (s.brc.channel c).supervision)
    (hvalues : failureRecord t c = failureRecord s c) (h : supervisionResumed s c) : supervisionResumed t c := by
  have hagrees : feedbackAgrees t c ↔ feedbackAgrees s c := by
    cases c <;> simp_all [feedbackAgrees, failureRecord]
  unfold supervisionResumed at h ⊢
  rwa [hagrees, hsupervision, hcmc]

@[simp] theorem failureRecord_outputChanged (c d : Channel) (s : State) :
    failureRecord (outputChanged c s) d = failureRecord s d := by
  cases d <;> simp [failureRecord]

/-- Another check leaves a resumed supervision resumed. -/
theorem supervisionResumed.outputChanged {s : State} (htest : s.testing = false) {d : Channel}
    (h : supervisionResumed s d) (c : Channel) : supervisionResumed (outputChanged c s) d := by
  by_cases hd : d = c
  · rw [hd]
    exact outputChanged_resumed htest c
  · exact supervisionResumed_congr (by simp) (by rw [outputChanged_other hd]) (by simp) h

theorem resumeSupervision_resumed {s : State} (h : s.testing = false) (c : Channel) :
    supervisionResumed (resumeSupervision s) c := by
  have htesting : ∀ d u, u.testing = false → (outputChanged d u).testing = false := fun d u hu => by
    simpa [State.testing] using hu
  have hservice := htesting .service s h
  have hholding := htesting .holding _ hservice
  unfold resumeSupervision
  cases c
  case service => exact ((outputChanged_resumed h .service).outputChanged hservice _).outputChanged hholding _
  case holding => exact (outputChanged_resumed hservice .holding).outputChanged hholding _
  case emergency => exact outputChanged_resumed hholding .emergency

/-! ### Supervision while no test runs -/

/-- With no test running, every channel is supervised as after a change of its output, and TEST_DONE stands (R137). -/
def ResumedUnlessTesting (s : State) : Prop :=
  s.brc.test = none → (∀ c, supervisionResumed s c) ∧ s.hlp.attention.testDone = true

namespace ResumedUnlessTesting

theorem of_running {s : State} (h : s.brc.test ≠ none) : ResumedUnlessTesting s := fun hnone => absurd hnone h

theorem of_brc {s t : State} (h : ResumedUnlessTesting s) (hbrc : t.brc = s.brc) (hcmc : t.cmc = s.cmc)
    (hsignals : SignalsKept s t) : ResumedUnlessTesting t := by
  intro hnone
  obtain ⟨hresumed, hdone⟩ := h (by rwa [← hbrc])
  have hvalues : ∀ c, failureRecord t c = failureRecord s c := fun c => by cases c <;> simp [failureRecord, hbrc]
  exact ⟨fun c => supervisionResumed_congr hcmc (by rw [hbrc]) (hvalues c) (hresumed c), hsignals.attention .testDone hdone⟩

/-- An output that takes a value has its channel checked, and the other channels stay as they are. -/
theorem outputChanged {s u : State} {c : Channel} (h : ResumedUnlessTesting s) (htest : u.brc.test = s.brc.test)
    (hcmc : u.cmc = s.cmc) (hhlp : u.hlp = s.hlp)
    (hother : ∀ d, d ≠ c → u.brc.channel d = s.brc.channel d ∧ failureRecord u d = failureRecord s d) :
    ResumedUnlessTesting (outputChanged c u) := by
  intro hnone
  have hnone' : u.brc.test = none := by simpa using hnone
  obtain ⟨hresumed, hdone⟩ := h (by rwa [← htest])
  refine ⟨fun d => ?_, by simpa [hhlp] using hdone⟩
  by_cases hd : d = c
  · rw [hd]
    exact outputChanged_resumed (by simp [State.testing, hnone']) c
  · obtain ⟨hchannel, hvalues⟩ := hother d hd
    exact supervisionResumed_congr (by simp [hcmc]) (by rw [outputChanged_other hd, hchannel]) (by simp [hvalues])
      (hresumed d)

theorem driveSetpoint {s : State} (h : ResumedUnlessTesting s) (v : Nat) : ResumedUnlessTesting (driveSetpoint v s) := by
  unfold Machine.driveSetpoint
  split
  · exact h
  · exact h.outputChanged rfl rfl rfl fun d hd => by
      cases d
      case service => exact absurd rfl hd
      all_goals exact ⟨rfl, rfl⟩

theorem driveReleaseValve {s : State} (h : ResumedUnlessTesting s) (v : Bool) :
    ResumedUnlessTesting (driveReleaseValve v s) := by
  unfold Machine.driveReleaseValve
  split
  · exact h
  · exact h.outputChanged rfl rfl rfl fun d hd => by
      cases d
      case holding => exact absurd rfl hd
      all_goals exact ⟨rfl, rfl⟩

theorem driveDumpValve {s : State} (h : ResumedUnlessTesting s) (v : Bool) : ResumedUnlessTesting (driveDumpValve v s) := by
  unfold Machine.driveDumpValve
  split
  · exact h
  · exact h.outputChanged rfl rfl rfl fun d hd => by
      cases d
      case emergency => exact absurd rfl hd
      all_goals exact ⟨rfl, rfl⟩

theorem settle {s : State} (h : ResumedUnlessTesting s) : ResumedUnlessTesting (settle s) := by
  have hformed : ResumedUnlessTesting (formDemands s) := h
  exact ((hformed.driveSetpoint _).driveReleaseValve _).driveDumpValve _

theorem testOver (r : TestResult) (s : State) : ResumedUnlessTesting (testOver r s) := by
  refine fun _ => ⟨fun c => ?_, rfl⟩
  have hresumed := resumeSupervision_resumed (s := Machine.settle { s with brc.test := none, brc.result := r })
    (by simp [State.testing]) c
  cases c <;> exact hresumed

theorem abortTest {s : State} (h : ResumedUnlessTesting s) (r : AbortReason) : ResumedUnlessTesting (abortTest r s) := by
  unfold Machine.abortTest
  split
  · exact h
  · exact testOver _ s

theorem addLatchCause {s : State} (h : ResumedUnlessTesting s) (c : LatchCause) :
    ResumedUnlessTesting (addLatchCause c s) := by
  have hadded : ResumedUnlessTesting { s with brc.latch := s.brc.latch.add c, brc.hostHold := holdAfterLatch s } := h
  unfold Machine.addLatchCause
  split
  · exact h
  · exact ((hadded.of_brc (by simp) (by simp) ((SignalsKept.raise _ _).trans (.handAlarm _ _))).abortTest .latch).settle

theorem followDoorHold {s : State} (h : ResumedUnlessTesting s) : ResumedUnlessTesting (followDoorHold s) := by
  have hdoor : ResumedUnlessTesting { s with drc.doorHold := !everyLeafLocked s.drc } := h
  unfold Machine.followDoorHold
  dsimp only
  split
  · exact h
  · split
    · exact (hdoor.abortTest .door).settle
    · exact hdoor.settle

theorem judgeRelease {s : State} (h : ResumedUnlessTesting s) : ResumedUnlessTesting (judgeRelease s) := by
  have hlatch : ∀ b u, ResumedUnlessTesting u → ResumedUnlessTesting (addLatchIf b .doorMotion u) := fun b u hu => by
    unfold addLatchIf
    split
    · exact hu.addLatchCause _
    · exact hu
  have hfollowed := (h.of_brc (by simp) (by simp) (.judge s)).followDoorHold
  have hreport : ∀ u, SignalsKept u (flushReport u) := fun u => by
    have hdue : SignalsKept u { u with drc.reportDue := false } := .of_eq rfl rfl
    exact .ite _ (hdue.trans (.handDoorState _)) (.refl u)
  unfold Machine.judgeRelease drcEvent
  exact (hlatch _ _ hfollowed).of_brc (by simp) (by simp) (hreport _)

end ResumedUnlessTesting

/-! ### A test that is over (R137, R138) -/

theorem testEnded_of_settled {s : State} (hsettled : BrakesSettled s) (hresumed : ResumedUnlessTesting s)
    (hnone : s.brc.test = none) : testEnded s := by
  obtain ⟨hdemands, hhold, hpermit, hsetpoint, hrelease, hdump⟩ := hsettled
  obtain ⟨hsupervision, hdone⟩ := hresumed hnone
  refine ⟨hnone, ?_, hsetpoint, ?_, ?_, hsupervision, hpermit, hdone⟩
  · rw [hdemands, formedDemands_test, hnone]
    rfl
  · rw [hrelease, formedReleaseValve_eq, hnone, ← hhold]
    rfl
  · rw [hdump, formedDumpValve_eq, hnone]
    rfl

theorem testOver_ended (r : TestResult) (s : State) : testEnded (testOver r s) :=
  testEnded_of_settled (BrakesKept.testOver_settled r s) (.testOver r s) (by simp [testOver, resumeSupervision])

/-- The end of a test is on BRC and the attention set. -/
theorem testEnded.of_blocks {s t : State} (h : testEnded s) (hcmc : t.cmc = s.cmc) (hbrc : t.brc = s.brc)
    (hdrc : t.drc = s.drc) (hattention : t.hlp.attention = s.hlp.attention) : testEnded t := by
  have hpermit : permitCondition t = permitCondition s := by
    simp only [permitCondition, State.testing, hcmc, hbrc, hdrc]
  obtain ⟨hnone, hdemand, hsetpoint, hrelease, hdump, hsupervision, hcondition, hdone⟩ := h
  have hvalues : ∀ c, failureRecord t c = failureRecord s c := fun c => by cases c <;> simp [failureRecord, hbrc]
  unfold testEnded
  rw [hbrc, hpermit, hattention]
  exact ⟨hnone, hdemand, hsetpoint, hrelease, hdump,
    fun c => supervisionResumed_congr hcmc (by rw [hbrc]) (hvalues c) (hsupervision c), hcondition, hdone⟩

end Sys2Proof.Machine
end

section
/-! SUPPORT. The steps of the brake test (R134 to R136): their order and outcomes, and what the end of a step and the beginning of
the next one write. -/

namespace Sys2Proof.Machine

/-! ### The order of the steps (R135) -/

theorem mem_following_iff {st later : TestStep} : later ∈ st.following ↔ st.number < later.number := by
  cases st <;> cases later <;> decide

theorem following_ascending (st : TestStep) : st.following.Pairwise fun a b => a.number < b.number := by
  cases st <;> decide

/-- Each channel has one second step (R136). -/
theorem second_step_of_channel {a b : TestStep} (ha : a.firstOfPair ≠ none) (hb : b.firstOfPair ≠ none)
    (h : a.channel = b.channel) : a = b := by
  cases a <;> cases b <;> simp_all [TestStep.firstOfPair, TestStep.channel]

theorem firstOfPair_ne {st first : TestStep} (h : st.firstOfPair = some first) : first ≠ st := by
  cases st <;> simp_all [TestStep.firstOfPair] <;> simp [← h]

/-! ### Outcomes (R131, R137) -/

@[simp] theorem StepOutcomes.get_set_self (o : StepOutcomes) (st : TestStep) (x : StepOutcome) :
    (o.set st x).get st = x := by
  cases st <;> rfl

@[simp] theorem StepOutcomes.get_set_other (o : StepOutcomes) {st other : TestStep} (x : StepOutcome) (h : other ≠ st) :
    (o.set st x).get other = o.get other := by
  cases st <;> cases other <;> first | rfl | exact absurd rfl h

theorem StepOutcome.passed_iff (o : StepOutcome) : o.passed = true ↔ ∃ n, o = .pass n := by
  cases o <;> simp [StepOutcome.passed]

theorem forall_testStep {P : TestStep → Prop} : (∀ st, P st) ↔ P .s1 ∧ P .s2 ∧ P .s3 ∧ P .s4 ∧ P .s5 ∧ P .s6 :=
  ⟨fun h => ⟨h _, h _, h _, h _, h _, h _⟩, fun ⟨h1, h2, h3, h4, h5, h6⟩ st => by cases st <;> assumption⟩

/-- A test is PASSED when all six steps are, and FAILED otherwise (R137). -/
theorem overallOutcome_eq (o : StepOutcomes) [Decidable (∀ st, ∃ n, o.get st = .pass n)] :
    overallOutcome o = if ∀ st, ∃ n, o.get st = .pass n then .passed else .failed := by
  have hall : (o.s1.passed && o.s2.passed && o.s3.passed && o.s4.passed && o.s5.passed && o.s6.passed) = true ↔
      ∀ st, ∃ n, o.get st = .pass n := by
    simp only [Bool.and_eq_true, StepOutcome.passed_iff, forall_testStep, and_assoc]
    rfl
  unfold overallOutcome
  simp only [hall]

/-- A pass condition reads the values the test took at its start and the three feedbacks (R135). -/
theorem stepPasses_congr {c d : TestContext} {a b : Brakes} (htolerance : d.tolerance = c.tolerance)
    (hholding : d.holdingThreshold = c.holdingThreshold) (hrelease : d.releaseThreshold = c.releaseThreshold)
    (hservicePressure : b.servicePressure = a.servicePressure) (hholdingPressure : b.holdingPressure = a.holdingPressure)
    (hband : b.bandClosed = a.bandClosed) (st : TestStep) : stepPasses d b st = stepPasses c a st := by
  cases st <;> simp [stepPasses, *]

theorem runningStepPasses_of_some {s : State} {c : TestContext} (h : s.brc.test = some c) :
    runningStepPasses s = stepPasses c s.brc c.step := by
  rw [runningStepPasses, h]
  rfl

theorem runningStepPasses_of_none {s : State} (h : s.brc.test = none) : runningStepPasses s = false := by
  rw [runningStepPasses, h]
  rfl

/-! ### The end of a step (R134, R136) -/

/-- The outcome of a step written. -/
def withOutcome (st : TestStep) (o : StepOutcome) (s : State) : State :=
  { s with brc.result.steps := s.brc.result.steps.set st o }

theorem endStep_of_first {st : TestStep} (h : st.firstOfPair = none) (o : StepOutcome) (s : State) :
    endStep st o s = withOutcome st o s := by
  unfold endStep
  rw [h]
  rfl

/-- A channel's second step sets its health by the outcomes of both (R136). -/
theorem endStep_of_second {st first : TestStep} (h : st.firstOfPair = some first) (o : StepOutcome) (s : State) :
    endStep st o s =
      setTestHealth st.channel (if (s.brc.result.steps.get first).passed && o.passed then .ok else .failed)
        (withOutcome st o s) := by
  have hfirst := StepOutcomes.get_set_other s.brc.result.steps o (firstOfPair_ne h)
  unfold endStep
  rw [h]
  dsimp only
  rw [hfirst]
  rfl

theorem setTestHealth_brc (c : Channel) (h : Health) (s : State) :
    (setTestHealth c h s).brc = s.brc.setChannel c { s.brc.channel c with health := h } := by
  unfold setTestHealth
  rw [(faultAlarm_keeps _ _ _).2.2.2.2.2.1, changeHealth_brc]

/-- The end of a step writes its outcome, and beside it a health at most. -/
theorem endStep_brc (st : TestStep) (o : StepOutcome) (s : State) :
    (endStep st o s).brc.result = { s.brc.result with steps := s.brc.result.steps.set st o } ∧
    (endStep st o s).brc.test = s.brc.test ∧ (endStep st o s).brc.servicePressure = s.brc.servicePressure ∧
    (endStep st o s).brc.holdingPressure = s.brc.holdingPressure ∧
    (endStep st o s).brc.bandClosed = s.brc.bandClosed ∧ (endStep st o s).brc.confirmed = s.brc.confirmed := by
  cases hpair : st.firstOfPair with
  | none =>
    rw [endStep_of_first hpair]
    exact ⟨rfl, rfl, rfl, rfl, rfl, rfl⟩
  | some first =>
    rw [endStep_of_second hpair, setTestHealth_brc]
    simp [withOutcome]

theorem endStep_result (st : TestStep) (o : StepOutcome) (s : State) :
    (endStep st o s).brc.result = { s.brc.result with steps := s.brc.result.steps.set st o } := (endStep_brc st o s).1

theorem endStep_test (st : TestStep) (o : StepOutcome) (s : State) : (endStep st o s).brc.test = s.brc.test :=
  (endStep_brc st o s).2.1

theorem endStep_confirmed (st : TestStep) (o : StepOutcome) (s : State) :
    (endStep st o s).brc.confirmed = s.brc.confirmed := (endStep_brc st o s).2.2.2.2.2

theorem endStep_health {st first : TestStep} (h : st.firstOfPair = some first) (o : StepOutcome) (s : State) :
    ((endStep st o s).brc.channel st.channel).health =
      if (s.brc.result.steps.get first).passed && o.passed then .ok else .failed := by
  rw [endStep_of_second h, setTestHealth_brc, Brakes.channel_setChannel_self]

/-- A step leaves the health of every channel whose second step it is not (R136). -/
theorem endStep_health_other {st : TestStep} {c : Channel} (h : st.firstOfPair = none ∨ st.channel ≠ c) (o : StepOutcome)
    (s : State) : ((endStep st o s).brc.channel c).health = (s.brc.channel c).health := by
  have hwritten : (withOutcome st o s).brc.channel c = s.brc.channel c := by cases c <;> rfl
  cases hpair : st.firstOfPair with
  | none => rw [endStep_of_first hpair, hwritten]
  | some first =>
    have hother : c ≠ st.channel := fun hc => h.elim (by simp [hpair]) (fun hne => hne hc.symm)
    rw [endStep_of_second hpair, setTestHealth_brc, Brakes.channel_setChannel_other _ _ hother, hwritten]

@[simp] theorem endStep_drc (st : TestStep) (o : StepOutcome) (s : State) : (endStep st o s).drc = s.drc := by
  unfold endStep
  dsimp only
  split
  · rfl
  · simp [setTestHealth]

theorem LinksKept.endStep (st : TestStep) (o : StepOutcome) (s : State) : LinksKept s (endStep st o s) := by
  have hwritten : LinksKept s (withOutcome st o s) := ⟨rfl, rfl⟩
  have hchanged : ∀ c h u, LinksKept u (changeHealth c h u) := fun c h u => by
    unfold changeHealth
    split
    · exact refl u
    · cases c <;> exact ⟨rfl, rfl⟩
  have halarm : ∀ c h u, LinksKept u (faultAlarm c h u) := fun c h u => by
    unfold faultAlarm
    dsimp only
    split
    · exact handAlarm _ u
    · exact refl u
  cases hpair : st.firstOfPair with
  | none =>
    rw [endStep_of_first hpair]
    exact hwritten
  | some first =>
    rw [endStep_of_second hpair]
    exact (hwritten.trans (hchanged _ _ _)).trans (halarm _ _ _)

/-! ### The beginning of a step (R134, R135) -/

theorem beginStep_test {s : State} {c : TestContext} (h : s.brc.test = some c) (st : TestStep) :
    (beginStep st s).brc.test = some { c with step := st, left := c.stepTimeout } := by
  simp [beginStep, h]

@[simp] theorem beginStep_result (st : TestStep) (s : State) : (beginStep st s).brc.result = s.brc.result := by
  simp [beginStep]

theorem FeedbackKept.beginStep (st : TestStep) (s : State) : FeedbackKept s (beginStep st s) := by
  have htest : ∀ x, FeedbackKept s { s with brc.test := x } := fun _ => ⟨fun c => by cases c <;> rfl, rfl, rfl, rfl, rfl⟩
  exact (htest _).trans (settle _)

/-! ### The end of a test (R137, R138) -/

/-- The end of a test is in the result and the outputs: latch, driver's level and host hold request stay. -/
theorem testOver_brc (r : TestResult) (s : State) :
    (testOver r s).brc.test = none ∧ (testOver r s).brc.result = r ∧ (testOver r s).brc.latch = s.brc.latch ∧
    (testOver r s).brc.driverLevel = s.brc.driverLevel ∧ (testOver r s).brc.hostHold = s.brc.hostHold := by
  simp [testOver, resumeSupervision]

theorem testOver_test (r : TestResult) (s : State) : (testOver r s).brc.test = none := (testOver_brc r s).1

theorem testOver_result (r : TestResult) (s : State) : (testOver r s).brc.result = r := (testOver_brc r s).2.1

theorem FeedbackKept.testOver (r : TestResult) (s : State) : FeedbackKept s (testOver r s) := by
  have hover : FeedbackKept s { s with brc.test := none, brc.result := r } :=
    ⟨fun c => by cases c <;> rfl, rfl, rfl, rfl, rfl⟩
  have hresumed : ∀ t, FeedbackKept t (resumeSupervision t) := fun t =>
    ((outputChanged .service t).trans (outputChanged .holding _)).trans (outputChanged .emergency _)
  exact ((hover.trans (settle _)).trans (hresumed _)).trans (of_brc (raise_keeps .testDone _).2.2.2.2.2.1)

theorem LinksKept.testOver (r : TestResult) (s : State) : LinksKept s (testOver r s) := by
  have hresumed : LinksKept s (resumeSupervision (Machine.settle { s with brc.test := none, brc.result := r })) :=
    .of_eq (by simp) (by simp)
  exact hresumed.trans (raise _ _)

theorem abortTest_of_some {s : State} {c : TestContext} (h : s.brc.test = some c) (r : AbortReason) :
    abortTest r s = testOver { s.brc.result with overall := .aborted, abort := some (r, c.step) } s := by
  unfold abortTest
  rw [h]

end Sys2Proof.Machine
end

section
/-! SUPPORT. What an event of DRC does to a running brake test: it goes on as it was, or door hold aborts it (R138, R160); and
that DRC, once it has judged, has nothing to judge until one of its inputs changes (R149). -/

namespace Sys2Proof.Machine

/-! ### A test that goes on or is over -/

/-- From `s` to `t` the test goes on as it was or is over, with the outcomes so far; the record of a test that was over
before stays. -/
structure TestMove (s t : State) : Prop where
  steps : t.brc.result.steps = s.brc.result.steps
  test : t.brc.test = s.brc.test ∨ t.brc.test = none
  record : s.brc.test = none → t.brc.result = s.brc.result

namespace TestMove

theorem of_same {s t : State} (htest : t.brc.test = s.brc.test) (hresult : t.brc.result = s.brc.result) : TestMove s t :=
  ⟨by rw [hresult], .inl htest, fun _ => hresult⟩

theorem of_brc {s t : State} (h : t.brc = s.brc) : TestMove s t := of_same (by rw [h]) (by rw [h])

theorem refl (s : State) : TestMove s s := of_brc rfl

theorem none {s t : State} (h : TestMove s t) (hnone : s.brc.test = none) : t.brc.test = none :=
  h.test.elim (fun hsame => hsame.trans hnone) id

theorem trans {s t u : State} (h : TestMove s t) (k : TestMove t u) : TestMove s u where
  steps := k.steps.trans h.steps
  test := k.test.elim (fun hsame => by rw [hsame]; exact h.test) .inr
  record hnone := (k.record (h.none hnone)).trans (h.record hnone)

theorem settle (s : State) : TestMove s (settle s) := of_same (by simp) (by simp)

theorem abortTest (r : AbortReason) (s : State) : TestMove s (abortTest r s) := by
  cases htest : s.brc.test with
  | none =>
    rw [abortTest_of_none htest]
    exact refl s
  | some c =>
    rw [abortTest_of_some htest]
    exact ⟨by rw [testOver_result], .inr (testOver_test _ _), fun h => by simp [htest] at h⟩

theorem addLatchIf (b : Bool) (c : LatchCause) (s : State) : TestMove s (addLatchIf b c s) := by
  have hadded : TestMove s { s with brc.latch := s.brc.latch.add c, brc.hostHold := holdAfterLatch s } := of_same rfl rfl
  unfold Machine.addLatchIf addLatchCause
  split
  · split
    · exact refl s
    · exact ((hadded.trans (of_brc (by simp))).trans (abortTest .latch _)).trans (settle _)
  · exact refl s

theorem followDoorHold (s : State) : TestMove s (followDoorHold s) := by
  have hdoor : TestMove s { s with drc.doorHold := !everyLeafLocked s.drc } := of_brc rfl
  unfold Machine.followDoorHold
  dsimp only
  split
  · exact refl s
  · refine .trans ?_ (settle _)
    split
    · exact hdoor.trans (abortTest .door _)
    · exact hdoor

theorem judgeRelease (s : State) : TestMove s (judgeRelease s) := by
  have hjudged : TestMove s (judge s) := of_brc (by simp)
  have hreport : ∀ u, TestMove u (flushReport u) := fun u => of_brc (by simp)
  exact ((hjudged.trans (followDoorHold _)).trans (addLatchIf _ _ _)).trans (hreport _)

end TestMove

/-! ### Door hold (R138, R160) -/

/-- Door hold that is asserted aborts the running test with reason DOOR. -/
theorem followDoorHold_aborts {s : State} {c : TestContext} (htest : s.brc.test = some c)
    (hhold : s.drc.doorHold = false) (hopen : everyLeafLocked s.drc = false) :
    (followDoorHold s).brc.test = none ∧
    (followDoorHold s).brc.result = { s.brc.result with overall := .aborted, abort := some (.door, c.step) } := by
  have habort := abortTest_of_some (s := { s with drc.doorHold := true }) htest .door
  unfold followDoorHold
  rw [hopen, hhold]
  simp only [Bool.not_false, Bool.true_eq_false, if_false, if_true, settle_keeps_brc]
  rw [habort]
  exact ⟨testOver_test _ _, testOver_result _ _⟩

/-- While a test runs without door hold, DRC's judgement leaves both as they are, or asserts door hold and aborts the test with
reason DOOR. -/
theorem judgeRelease_of_running {s : State} {c : TestContext} (htest : s.brc.test = some c)
    (hhold : s.drc.doorHold = false) :
    (judgeRelease s).drc.doorHold = false ∧ (judgeRelease s).brc = s.brc ∨
    (judgeRelease s).drc.doorHold = true ∧ (judgeRelease s).brc.test = none ∧
      (judgeRelease s).brc.result = { s.brc.result with overall := .aborted, abort := some (.door, c.step) } := by
  have hmove := DoorMove.judge s
  have hdoorHold : (judgeRelease s).drc.doorHold = !everyLeafLocked (judge s).drc := by
    simp [judgeRelease, drcEvent, followDoorHold_drc]
  rw [hdoorHold]
  have htest' : (judge s).brc.test = some c := by rw [hmove.brc, htest]
  have hhold' : (judge s).drc.doorHold = false := by rw [hmove.doorHold, hhold]
  have hflushed : ∀ u, (flushReport u).brc = u.brc := fun u => (flushReport_keeps u).2.2.2.2.2.1
  cases hlocked : everyLeafLocked (judge s).drc with
  | true =>
    have hcame : leafCameUnlocked s.drc (judge s).drc = false := by
      by_contra hopen
      rw [Bool.not_eq_false] at hopen
      exact absurd (hlocked.symm.trans (not_everyLeafLocked_of_came hopen)) (by decide)
    have hstays : followDoorHold (judge s) = judge s := if_pos (by rw [hlocked, hhold']; rfl)
    refine .inl ⟨rfl, ?_⟩
    unfold judgeRelease drcEvent
    dsimp only
    rw [hflushed, hstays, hcame, Bool.and_false]
    exact hmove.brc
  | false =>
    obtain ⟨hnone, hresult⟩ := followDoorHold_aborts htest' hhold' hlocked
    have hlatch := TestMove.addLatchIf (!s.standing && leafCameUnlocked s.drc (judge s).drc) .doorMotion
      (followDoorHold (judge s))
    refine .inr ⟨rfl, ?_⟩
    unfold judgeRelease drcEvent
    dsimp only
    rw [hflushed, hlatch.none hnone, hlatch.record hnone, hresult, hmove.brc]
    exact ⟨rfl, rfl⟩

/-! ### Nothing left to judge (R149) -/

/-- Release in force is judged by these inputs. -/
theorem releaseCondition_congr {s t : State} (hcmc : t.cmc = s.cmc) (hodo : t.odo = s.odo) (hlps : t.lps = s.lps)
    (hrelease : t.drc.release = s.drc.release) (hconfirmed : t.brc.confirmed = s.brc.confirmed)
    (hhealth : t.brc.holding.health = s.brc.holding.health) : releaseCondition t = releaseCondition s := by
  have hstanding : t.standing = s.standing := by rw [State.standing, State.standing, hodo]
  have hplatform : ∀ st, platformOf t st = platformOf s st := fun st => by
    unfold platformOf segments State.profileValid
    rw [hlps]
  have hspan : carSpan t = carSpan s := by
    unfold carSpan maximumUm
    rw [handedEstimate_congr (s := s) (t := t) (by rw [hodo]) (by rw [hodo]), lineLength_congr hlps, hcmc]
  have hreleased : ∀ side st, atReleasedPlatform t side st = atReleasedPlatform s side st := fun side st => by
    unfold atReleasedPlatform
    rw [hplatform, hspan]
  unfold releaseCondition
  rw [hrelease, hcmc, hconfirmed, hhealth, hstanding]
  simp only [hreleased]

@[simp] theorem releaseRecords_closeLeaves (side : Side) (ds : List Drive) (s : State) :
    releaseRecords (closeLeaves side ds s) = releaseRecords s := by
  unfold closeLeaves
  rw [releaseRecords_startClosing]
  split <;> simp

@[simp] theorem releaseRecords_unlockSide (side : Side) (s : State) :
    releaseRecords (unlockSide side s) = releaseRecords s := by
  refine foldl_keeps releaseRecords (fun u d => ?_) _ s
  have hunlocked : releaseRecords (enterUnlocked d u) = releaseRecords u := by
    unfold enterUnlocked
    split <;> simp
  unfold unlockLeaf
  split <;> simp [hunlocked]

/-- The judgement writes release in force as its condition gives it, and leaves the release record (R149). -/
theorem releaseRecords_judge (s : State) :
    releaseRecords (judge s) = (s.drc.release, releaseCondition s, s.drc.lastRefused) := by
  unfold judge
  dsimp only
  split
  next hsame => rw [hsame]; rfl
  · have hlost : ∀ side u, releaseRecords (closeOnLoss side u) = releaseRecords u := fun side u =>
      releaseRecords_closeLeaves side _ u
    have hjudged : releaseRecords
        (match s.drc.inForce with
          | some side => closeOnLoss side { s with drc.inForce := releaseCondition s }
          | none => { s with drc.inForce := releaseCondition s }) =
        (s.drc.release, releaseCondition s, s.drc.lastRefused) := by
      split
      · exact hlost _ _
      · rfl
    split
    · rw [releaseRecords_unlockSide]
      exact hjudged
    · exact hjudged

/-- DRC has judged its inputs as they stand: door hold follows the leaves, release in force its condition, and no report is
owed. -/
def DoorsJudged (s : State) : Prop :=
  DoorHoldLaw s ∧ s.drc.reportDue = false ∧ releaseCondition s = s.drc.inForce

theorem DoorsJudged.congr {s t : State} (h : DoorsJudged s) (hcmc : t.cmc = s.cmc) (hodo : t.odo = s.odo)
    (hlps : t.lps = s.lps) (hdrc : t.drc = s.drc) (hconfirmed : t.brc.confirmed = s.brc.confirmed)
    (hhealth : t.brc.holding.health = s.brc.holding.health) : DoorsJudged t := by
  unfold DoorsJudged DoorHoldLaw
  rw [releaseCondition_congr hcmc hodo hlps (by rw [hdrc]) hconfirmed hhealth, hdrc]
  exact h

theorem DoorsJudged.judgeRelease_eq {s : State} (h : DoorsJudged s) : judgeRelease s = s := judgeRelease_idle h.1 h.2.1 h.2.2

theorem doorsJudged_judgeRelease (s : State) : DoorsJudged (judgeRelease s) := by
  have hrecords := releaseRecords_judge s
  simp only [releaseRecords, Prod.mk.injEq] at hrecords
  obtain ⟨hrelease, hinForce, -⟩ := hrecords
  have hdrc := drcEvent_drc judge s
  have hkept := FeedbackKept.judgeRelease s
  obtain ⟨hcmc, hodo, hlps, -⟩ := judgeRelease_keeps s
  refine ⟨drcEvent_doorHold judge s, flushReport_due _, ?_⟩
  have hreleased : (judgeRelease s).drc.release = s.drc.release := by rw [judgeRelease, hdrc, hrelease]
  rw [releaseCondition_congr hcmc hodo hlps hreleased hkept.confirmed (hkept.health .holding), judgeRelease, hdrc, hinForce]

/-! ### The HOLDING health handed to DRC (R149) -/

theorem handHoldingHealth_same {before : Health} {s : State} (h : s.brc.holding.health = before) :
    handHoldingHealth before s = s := if_pos h

theorem handHoldingHealth_changed {before : Health} {s : State} (h : s.brc.holding.health ≠ before) :
    handHoldingHealth before s = judgeRelease s := if_neg h

end Sys2Proof.Machine
end

section
/-! SUPPORT. The steps of a brake test that begin one after another, for as long as each passes at once (R134): what the run leaves,
and where it stops. -/

namespace Sys2Proof.Machine

/-! ### One step begun (R134, R149) -/

/-- A step has begun, and DRC has judged a HOLDING health that changed before it (assumption log 7). -/
def stepBegun (st : TestStep) (before : Health) (s : State) : State := handHoldingHealth before (beginStep st s)

theorem runSteps_waits {st : TestStep} {rest : List TestStep} {before : Health} {s : State}
    (h : runningStepPasses (stepBegun st before s) = false) :
    runSteps (st :: rest) before s = stepBegun st before s := by
  rw [runSteps]
  exact if_neg (ne_true_of_eq_false h)

theorem runSteps_passes {st : TestStep} {rest : List TestStep} {before : Health} {s : State}
    (h : runningStepPasses (stepBegun st before s) = true) :
    runSteps (st :: rest) before s =
      runSteps rest (stepBegun st before s).brc.holding.health (endStep st (.pass 0) (stepBegun st before s)) := by
  rw [runSteps]
  exact if_pos h

/-- A begun step waits or passes at once. -/
theorem runSteps_cons {P : State → Prop} {st : TestStep} {rest : List TestStep} {before : Health} {s : State}
    (hwaits : P (stepBegun st before s))
    (hpasses : runningStepPasses (stepBegun st before s) = true →
      P (runSteps rest (stepBegun st before s).brc.holding.health (endStep st (.pass 0) (stepBegun st before s)))) :
    P (runSteps (st :: rest) before s) := by
  cases h : runningStepPasses (stepBegun st before s) with
  | true =>
    rw [runSteps_passes h]
    exact hpasses h
  | false =>
    rw [runSteps_waits h]
    exact hwaits

theorem TestMove.handHoldingHealth (before : Health) (s : State) : TestMove s (handHoldingHealth before s) := by
  unfold Machine.handHoldingHealth
  split
  · exact refl s
  · exact judgeRelease s

theorem stepBegun_steps (st : TestStep) (before : Health) (s : State) :
    (stepBegun st before s).brc.result.steps = s.brc.result.steps := by
  rw [stepBegun, (TestMove.handHoldingHealth _ _).steps, beginStep_result]

theorem stepBegun_test {s : State} {c : TestContext} (h : s.brc.test = some c) (st : TestStep) (before : Health) :
    (stepBegun st before s).brc.test = some { c with step := st, left := c.stepTimeout } ∨
    (stepBegun st before s).brc.test = none := by
  rw [← beginStep_test h st]
  exact (TestMove.handHoldingHealth _ _).test

theorem FeedbackKept.stepBegun (st : TestStep) (before : Health) (s : State) : FeedbackKept s (stepBegun st before s) := by
  refine (beginStep st s).trans ?_
  unfold Machine.stepBegun Machine.handHoldingHealth
  split
  · exact refl _
  · exact judgeRelease _

theorem LinksKept.stepBegun (st : TestStep) (before : Health) (s : State) : LinksKept s (stepBegun st before s) := by
  have hbegun : LinksKept s (beginStep st s) := .of_eq (by simp) (by simp)
  refine hbegun.trans ?_
  unfold Machine.stepBegun Machine.handHoldingHealth
  split
  · exact refl _
  · exact judgeRelease _

theorem test_ne_none_of_passes {s : State} (h : runningStepPasses s = true) : s.brc.test ≠ none := fun hnone => by
  rw [runningStepPasses_of_none hnone] at h
  exact Bool.false_ne_true h

/-! ### What a run leaves -/

/-- A run writes the outcomes of its own steps alone (R134). -/
theorem runSteps_outcome {st : TestStep} {rest : List TestStep} (h : st ∉ rest) (before : Health) (s : State) :
    (runSteps rest before s).brc.result.steps.get st = s.brc.result.steps.get st := by
  induction rest generalizing before s with
  | nil => rw [runSteps, completeTest, testOver_result]
  | cons a rest ih =>
    obtain ⟨hne, hrest⟩ := not_or.1 (fun hmem => h (List.mem_cons.2 hmem))
    refine runSteps_cons (P := fun t => t.brc.result.steps.get st = s.brc.result.steps.get st) ?_ fun _ => ?_
    · rw [stepBegun_steps]
    · rw [ih hrest, endStep_result, StepOutcomes.get_set_other _ _ hne, stepBegun_steps]

/-- A run sets the health of the channels whose second step is one of its own (R136). -/
theorem runSteps_health {c : Channel} {rest : List TestStep} (h : ∀ st ∈ rest, st.firstOfPair = none ∨ st.channel ≠ c)
    (before : Health) (s : State) : ((runSteps rest before s).brc.channel c).health = (s.brc.channel c).health := by
  induction rest generalizing before s with
  | nil => exact (FeedbackKept.testOver _ s).health c
  | cons a rest ih =>
    have hbegun := (FeedbackKept.stepBegun a before s).health c
    refine runSteps_cons (P := fun t => (t.brc.channel c).health = (s.brc.channel c).health) hbegun fun _ => ?_
    rw [ih fun st hst => h st (List.mem_cons_of_mem _ hst), endStep_health_other (h a List.mem_cons_self), hbegun]

theorem LinksKept.runSteps (rest : List TestStep) (before : Health) (s : State) : LinksKept s (runSteps rest before s) := by
  induction rest generalizing before s with
  | nil => exact testOver _ s
  | cons a rest ih =>
    have hbegun := stepBegun a before s
    exact runSteps_cons hbegun fun _ => (hbegun.trans (endStep _ _ _)).trans (ih _ _)

/-- After a run the test is over or one of the run's steps is running. -/
theorem runSteps_test {s : State} {c : TestContext} (h : s.brc.test = some c) (rest : List TestStep) (before : Health) :
    (runSteps rest before s).brc.test = none ∨
    ∃ c', (runSteps rest before s).brc.test = some c' ∧ c'.step ∈ rest := by
  induction rest generalizing before s c with
  | nil => exact .inl (testOver_test _ s)
  | cons a rest ih =>
    refine runSteps_cons (P := fun t => t.brc.test = none ∨ ∃ c', t.brc.test = some c' ∧ c'.step ∈ a :: rest) ?_
      fun hpasses => ?_
    · exact (stepBegun_test h a before).elim (fun hsome => .inr ⟨_, hsome, List.mem_cons_self⟩) .inl
    · obtain ⟨c', hc'⟩ := Option.ne_none_iff_exists'.1 (test_ne_none_of_passes hpasses)
      refine (ih ((endStep_test a _ _).trans hc') _).imp id ?_
      exact fun ⟨d, hd, hmem⟩ => ⟨d, hd, List.mem_cons_of_mem _ hmem⟩

/-- Where a run ends the test, supervision has resumed (R137, R138). -/
theorem runSteps_resumed {s : State} (h : s.brc.test ≠ none) (rest : List TestStep) (before : Health) :
    ResumedUnlessTesting (runSteps rest before s) := by
  induction rest generalizing before s with
  | nil => exact .testOver _ s
  | cons a rest ih =>
    obtain ⟨c, hc⟩ := Option.ne_none_iff_exists'.1 h
    have hrunning : (beginStep a s).brc.test ≠ none := by simp [beginStep_test hc]
    refine runSteps_cons (P := ResumedUnlessTesting) ?_ fun hpasses => ?_
    · unfold stepBegun handHoldingHealth
      split
      · exact .of_running hrunning
      · exact (ResumedUnlessTesting.of_running hrunning).judgeRelease
    · exact ih (by rw [endStep_test]; exact test_ne_none_of_passes hpasses) _

/-- Without the HOLDING channel's second step a run hands DRC nothing (R149). -/
theorem runSteps_unjudged {rest : List TestStep} (h : TestStep.s4 ∉ rest) (s : State) :
    let t := runSteps rest s.brc.holding.health s
    t.drc = s.drc ∧ t.brc.confirmed = s.brc.confirmed ∧ t.brc.holding.health = s.brc.holding.health := by
  induction rest generalizing s with
  | nil =>
    have hover := FeedbackKept.testOver { s.brc.result with overall := overallOutcome s.brc.result.steps } s
    exact ⟨by simp [runSteps], hover.confirmed, hover.health .holding⟩
  | cons a rest ih =>
    obtain ⟨hne, hrest⟩ := not_or.1 (fun hmem => h (List.mem_cons.2 hmem))
    have hkept := FeedbackKept.beginStep a s
    have hbegun : stepBegun a s.brc.holding.health s = beginStep a s := handHoldingHealth_same (hkept.health .holding)
    have hdrc : (beginStep a s).drc = s.drc := by simp
    refine runSteps_cons (P := fun t => t.drc = s.drc ∧ t.brc.confirmed = s.brc.confirmed ∧
      t.brc.holding.health = s.brc.holding.health) ?_ fun _ => ?_
    all_goals rw [hbegun]
    · exact ⟨hdrc, hkept.confirmed, hkept.health .holding⟩
    · have hother : a.firstOfPair = none ∨ a.channel ≠ .holding := by
        cases a <;> simp_all [TestStep.firstOfPair, TestStep.channel]
      have hhealth : (endStep a (.pass 0) (beginStep a s)).brc.holding.health = (beginStep a s).brc.holding.health :=
        endStep_health_other (c := .holding) hother _ _
      obtain ⟨kdrc, kconfirmed, khealth⟩ := ih hrest (endStep a (.pass 0) (beginStep a s))
      rw [hhealth] at kdrc kconfirmed khealth
      exact ⟨kdrc.trans ((endStep_drc _ _ _).trans hdrc),
        kconfirmed.trans ((endStep_confirmed _ _ _).trans hkept.confirmed), khealth.trans (hkept.health .holding)⟩

/-! ### Where a run stops (R134, R138) -/

/-- From `s` to `t` door hold has aborted the test at a step, with the outcomes of that step and the later ones as in `s` (R138). -/
structure DoorAborted (st : TestStep) (s t : State) : Prop where
  ended : t.brc.test = none
  overall : t.brc.result.overall = .aborted
  abort : t.brc.result.abort = some (.door, st)
  later : ∀ st', st.number ≤ st'.number → t.brc.result.steps.get st' = s.brc.result.steps.get st'

/-- A run that starts without door hold passes every step at once and completes the test, stands in one of its steps, or is
aborted in one of its steps by door hold. -/
inductive RunOutcome (rest : List TestStep) (c : TestContext) (s t : State) : Prop
  | completed (hhold : t.drc.doorHold = false) (hpasses : ∀ st ∈ rest, stepPasses c s.brc st = true)
  | running (c' : TestContext) (htest : t.brc.test = some c') (hmem : c'.step ∈ rest) (hhold : t.drc.doorHold = false)
      (hlater : ∀ st, c'.step.number ≤ st.number → t.brc.result.steps.get st = s.brc.result.steps.get st)
  | aborted (st : TestStep) (hmem : st ∈ rest) (hhold : t.drc.doorHold = true) (haborted : DoorAborted st s t)

/-- A step that begins without door hold runs, or is aborted by the door hold that DRC's judgement asserts. -/
theorem stepBegun_of_running {s : State} {c : TestContext} (htest : s.brc.test = some c) (hhold : s.drc.doorHold = false)
    (st : TestStep) (before : Health) :
    (stepBegun st before s).drc.doorHold = false ∧
      (stepBegun st before s).brc.test = some { c with step := st, left := c.stepTimeout } ∨
    (stepBegun st before s).drc.doorHold = true ∧ DoorAborted st s (stepBegun st before s) := by
  have hbegun := beginStep_test htest st
  have hhold' : (beginStep st s).drc.doorHold = false := by rw [← hhold]; simp
  unfold stepBegun handHoldingHealth
  split
  · exact .inl ⟨hhold', hbegun⟩
  · refine (judgeRelease_of_running hbegun hhold').imp ?_ ?_
    · exact fun ⟨hstays, hbrc⟩ => ⟨hstays, by rw [hbrc, hbegun]⟩
    · exact fun ⟨hasserted, hnone, hresult⟩ =>
        ⟨hasserted, ⟨hnone, by rw [hresult], by rw [hresult], fun _ _ => by rw [hresult, beginStep_result]⟩⟩

/-- A step that passed at once before the run went on belongs to its outcome. -/
theorem RunOutcome.after_pass {a : TestStep} {rest : List TestStep} {c : TestContext} {s u t : State}
    (h : RunOutcome rest { c with step := a, left := c.stepTimeout } (endStep a (.pass 0) u) t)
    (ha : ∀ st ∈ rest, a.number < st.number) (hkept : FeedbackKept s u)
    (hsteps : u.brc.result.steps = s.brc.result.steps) (hpass : stepPasses c s.brc a = true) :
    RunOutcome (a :: rest) c s t := by
  obtain ⟨hresult, -, hservice, hholding, hband, -⟩ := endStep_brc a (.pass 0) u
  have hlater : ∀ x ∈ rest, ∀ st, x.number ≤ st.number →
      (endStep a (.pass 0) u).brc.result.steps.get st = s.brc.result.steps.get st := fun x hx st hst => by
    have hne : st ≠ a := fun hsame => absurd (lt_of_lt_of_le (ha x hx) hst) (by simp [hsame])
    rw [hresult, StepOutcomes.get_set_other _ _ hne, hsteps]
  cases h with
  | completed hhold hpasses =>
    refine .completed hhold (List.forall_mem_cons.2 ⟨hpass, fun st hst => ?_⟩)
    rw [← hpasses st hst]
    exact (stepPasses_congr rfl rfl rfl (hservice.trans hkept.service) (hholding.trans hkept.holding)
      (hband.trans hkept.band) st).symm
  | running c' htest hmem hhold hkeeps =>
    exact .running c' htest (List.mem_cons_of_mem _ hmem) hhold fun st hst =>
      (hkeeps st hst).trans (hlater _ hmem st hst)
  | aborted st hmem hhold haborted =>
    exact .aborted st (List.mem_cons_of_mem _ hmem) hhold
      { haborted with later := fun st' hst' => (haborted.later st' hst').trans (hlater _ hmem st' hst') }

theorem runSteps_outcomes {rest : List TestStep} (hascending : rest.Pairwise fun a b => a.number < b.number) {s : State}
    {c : TestContext} (htest : s.brc.test = some c) (hhold : s.drc.doorHold = false) (before : Health) :
    RunOutcome rest c s (runSteps rest before s) := by
  induction rest generalizing before s c with
  | nil => exact .completed (by simpa [runSteps] using hhold) fun st hst => absurd hst List.not_mem_nil
  | cons a rest ih =>
    obtain ⟨ha, hrest⟩ := List.pairwise_cons.1 hascending
    have hkept := FeedbackKept.stepBegun a before s
    have hsteps := stepBegun_steps a before s
    rcases stepBegun_of_running htest hhold a before with ⟨hstays, hrunning⟩ | ⟨hasserted, haborted⟩
    · refine runSteps_cons (P := RunOutcome (a :: rest) c s) ?_ fun hpasses => ?_
      · exact .running _ hrunning List.mem_cons_self hstays fun st _ => by rw [hsteps]
      · have hpass : stepPasses c s.brc a = true := by
          rw [runningStepPasses_of_some hrunning] at hpasses
          rw [← hpasses]
          exact (stepPasses_congr rfl rfl rfl hkept.service hkept.holding hkept.band a).symm
        have hended := ih hrest (s := endStep a (.pass 0) (stepBegun a before s))
          ((endStep_test a _ _).trans hrunning) (by rw [endStep_drc, hstays]) (stepBegun a before s).brc.holding.health
        exact hended.after_pass ha hkept hsteps hpass
    · rw [runSteps_waits (runningStepPasses_of_none haborted.ended)]
      exact .aborted a List.mem_cons_self hasserted haborted

/-- The band's two steps pass at once in no run: one waits for it open, the other for it closed (R135). -/
theorem not_forall_stepPasses {rest : List TestStep} (h5 : TestStep.s5 ∈ rest) (h6 : TestStep.s6 ∈ rest) (c : TestContext)
    (b : Brakes) : ¬∀ st ∈ rest, stepPasses c b st = true := fun h => by
  have hopen := h .s5 h5
  have hclosed := h .s6 h6
  simp only [stepPasses, Bool.not_eq_true'] at hopen hclosed
  exact Bool.false_ne_true (hopen.symm.trans hclosed)

end Sys2Proof.Machine
end

section
/-! Chapter 8: START_BRAKE_TEST and ABORT_BRAKE_TEST (R132 to R135, R138, R139). -/

namespace Sys2Proof.Machine

/-! ### START_BRAKE_TEST (R132, R133) -/

/-- The checks of R132 in turn. -/
theorem judgeStartTest_eq (s : State) :
    judgeStartTest s =
      if s.brc.test ≠ none then (refuse .refusedBusy, s)
      else if s.cmc.mode ≠ .preparation then (refuse .refusedMode, s)
      else if s.odo.motion ≠ .standstill then (refuse .refusedMotion, s)
      else if everyLeafLocked s.drc = false then (refuseDetail 0x01, s)
      else if s.brc.latch.any = true then (refuseDetail 0x07, s)
      else if s.brc.driverLevel ≠ 0 then (refuseDetail 0x0C, s)
      else ({ code := .accepted }, startTest s) := by
  simp only [judgeStartTest, Bool.not_eq_true', ← testing_iff, ← standing_iff, ne_eq, Bool.not_eq_true]
  rfl

/-- A test as it is accepted, before step 1 begins: no channel supervised, the result cleared, and the values it takes of
parameters 19, 21, 22 and 25 (R131, R133). -/
def testAccepted (s : State) : State :=
  let p := s.cmc.params
  let s1 := setSupervision .emergency .idle (setSupervision .holding .idle (setSupervision .service .idle s))
  { s1 with
    brc.result := ⟨.inProgress, ⟨.notRun, .notRun, .notRun, .notRun, .notRun, .notRun⟩, none⟩,
    brc.test := some ⟨.s1, paramValue p 25, paramValue p 19, paramValue p 21, paramValue p 22, paramValue p 25⟩ }

theorem startTest_eq (s : State) :
    startTest s = runSteps [.s1, .s2, .s3, .s4, .s5, .s6] s.brc.holding.health (testAccepted s) := rfl

theorem testAccepted_channel (s : State) (c : Channel) :
    ((testAccepted s).brc.channel c).supervision = .idle ∧
    ((testAccepted s).brc.channel c).health = (s.brc.channel c).health := by
  cases c <;> exact ⟨rfl, rfl⟩

/-- While a test runs, an evaluation of the brakes writes the outputs and restarts no check (R114, R133). -/
theorem settle_of_testing {s : State} (h : s.testing = true) :
    settle s = { formDemands s with
      brc.setpoint := largestDemand (formedDemands s), brc.releaseValve := formedReleaseValve s,
      brc.dumpValve := formedDumpValve s } := by
  have hunchecked : ∀ c u, u.testing = true → outputChanged c u = u := fun c u hu => if_pos hu
  have hsetpoint : ∀ v u, u.testing = true → driveSetpoint v u = { u with brc.setpoint := v } := fun v u hu => by
    unfold driveSetpoint
    split
    next hv => rw [← hv]
    · exact hunchecked _ _ hu
  have hrelease : ∀ v u, u.testing = true → driveReleaseValve v u = { u with brc.releaseValve := v } := fun v u hu => by
    unfold driveReleaseValve
    split
    next hv => rw [← hv]
    · exact hunchecked _ _ hu
  have hdump : ∀ v u, u.testing = true → driveDumpValve v u = { u with brc.dumpValve := v } := fun v u hu => by
    unfold driveDumpValve
    split
    next hv => rw [← hv]
    · exact hunchecked _ _ hu
  have hformed : (formDemands s).testing = true := h
  unfold settle
  rw [hsetpoint _ _ hformed, hrelease, hdump]
  all_goals exact hformed

/-- An accepted test stands in step 1 while the service pressure has not reached the band (R134, R135). -/
theorem startTest_waits {s : State} (h : s.brc.servicePressure + paramValue s.cmc.params 19 < 1000) :
    startTest s = beginStep .s1 (testAccepted s) := by
  have hhealth : (beginStep .s1 (testAccepted s)).brc.holding.health = s.brc.holding.health := by
    unfold beginStep
    exact (settle_health .holding _).trans rfl
  have hpasses : runningStepPasses (beginStep .s1 (testAccepted s)) = false := by
    simpa [runningStepPasses, beginStep, testAccepted, stepPasses, setSupervision] using h
  have hbegun : stepBegun .s1 s.brc.holding.health (testAccepted s) = beginStep .s1 (testAccepted s) :=
    handHoldingHealth_same hhealth
  rw [startTest_eq, runSteps_waits (by rwa [hbegun]), hbegun]

/-- BRC in step 1 of an accepted test: SVSET at 1000 by the TEST demand, both valves DE-ENERGIZED, no permit (R133, R135). -/
theorem startTest_stepOne {s : State} (h : s.brc.servicePressure + paramValue s.cmc.params 19 < 1000) :
    let p := s.cmc.params
    (startTest s).brc.test =
      some ⟨.s1, paramValue p 25, paramValue p 19, paramValue p 21, paramValue p 22, paramValue p 25⟩ ∧
    (startTest s).brc.result = ⟨.inProgress, ⟨.notRun, .notRun, .notRun, .notRun, .notRun, .notRun⟩, none⟩ ∧
    (∀ c, ((startTest s).brc.channel c).supervision = .idle ∧
      ((startTest s).brc.channel c).health = (s.brc.channel c).health) ∧
    (startTest s).brc.demands.test = some 1000 ∧ (startTest s).brc.releaseValve = false ∧
    (startTest s).brc.dumpValve = false ∧ (startTest s).brc.permit = false ∧ (startTest s).ssv = s.ssv ∧
    (startTest s).drc = s.drc ∧ (startTest s).vrl = s.vrl := by
  dsimp only
  rw [startTest_waits h]
  obtain ⟨-, hrelease, hdump, hdemands, -, hpermit⟩ := settle_brc (testAccepted s)
  have hbegun : beginStep .s1 (testAccepted s) = settle (testAccepted s) := rfl
  rw [hbegun, hrelease, hdump, hdemands, hpermit]
  refine ⟨by simp [testAccepted], by simp [testAccepted], fun c => ?_, rfl, rfl, rfl, ?_,
    by simp [testAccepted], by simp [testAccepted], by simp [testAccepted]⟩
  · rw [settle_of_testing rfl]
    have hchannel := testAccepted_channel s c
    cases c <;> exact hchannel
  · simp [permitCondition, testAccepted, State.testing]

/-! ### ABORT_BRAKE_TEST (R138, R139) -/

/-- A host's abort ends a running test with reason REQUEST (R139). -/
theorem abortBrakeTest_running {s : State} (hr : s.resetting = false) {c : TestContext} (h : s.brc.test = some c) :
    let t := request 0x1D (fun s => ({ code := .done }, abortTest .request s)) s
    t.hlp.slot = answer s 0x1D { code := .done } ∧ t.brc.test = none ∧
    t.brc.result = { s.brc.result with overall := .aborted, abort := some (.request, c.step) } ∧
    testEnded t ∧ t.brc.latch = s.brc.latch ∧ t.brc.driverLevel = s.brc.driverLevel ∧
    t.brc.hostHold = s.brc.hostHold ∧ (∀ d, (t.brc.channel d).health = (s.brc.channel d).health) ∧
    t.cmc = s.cmc ∧ t.odo = s.odo ∧ t.lps = s.lps ∧ t.rtb = s.rtb ∧ t.ssv = s.ssv ∧ t.drc = s.drc ∧
    t.vrl = s.vrl ∧ t.sld = s.sld ∧ t.pending = s.pending := by
  have hattention := request_attention hr 0x1D fun s => ({ code := .done }, abortTest .request s)
  obtain ⟨hcmc, hodo, hlps, hrtb, hssv, hbrc, hdrc, hvrl, hsld, hpending⟩ :=
    request_blocks hr 0x1D fun s => ({ code := .done }, abortTest .request s)
  have hended : testEnded (abortTest .request s) := by
    rw [abortTest_of_some h]
    exact testOver_ended _ s
  have hhealth := fun d => abortTest_health .request d s
  obtain ⟨hnone, hresult, hlatch, hlevel, hhost⟩ :=
    testOver_brc { s.brc.result with overall := .aborted, abort := some (.request, c.step) } s
  rw [← abortTest_of_some h] at hnone hresult hlatch hlevel hhost
  dsimp only
  refine ⟨request_slot_of hr 0x1D rfl, ?_, ?_, hended.of_blocks hcmc hbrc hdrc hattention, ?_⟩
  · rw [hbrc]
    exact hnone
  · rw [hbrc]
    exact hresult
  · rw [hcmc, hodo, hlps, hrtb, hssv, hbrc, hdrc, hvrl, hsld, hpending]
    exact ⟨hlatch, hlevel, hhost, hhealth, by simp⟩

/-- Settles O30: each refusal is an answer alone, an accepted test that does not pass step 1 at once is `startTest_stepOne`, and
an abort is the end of the test with its reason. -/
theorem brakeTestStartsAndAborts : Obligations.BrakeTestStartsAndAborts := by
  refine ⟨fun s hr => ⟨_, rfl, ?_⟩, fun s hr => ⟨fun hnone => ?_, fun c hc => ⟨_, rfl, abortBrakeTest_running hr hc⟩⟩⟩
  · refine request_unless hr 0x1C (judgeStartTest_eq s) fun _ howner => ?_
    refine request_unless hr 0x1C howner fun _ howner => ?_
    refine request_unless hr 0x1C howner fun _ howner => ?_
    refine request_unless hr 0x1C howner fun _ howner => ?_
    refine request_unless hr 0x1C howner fun _ howner => ?_
    refine request_unless hr 0x1C howner fun _ howner => ?_
    have hblocks := request_blocks hr 0x1C judgeStartTest
    rw [howner] at hblocks
    obtain ⟨hcmc, hodo, hlps, hrtb, hssv, hbrc, hdrc, hvrl, hsld, hpending⟩ := hblocks
    rw [hcmc, hodo, hlps, hrtb, hssv, hbrc, hdrc, hvrl, hsld, hpending]
    obtain ⟨kcmc, kodo, klps, krtb, ksld, kpending⟩ := startTest_keeps s
    exact ⟨request_slot_of hr 0x1C howner, kcmc, kodo, klps, krtb, ksld, kpending, startTest_stepOne⟩
  · have howner : (({ code := .done } : Reply), abortTest .request s) = ({ code := .done }, s) := by
      rw [abortTest_of_none hnone]
    exact congrArg _ (request_answered (owner := fun s => ({ code := .done }, abortTest .request s)) hr 0x1D howner)

end Sys2Proof.Machine
end

section
/-! Chapter 8, continued: a step of the brake test ends, with its outcome, health and completion, or the abort by door hold (R134,
R136 to R138). -/

namespace Sys2Proof.Machine

/-! ### The event that ends a step (R134, assumption log 7) -/

/-- What becomes of a test whose running step ends with an outcome: the step ends, and where the HOLDING feedback has changed the
confirmation, DRC judges it afterwards (assumption log 7). -/
inductive StepEnds (c : TestContext) (o : StepOutcome) (s : State) : State → Prop
  | ended : StepEnds c o s (finishStep c o s)
  | judged (h : c.step.channel = .holding) : StepEnds c o s (judgeRelease (finishStep c o s))

namespace StepEnds

variable {c : TestContext} {o : StepOutcome} {s t : State}

theorem move (h : StepEnds c o s t) : TestMove (finishStep c o s) t ∧ FeedbackKept (finishStep c o s) t := by
  cases h with
  | ended => exact ⟨.refl _, .refl _⟩
  | judged => exact ⟨.judgeRelease _, .judgeRelease _⟩

/-- The step has its outcome, and the steps before it keep theirs. -/
theorem outcome (h : StepEnds c o s t) {st : TestStep} (hst : st.number ≤ c.step.number) :
    t.brc.result.steps.get st = (s.brc.result.steps.set c.step o).get st := by
  have hnot : st ∉ c.step.following := fun hmem => absurd (mem_following_iff.1 hmem) (Nat.not_lt.2 hst)
  rw [h.move.1.steps, finishStep, runSteps_outcome hnot, endStep_result]

/-- A later step runs, or the test is over. -/
theorem progress (h : StepEnds c o s t) (htest : s.brc.test = some c) :
    t.brc.test = none ∨ ∃ c', t.brc.test = some c' ∧ c.step.number < c'.step.number := by
  have hrun := runSteps_test ((endStep_test c.step o s).trans htest) c.step.following s.brc.holding.health
  refine h.move.1.test.elim (fun hsame => ?_) .inl
  rw [hsame]
  exact hrun.imp id fun ⟨c', hc', hmem⟩ => ⟨c', hc', mem_following_iff.1 hmem⟩

/-- After a channel's second step nothing sets its health again (R136). -/
theorem health (h : StepEnds c o s t) {first : TestStep} (hfirst : c.step.firstOfPair = some first) :
    (t.brc.channel c.step.channel).health =
      if (s.brc.result.steps.get first).passed && o.passed then .ok else .failed := by
  have hother : ∀ st ∈ c.step.following, st.firstOfPair = none ∨ st.channel ≠ c.step.channel := fun st hmem => by
    by_contra hsame
    rw [not_or, not_not] at hsame
    have heq := second_step_of_channel hsame.1 (by simp [hfirst]) hsame.2
    exact absurd (mem_following_iff.1 hmem) (by simp [heq])
  rw [h.move.2.health, finishStep, runSteps_health hother, endStep_health hfirst]

/-- Where the test is over BRC stands as R137 and R138 give it. -/
theorem testEnded (h : StepEnds c o s t) (htest : s.brc.test = some c) (hnone : t.brc.test = none) : testEnded t := by
  have hsettled : BrakesSettled (finishStep c o s) := BrakesKept.runSteps_settled _ _ _
  have hresumed : ResumedUnlessTesting (finishStep c o s) :=
    runSteps_resumed (by rw [endStep_test, htest]; exact Option.some_ne_none c) _ _
  cases h with
  | ended => exact testEnded_of_settled hsettled hresumed hnone
  | judged => exact testEnded_of_settled hsettled.judgeRelease hresumed.judgeRelease hnone

/-- The end of step 6 completes the test (R137). -/
theorem completes (h : StepEnds c o s t) (h6 : c.step = .s6) :
    t.brc.test = none ∧
    t.brc.result = { s.brc.result with
      steps := s.brc.result.steps.set c.step o, overall := overallOutcome (s.brc.result.steps.set c.step o) } := by
  have hcompleted : finishStep c o s = completeTest (endStep c.step o s) := by
    rw [finishStep, h6]
    rfl
  cases h with
  | ended =>
    rw [hcompleted, completeTest, testOver_result, endStep_result]
    exact ⟨testOver_test _ _, rfl⟩
  | judged hchannel => simp [h6, TestStep.channel] at hchannel

theorem links (h : StepEnds c o s t) : LinksKept s t := by
  have hfinished : LinksKept s (finishStep c o s) := (LinksKept.endStep c.step o s).trans (.runSteps _ _ _)
  cases h with
  | ended => exact hfinished
  | judged => exact hfinished.trans (.judgeRelease _)

theorem blocks (h : StepEnds c o s t) :
    t.cmc = s.cmc ∧ t.odo = s.odo ∧ t.lps = s.lps ∧ t.rtb = s.rtb ∧ t.sld = s.sld ∧ t.pending = s.pending := by
  cases h <;> simp

/-! ### Door hold that comes with the end of a step (R138, R149, R160) -/

/-- Door hold that comes with the end of a step has aborted the test at a later one. -/
theorem doorAborted (h : StepEnds c o s t) (htest : s.brc.test = some c) (hbefore : s.drc.doorHold = false)
    (hafter : t.drc.doorHold = true) : ∃ st, c.step.number < st.number ∧ DoorAborted st s t := by
  have hnothold : t.drc.doorHold ≠ false := by simp [hafter]
  have hrun : RunOutcome c.step.following c (endStep c.step o s) (finishStep c o s) :=
    runSteps_outcomes (following_ascending _) ((endStep_test _ _ _).trans htest) (by rw [endStep_drc, hbefore]) _
  have hunwritten : ∀ st ∈ c.step.following, ∀ st', st.number ≤ st'.number →
      (endStep c.step o s).brc.result.steps.get st' = s.brc.result.steps.get st' := fun st hmem st' hst' => by
    have hlt := lt_of_lt_of_le (mem_following_iff.1 hmem) hst'
    have hne : st' ≠ c.step := fun hsame => absurd hlt (by simp [hsame])
    rw [endStep_result, StepOutcomes.get_set_other _ _ hne]
  cases hrun with
  | completed hhold hpasses =>
    cases h with
    | ended => exact absurd hhold hnothold
    | judged hchannel =>
      have hband : TestStep.s5 ∈ c.step.following ∧ TestStep.s6 ∈ c.step.following := by
        cases hstep : c.step <;> simp_all [TestStep.channel, TestStep.following]
      exact absurd hpasses (not_forall_stepPasses hband.1 hband.2 c _)
  | running c' hc' hmem hhold hlater =>
    cases h with
    | ended => exact absurd hhold hnothold
    | judged =>
      rcases judgeRelease_of_running hc' hhold with ⟨hstays, -⟩ | ⟨-, hnone, hresult⟩
      · exact absurd hstays hnothold
      · refine ⟨c'.step, mem_following_iff.1 hmem, ⟨hnone, by rw [hresult], by rw [hresult], fun st' hst' => ?_⟩⟩
        rw [hresult]
        exact (hlater st' hst').trans (hunwritten _ hmem st' hst')
  | aborted st hmem hhold haborted =>
    have hmove := h.move.1
    have hresult := hmove.record haborted.ended
    refine ⟨st, mem_following_iff.1 hmem, ⟨hmove.none haborted.ended, ?_, ?_, fun st' hst' => ?_⟩⟩
    · rw [hresult, haborted.overall]
    · rw [hresult, haborted.abort]
    · rw [hmove.steps]
      exact (haborted.later st' hst').trans (hunwritten st hmem st' hst')

end StepEnds

/-- A HOLDING health that has changed is judged as the next step begins, and is judged for good: door hold comes at that step or
not at all in the run (R138, assumption log 7). -/
theorem runSteps_of_changed_health {s : State} {c : TestContext} {st : TestStep} {rest : List TestStep} {before : Health}
    (htest : s.brc.test = some c) (hhold : s.drc.doorHold = false) (hchanged : s.brc.holding.health ≠ before)
    (hst : st.firstOfPair = none) (hrest : TestStep.s4 ∉ rest) :
    let t := runSteps (st :: rest) before s
    DoorsJudged t ∧ (t.drc.doorHold = true → t.brc.test = none ∧ t.brc.result.abort = some (.door, st)) := by
  have hhealth : (beginStep st s).brc.holding.health ≠ before := by
    rwa [show (beginStep st s).brc.holding.health = s.brc.holding.health from (FeedbackKept.beginStep st s).health .holding]
  have hbegun : stepBegun st before s = judgeRelease (beginStep st s) := handHoldingHealth_changed hhealth
  have hjudged : DoorsJudged (stepBegun st before s) := by
    rw [hbegun]
    exact doorsJudged_judgeRelease _
  have hstopped := stepBegun_of_running htest hhold st before
  refine runSteps_cons (P := fun t => DoorsJudged t ∧
    (t.drc.doorHold = true → t.brc.test = none ∧ t.brc.result.abort = some (.door, st))) ⟨hjudged, fun hdoor => ?_⟩
    fun hpasses => ?_
  · rcases hstopped with ⟨hstays, -⟩ | ⟨-, haborted⟩
    · exact absurd (hstays.symm.trans hdoor) Bool.false_ne_true
    · exact ⟨haborted.ended, haborted.abort⟩
  · rcases hstopped with ⟨hstays, -⟩ | ⟨-, haborted⟩
    · have hunjudged := runSteps_unjudged hrest (endStep st (.pass 0) (stepBegun st before s))
      rw [show (endStep st (.pass 0) (stepBegun st before s)).brc.holding.health = (stepBegun st before s).brc.holding.health
        from endStep_health_other (c := .holding) (.inl hst) _ _, endStep_drc] at hunjudged
      obtain ⟨hdrc, hconfirmed, hkept⟩ := hunjudged
      refine ⟨hjudged.congr (by simp) (by simp) (by simp) hdrc ?_ hkept, fun hdoor => ?_⟩
      · exact hconfirmed.trans (endStep_confirmed _ _ _)
      · rw [hdrc, hstays] at hdoor
        exact absurd hdoor Bool.false_ne_true
    · exact absurd haborted.ended (test_ne_none_of_passes hpasses)

/-- Where step 4 has set the HOLDING health, door hold that comes with its end has aborted step 5 (R138, assumption log 7). -/
theorem StepEnds.abort_after_health {c : TestContext} {o : StepOutcome} {s t : State} (h : StepEnds c o s t)
    (htest : s.brc.test = some c) (hbefore : s.drc.doorHold = false) (hafter : t.drc.doorHold = true) (h4 : c.step = .s4)
    (hchanged : (t.brc.channel .holding).health ≠ (s.brc.channel .holding).health) :
    t.brc.result.abort = some (.door, .s5) := by
  have hfinished : finishStep c o s = runSteps [.s5, .s6] s.brc.holding.health (endStep .s4 o s) := by
    rw [finishStep, h4]
    rfl
  have hhealth : (t.brc.channel .holding).health = (endStep .s4 o s).brc.holding.health := by
    rw [h.move.2.health, hfinished]
    exact runSteps_health (c := .holding) (by decide) _ _
  obtain ⟨hjudged, hdoor⟩ := runSteps_of_changed_health (st := .s5) (rest := [.s6]) (before := s.brc.holding.health)
    ((endStep_test .s4 o s).trans htest) (by rw [endStep_drc, hbefore]) (by rw [← hhealth]; exact hchanged) rfl (by decide)
  rw [← hfinished] at hjudged hdoor
  cases h with
  | ended => exact (hdoor hafter).2
  | judged =>
    rw [hjudged.judgeRelease_eq] at hafter ⊢
    exact (hdoor hafter).2

/-! ### The two events (R134) -/

/-- From `s` to `u` a feedback is stored, confirmed and supervised at most: the test with its record, the healths and every other
block stay. -/
structure TestUntouched (s u : State) : Prop where
  test : u.brc.test = s.brc.test
  result : u.brc.result = s.brc.result
  health : ∀ c, (u.brc.channel c).health = (s.brc.channel c).health
  blocks : u.cmc = s.cmc ∧ u.odo = s.odo ∧ u.lps = s.lps ∧ u.rtb = s.rtb ∧ u.drc = s.drc ∧ u.hlp = s.hlp ∧ u.sld = s.sld ∧
    u.pending = s.pending

theorem TestUntouched.refl (s : State) : TestUntouched s s := ⟨rfl, rfl, fun _ => rfl, by simp⟩

theorem superviseFeedback_taken (f : Feedback) (s : State) :
    TestUntouched s (superviseFeedback (feedbackChannel f) (feedbackTaken f s)) where
  test := by
    rw [(superviseFeedback_brc _ _).1]
    cases f <;> rfl
  result := by
    have hset : ∀ c x u, (setSupervision c x u).brc.result = u.brc.result := fun c x u => by cases c <;> rfl
    have hstored : (feedbackTaken f s).brc.result = s.brc.result := by cases f <;> rfl
    rcases superviseFeedback_sets (feedbackChannel f) (feedbackTaken f s) with h | ⟨x, h⟩
    · rw [h, hstored]
    · rw [h, hset, hstored]
  health c := by rw [(FeedbackKept.superviseFeedback _ _).health, feedbackTaken_channel]
  blocks := by simp [feedbackTaken]

/-- A feedback change that meets the condition of the running step ends it, and DRC judges a changed confirmation last. -/
theorem feedbackChange_ends {s : State} {c : TestContext} {f : Feedback} (htest : s.brc.test = some c)
    (hchannel : c.step.channel = feedbackChannel f) (hpasses : stepPasses c (storeFeedback f s).brc c.step = true) :
    ∃ u t, exec (.feedbackChange f) s = .next t ∧ TestUntouched s u ∧ StepEnds c (.pass (c.stepTimeout - c.left)) u t := by
  have huntouched := superviseFeedback_taken f s
  have hkept := FeedbackKept.superviseFeedback (feedbackChannel f) (feedbackTaken f s)
  have hstored : (feedbackTaken f s).brc.servicePressure = (storeFeedback f s).brc.servicePressure ∧
      (feedbackTaken f s).brc.holdingPressure = (storeFeedback f s).brc.holdingPressure ∧
      (feedbackTaken f s).brc.bandClosed = (storeFeedback f s).brc.bandClosed := by cases f <;> exact ⟨rfl, rfl, rfl⟩
  obtain ⟨hservice, hholding, hband⟩ := hstored
  have hpasses' : stepPasses c (superviseFeedback (feedbackChannel f) (feedbackTaken f s)).brc c.step = true := by
    rw [← hpasses]
    exact stepPasses_congr rfl rfl rfl (hkept.service.trans hservice) (hkept.holding.trans hholding)
      (hkept.band.trans hband) _
  have hended : testFeedback (feedbackChannel f) (superviseFeedback (feedbackChannel f) (feedbackTaken f s)) =
      finishStep c (.pass (c.stepTimeout - c.left)) (superviseFeedback (feedbackChannel f) (feedbackTaken f s)) := by
    unfold testFeedback
    rw [huntouched.test, htest]
    exact if_pos ⟨hchannel, hpasses'⟩
  have hconfirms : confirmHolding (feedbackChannel f) (superviseFeedback (feedbackChannel f) (storeFeedback f s)) =
      superviseFeedback (feedbackChannel f) (feedbackTaken f s) := confirmHolding_superviseFeedback _ _
  refine ⟨_, _, rfl, huntouched, ?_⟩
  rw [hconfirms, hended]
  split
  · exact .ended
  next hchanged =>
    have hholding : feedbackChannel f = .holding := by
      rw [hkept.confirmed] at hchanged
      cases f
      case holdingPressure => rfl
      all_goals exact absurd rfl hchanged
    exact .judged (hchannel.trans hholding)

/-- STEP_TIMER_EXPIRY ends the running step with FAIL. -/
theorem stepTimerExpiry_ends {s : State} {c : TestContext} (htest : s.brc.test = some c) :
    ∃ t, exec .stepTimerExpiry s = .next t ∧ StepEnds c (.fail c.stepTimeout) s t := by
  refine ⟨finishStep c (.fail c.stepTimeout) s, ?_, .ended⟩
  change execStepTimerExpiry s = _
  unfold execStepTimerExpiry
  rw [htest]

theorem stepTimerExpiry_idle {s : State} (h : s.brc.test = none) : exec .stepTimerExpiry s = .next s := by
  change execStepTimerExpiry s = _
  unfold execStepTimerExpiry
  rw [h]

/-- Settles O31: either event ends the step as `StepEnds` says, and each clause is one of its rules. -/
theorem brakeTestStepEnds : Obligations.BrakeTestStepEnds := by
  refine fun s => ⟨stepTimerExpiry_idle, fun c f i o htest hevent => ?_⟩
  have hends : ∃ u t, exec i s = .next t ∧ TestUntouched s u ∧ StepEnds c o u t := by
    rcases hevent with ⟨rfl, rfl⟩ | ⟨rfl, rfl, hmet⟩
    · obtain ⟨t, hexec, hends⟩ := stepTimerExpiry_ends htest
      exact ⟨s, t, hexec, .refl s, hends⟩
    · have hwatched : c.step.channel = feedbackChannel f ∧ stepPasses c (storeFeedback f s).brc c.step = true := by
        split at hmet
        case h_7 => exact absurd hmet id
        all_goals
          rename_i hstep
          rw [hstep]
        case h_5 => exact ⟨rfl, congrArg not hmet⟩
        case h_6 => exact ⟨rfl, hmet⟩
        all_goals exact ⟨rfl, decide_eq_true hmet⟩
      exact feedbackChange_ends htest hwatched.1 hwatched.2
  obtain ⟨u, t, hexec, hsame, hends⟩ := hends
  have htest' : u.brc.test = some c := hsame.test.trans htest
  obtain ⟨kcmc, kodo, klps, krtb, kdrc, khlp, ksld, kpending⟩ := hsame.blocks
  obtain ⟨hcmc, hodo, hlps, hrtb, hsld, hpending⟩ := hends.blocks
  refine ⟨t, hexec, ?_, fun st hst => ?_, hends.progress htest', fun st first hst hfirst => ?_, fun h6 => ?_,
    hends.testEnded htest', fun hbefore hafter => ?_, hcmc.trans kcmc, hodo.trans kodo, hlps.trans klps, hrtb.trans krtb,
    hends.links.slot.trans (by rw [khlp]), hsld.trans ksld, hpending.trans kpending⟩
  · rw [hends.outcome le_rfl, StepOutcomes.get_set_self]
  · have hne : st ≠ c.step := fun heq => absurd hst (by simp [heq])
    rw [hends.outcome hst.le, StepOutcomes.get_set_other _ _ hne, hsame.result]
  · subst hst
    rw [hends.health hfirst, hsame.result, ← StepOutcome.passed_iff, ← StepOutcome.passed_iff, ← Bool.and_eq_true]
    exact ⟨fun hpassed => if_pos hpassed, fun hfailed => if_neg hfailed⟩
  · obtain ⟨hnone, hresult⟩ := hends.completes h6
    classical
    refine ⟨hends.testEnded htest' hnone, by rw [hresult, hsame.result], ?_⟩
    rw [hresult]
    dsimp only
    rw [overallOutcome_eq]
    split <;> simp_all
  · have hbefore' : u.drc.doorHold = false := by rw [kdrc, hbefore]
    obtain ⟨st, hst, haborted⟩ := hends.doorAborted htest' hbefore' hafter
    refine ⟨haborted.ended, haborted.overall, st, haborted.abort, hst, fun h4 hchanged => ?_, fun st' hst' => ?_⟩
    · have habort := hends.abort_after_health htest' hbefore' hafter h4 (by rwa [hsame.health])
      simpa using haborted.abort.symm.trans habort
    · rw [haborted.later st' hst', hsame.result]

end Sys2Proof.Machine
end
